-- ==== Sys2Proof/Word.lean ====
section
/-! DEFINITION. The words of the CX412's wires: what the manual treats as bits. Quantities that the manual computes
with exactly (positions, velocities, scales, counts) are Int and Nat elsewhere (spec/00_scope.md, Rounding and arithmetic). -/

namespace Sys2Proof

/-- A byte on a station link (R184). -/
abbrev Byte := BitVec 8
/-- A request tag, a lane set on the wire, a frame check (R184, R186). -/
abbrev Word16 := BitVec 16
/-- A sample check (R191). -/
abbrev Word32 := BitVec 32

end Sys2Proof
end

