-- ==== Sys2Proof/Syntax.lean ====
section
/-! DEFINITION. The commands of the CX412: one constructor of `Instr` per row of spec/opcode_table.json, in its order,
with the operands the rules give the row. A request carries its frame (port, tag, arrival time) and its decoded body;
the bytes are in Machine/Encode.lean and Machine/Receive.lean. -/

namespace Sys2Proof

/-- The twelve lanes (spec/00_scope.md, Lanes). -/
abbrev Lane := Fin 12
/-- The four station links SL0 to SL3 (R170). -/
abbrev Port := Fin 4
/-- A directory slot (R79). -/
abbrev SlotNo := Fin 32
/-- A block of the array (R77). -/
abbrev BlockNo := Fin 64
/-- A lens profile slot (R62). -/
abbrev ProfileNo := Fin 4
/-- A zone table entry (R138). -/
abbrev ZoneNo := Fin 16
/-- A lane set as R186 encodes it: bit i for lane index i, bits 12 to 15 naming no lane. -/
abbrev LaneSet := Word16
/-- Operator labels: character codes (R186, name). -/
abbrev Name := List Byte

/-- Station roles in the order of R186. -/
inductive Role where
  | motion | arm | lens | assist | observer
  deriving DecidableEq, Repr

/-- A request body: decoded, or one that does not decode (R187). -/
inductive Body (α : Type) where
  | fields (a : α)
  | malformed
  deriving DecidableEq, Repr

/-- A port and a time. -/
structure PortTime where
  port : Port
  time : Nat
  deriving DecidableEq, Repr

/-- A valid frame as the port took it: its port, its tag and its arrival time in microseconds (R171). -/
structure Rx where
  port : Port
  tag : Word16
  time : Nat
  deriving DecidableEq, Repr

/-- The status a drive reports (R159). -/
inductive DriveStatus where
  | ok | fault
  deriving DecidableEq, Repr

/-- The lines as read at power-up (R137, R90). -/
structure LineStates where
  stop : Bool
  presence : Vector Bool 4
  protectClosed : Bool
  deriving DecidableEq, Repr

/-- What the power-up scan finds that does not read back whole (R66, R100, R165). -/
structure Damage where
  slots : List SlotNo
  blocks : List BlockNo
  profiles : List ProfileNo
  rig : Bool
  deriving DecidableEq, Repr

/-- The end of an erase suspend: the erase unfinished, or already finished with its verification (R84). -/
inductive SuspendEnd where
  | unfinished
  | finished (verified : Bool)
  deriving DecidableEq, Repr

/-- An ABILITY body (R186). -/
structure Ability where
  wanted : Role
  ack : Bool
  deriving DecidableEq, Repr

/-- Demand kinds in the order of R186. -/
inductive DemandKind where
  | abs | lens | step
  deriving DecidableEq, Repr

structure DemandEntry where
  lane : Nat
  kind : DemandKind
  value : Int
  deriving DecidableEq, Repr

structure TrimEntry where
  lane : Nat
  scale : Nat
  deriving DecidableEq, Repr

/-- The tables QUERY names, in the order of R183. -/
inductive TableName where
  | lanes | grants | stations | zones | presence | directory | profiles | rig | blocks
  deriving DecidableEq, Repr

structure FetchArgs where
  slot : Nat
  first : Nat
  count : Nat
  deriving DecidableEq, Repr

/-- A breakpoint of a lens table (R62). -/
structure Breakpoint where
  u : Nat
  p : Int
  deriving DecidableEq, Repr

/-- The content of a lens profile: tag, name and the three optional tables (R62). -/
structure Profile where
  tag : Nat
  name : Name
  focus : Option (List Breakpoint)
  iris : Option (List Breakpoint)
  zoom : Option (List Breakpoint)
  deriving DecidableEq, Repr

structure ProfileLoadArgs where
  slot : Nat
  profile : Profile
  deriving DecidableEq, Repr

/-- SHAPE SET: the lane and the carried fields (R21). -/
structure ShapeArgs where
  lane : Nat
  vmax : Option Nat
  a : Option Nat
  astop : Option Nat
  k : Option Nat
  trackTol : Option Nat
  followLimit : Option Nat
  deriving DecidableEq, Repr

structure LimitsArgs where
  lane : Nat
  min : Int
  max : Int
  deriving DecidableEq, Repr

/-- The Timebase's mode (R26). -/
inductive Mode where
  | internal | referenced
  deriving DecidableEq, Repr

/-- TIMEBASE SET: the carried fields; also the pending settings (R35). -/
structure TimebaseArgs where
  mode : Option Mode
  n : Option Nat
  period : Option Nat
  deriving DecidableEq, Repr

inductive ZoneKind where
  | keepOut | slow
  deriving DecidableEq, Repr

/-- One interval of a zone (R138). -/
structure Interval where
  lane : Nat
  low : Int
  high : Int
  deriving DecidableEq, Repr

/-- A zone record (R138). -/
structure ZoneRecord where
  kind : ZoneKind
  enabled : Bool
  scale : Nat
  intervals : List Interval
  deriving DecidableEq, Repr

structure ZoneSetArgs where
  entry : Nat
  record : ZoneRecord
  deriving DecidableEq, Repr

structure PresenceArgs where
  line : Nat
  lanes : LaneSet
  scale : Nat
  deriving DecidableEq, Repr

/-- RECORD: the start is NEXT (none) or a frame number (R104). -/
structure RecordArgs where
  slot : Nat
  lanes : LaneSet
  name : Name
  start : Option Nat
  deriving DecidableEq, Repr

inductive MarkKind where
  | defer | resume | cue
  deriving DecidableEq, Repr

inductive EndMode where
  | yield | holdEnd
  deriving DecidableEq, Repr

structure CueArgs where
  slot : Nat
  lanes : LaneSet
  scale : Option Nat
  endMode : Option EndMode
  deriving DecidableEq, Repr

inductive ProtectAction where
  | lock | unlock | lockDown
  deriving DecidableEq, Repr

structure ProtectArgs where
  slot : Nat
  action : ProtectAction
  deriving DecidableEq, Repr

/-- TAKE OPEN: the slot and the header it carries (R92). -/
structure OpenArgs where
  slot : Nat
  name : Name
  lanes : LaneSet
  n : Nat
  period : Nat
  referenced : Bool
  lensTag : Nat
  deriving DecidableEq, Repr

/-- A sample as a STAGE sends it: its marks byte is checked only at commit (R93, R191). -/
structure StagedSample where
  offset : Nat
  marks : Byte
  pos : List Int
  deriving DecidableEq, Repr

/-- The carried per-lane fields of one RIG WRITE entry, in the order of R165. -/
structure RigEntry where
  lane : Nat
  hardMin : Option Int
  hardMax : Option Int
  vmaxCeil : Option Nat
  aCeil : Option Nat
  astopFloor : Option Nat
  followCeil : Option Nat
  defVmax : Option Nat
  defA : Option Nat
  defAstop : Option Nat
  defK : Option Nat
  deriving DecidableEq, Repr

structure RigArgs where
  identity : Option Nat
  presentSet : Option LaneSet
  entries : List RigEntry
  deriving DecidableEq, Repr

/-- The commands. A `time` is in microseconds since power-up. -/
inductive Instr where
  | powerUp (lines : LineStates) (damage : Damage)
  | startingEnd
  | frameStart
  | servoTick
  | referencePulse (time : Nat)
  | overdueFrameStart
  | missingPulse
  | flywheelToSearch
  | stallLimit
  | deferMissed
  | driveReply (lane : Lane) (f t : Nat) (status : DriveStatus) (count : Int)
  | driveReplyMissing (lane : Lane)
  | stopLineAssert
  | stopLineDeassert
  | releasePulse
  | presenceAssert (line : Fin 4)
  | presenceDeassert (line : Fin 4)
  | protectLineChange (closed : Bool)
  | releaseWindowExpiry (time : Nat)
  | arrayReadDone
  | programSampleDone (ok : Bool)
  | chunkPartDone (ok : Bool)
  | eraseDone (verified : Bool)
  | eraseSuspendDone (result : SuspendEnd)
  | eraseResumeDone
  | reservedWriteDone (ok : Bool)
  | idleFill (port : Port) (time : Nat)
  | abilityOffer (due : PortTime)
  | ability (rx : Rx) (body : Body Ability)
  | otherFrameInOffer (rx : Rx)
  | discardedFrame (port : Port)
  | negotiationDeadline (port : Port) (time : Nat)
  | failedTimeout (port : Port) (time : Nat) (recognises : Bool)
  | linkSilence (port : Port) (time : Nat)
  | leaveReplySent (port : Port)
  | frameSent (port : Port)
  | unknownRequest (rx : Rx)
  | acquire (rx : Rx) (body : Body LaneSet)
  | yield (rx : Rx) (body : Body LaneSet)
  | demand (rx : Rx) (body : Body (List DemandEntry))
  | trim (rx : Rx) (body : Body (List TrimEntry))
  | stop (rx : Rx) (body : Body Unit)
  | query (rx : Rx) (body : Body TableName)
  | takeFetch (rx : Rx) (body : Body FetchArgs)
  | ping (rx : Rx) (body : Body Unit)
  | leave (rx : Rx) (body : Body Unit)
  | releaseAsk (rx : Rx) (body : Body Unit)
  | releaseAgree (rx : Rx) (body : Body Unit)
  | park (rx : Rx) (body : Body Unit)
  | unpark (rx : Rx) (body : Body Unit)
  | profileLoad (rx : Rx) (body : Body ProfileLoadArgs)
  | profileSelect (rx : Rx) (body : Body (Option Nat))
  | shapeSet (rx : Rx) (body : Body ShapeArgs)
  | limitsSet (rx : Rx) (body : Body LimitsArgs)
  | timebaseSet (rx : Rx) (body : Body TimebaseArgs)
  | zoneSet (rx : Rx) (body : Body ZoneSetArgs)
  | zoneDrop (rx : Rx) (body : Body Nat)
  | presenceSet (rx : Rx) (body : Body PresenceArgs)
  | record (rx : Rx) (body : Body RecordArgs)
  | mark (rx : Rx) (body : Body MarkKind)
  | recordEnd (rx : Rx) (body : Body Unit)
  | cue (rx : Rx) (body : Body CueArgs)
  | roll (rx : Rx) (body : Body (Option Nat))
  | segmentDone (rx : Rx) (body : Body Unit)
  | uncue (rx : Rx) (body : Body Unit)
  | takeProtect (rx : Rx) (body : Body ProtectArgs)
  | takeErase (rx : Rx) (body : Body Nat)
  | takeOpen (rx : Rx) (body : Body OpenArgs)
  | stage (rx : Rx) (body : Body (List StagedSample))
  | stageCommit (rx : Rx) (body : Body Unit)
  | takeClose (rx : Rx) (body : Body Unit)
  | takeDiscard (rx : Rx) (body : Body Unit)
  | takeStatusClear (rx : Rx) (body : Body Unit)
  | rigWrite (rx : Rx) (body : Body RigArgs)
  | rigFreeze (rx : Rx) (body : Body Unit)
  deriving DecidableEq, Repr

end Sys2Proof
end

