-- ==== Sys2Proof/Decode.lean ====
section
/-! DEFINITION. The words of the opcode table. No row of spec/opcode_table.json gives bits (its `fields` are all empty), so
no word spells a command; the bytes of the station links are decoded in Machine/Receive.lean (R184 to R187). -/

namespace Sys2Proof

/-- A row of the table that gives bits: its width, the value of its bits, and its command. -/
structure TableRow where
  nbits : Nat
  word : Nat
  command : Instr
  deriving DecidableEq, Repr

/-- The rows that give bits: none (log 1). -/
def tableRows : List TableRow := []

/-- The command a word spells by the table's bits. -/
def decodeTableWord (nbits w : Nat) : Option Instr :=
  (tableRows.find? fun r => r.nbits = nbits ∧ r.word = w).map fun r => r.command

end Sys2Proof
end

