-- ==== Sys2Proof/Config.lean ====
section
/-! DEFINITION. What the manual leaves open: the model's free values. Nothing in Lean can evaluate one. -/

namespace Sys2Proof

/-- FREE VALUE (log 13). R76: each change of a block's stored state that an operation makes "is either wholly done or
not done at all when power is lost"; for a PROGRAM in progress at a power loss the manual does not say which. The
argument is the number of power losses before this one. -/
opaque Config.interruptedStoreDone : Nat → Bool

end Sys2Proof
end

