-- ==== Sys2Proof/Machine/State.lean ====
section
/-! DEFINITION. The state of the CX412, block by block, as plain data; the reasons a step can stop; the state after
reset (power-up with a new array); and one named update per field of `State`. -/

namespace Sys2Proof.Machine

open Sys2Proof

/-- No event of the manual stops the part: trouble is a stop cause (R144), a sticky flag (R87), a latched flag (R178) or
a refusal REPLY (R179), all of them effects on `State`. So there is no fault. -/
inductive Fault where
  deriving DecidableEq, Repr

/-- Why a step has no meaning. -/
inductive Refusal where
  /-- Raised only by an arm of `exec` for a command that has no meaning yet; no arm does. Safe. -/
  | notModelled (mnemonic : String)
  deriving DecidableEq, Repr

/-! ### Timebase (R26) -/

inductive Lock where
  | none | search | locked | flywheel
  deriving DecidableEq, Repr

structure Timebase where
  mode : Mode
  lock : Lock
  n : Nat
  internalPeriod : Nat
  workingPeriod : Nat
  f : Nat
  t : Nat
  runCount : Nat
  flywheelCount : Nat
  lastPulse : Option Nat
  /-- The previous interval of R29. -/
  prevInterval : Option Nat
  pendingSettings : Option TimebaseArgs
  /-- A frame start has been issued since power-up (R26, R27). -/
  started : Bool
  /-- The latest frame start was the ninth flywheel frame start, which returned to SEARCH (R33; log 9). -/
  lastChance : Bool
  /-- Time of the latest frame start, or of the pulse taken as its pulse (R27, R33; log 6). -/
  frameTime : Nat
  deriving DecidableEq, Repr

/-! ### Lane records (R1) -/

inductive DisableReason where
  | driveFault | followError
  deriving DecidableEq, Repr

inductive Condition where
  | active
  | disabled (reason : DisableReason)
  | parked
  deriving DecidableEq, Repr

structure LaneRec where
  present : Bool
  condition : Condition
  p : Int
  v : Int
  t : Int
  softMin : Int
  softMax : Int
  vmax : Nat
  a : Nat
  astop : Nat
  k : Nat
  trackTol : Nat
  followLimit : Nat
  sEff : Nat
  limitClip : Bool
  capped : Bool
  deriving DecidableEq, Repr

/-! ### Grant Table (R40, R41) -/

inductive Holder where
  | station (port : Port)
  | playback
  deriving DecidableEq, Repr

structure Context where
  kind : DemandKind
  d : Option Int
  o : Int
  trim : Nat
  deriving DecidableEq, Repr

/-- A lane's holder with what exists only while the lane is held: its level, the grant setpoint and the context. -/
structure Hold where
  who : Holder
  level : Nat
  setpoint : Int
  ctx : Context
  deriving DecidableEq, Repr

structure StackEntry where
  port : Port
  level : Nat
  ctx : Context
  deriving DecidableEq, Repr

structure PendEntry where
  port : Port
  level : Nat
  arrival : Nat
  deriving DecidableEq, Repr

structure Grant where
  holder : Option Hold
  stack : List StackEntry
  waiting : List PendEntry
  deriving DecidableEq, Repr

/-! ### Lens Map Unit (R62, R63) -/

/-- Whether the reserved area holds the working copy (R62, R165). -/
inductive StoreState where
  | stored | writeWaiting | writing | failed
  deriving DecidableEq, Repr

structure ProfileSlot where
  profile : Profile
  store : StoreState
  deriving DecidableEq, Repr

structure Lens where
  slots : Vector ProfileSlot 4
  active : Option ProfileNo
  deriving DecidableEq, Repr

/-! ### Take memory (chapter 5) -/

structure Marks where
  defer : Bool
  resume : Bool
  cue : Bool
  deriving DecidableEq, Repr

/-- A sample composed by the Recorder and not yet programmed (R106). -/
structure Sample where
  offset : Nat
  marks : Marks
  pos : List Int
  deriving DecidableEq, Repr

/-- A sample as it lies in a block, with its check (R79, R191). -/
structure StoredSample where
  offset : Nat
  marks : Marks
  pos : List Int
  check : Word32
  deriving DecidableEq, Repr

inductive BlockState where
  | free
  | used (owner : SlotNo) (place : Nat) (retire : Bool)
  | dirty
  | erasing (suspended : Bool)
  | bad
  deriving DecidableEq, Repr

structure Block where
  state : BlockState
  data : List StoredSample
  deriving DecidableEq, Repr

inductive SlotState where
  | empty | recording | uploading | complete | truncated
  deriving DecidableEq, Repr

structure Header where
  name : Name
  lanes : LaneSet
  n : Nat
  period : Nat
  referenced : Bool
  lensTag : Nat
  length : Nat
  interrupted : Bool
  impliedResume : Bool
  deriving DecidableEq, Repr

structure Slot where
  state : SlotState
  header : Option Header
  blocks : List BlockNo
  locked : Bool
  down : Bool
  openLocked : Bool
  /-- Blocks whose release the slot's waiting directory write carries (R76). -/
  released : List BlockNo
  deriving DecidableEq, Repr

/-- A slot's record as a directory write stores it (R76). -/
structure SlotRecord where
  state : SlotState
  header : Option Header
  deriving DecidableEq, Repr

structure RigLane where
  hardMin : Int
  hardMax : Int
  vmaxCeil : Nat
  aCeil : Nat
  astopFloor : Nat
  followCeil : Nat
  defVmax : Nat
  defA : Nat
  defAstop : Nat
  defK : Nat
  deriving DecidableEq, Repr

/-- The rig record (R165). -/
structure RigRecord where
  identity : Nat
  presentSet : LaneSet
  lanes : Vector RigLane 12
  frozen : Bool
  deriving DecidableEq, Repr

/-- The reserved area's stored copies (R76); none: does not read back whole. -/
structure Stored where
  blocks : Vector BlockState 64
  slots : Vector SlotRecord 32
  profiles : Vector (Option Profile) 4
  rig : Option RigRecord
  deriving DecidableEq, Repr

inductive BufferState where
  | empty | filling
  | queued (order : Nat)
  | programming
  deriving DecidableEq, Repr

/-- A staging buffer (R93); `first` and `last` are the offsets CHUNK_DONE reports (R95). -/
structure StageBuffer where
  state : BufferState
  samples : List StagedSample
  first : Nat
  last : Option Nat
  /-- The samples of a part that failed and is still to program (R86). -/
  part : Option Nat
  deriving DecidableEq, Repr

structure Upload where
  nextOffset : Nat
  spanOpen : Bool
  deriving DecidableEq, Repr

/-- A fetch in progress, from its acceptance until its REPLY is sent (R98). -/
structure Fetch where
  port : Port
  tag : Word16
  slot : SlotNo
  next : Nat
  left : Nat
  samples : List StoredSample
  adjusted : Bool
  deriving DecidableEq, Repr

/-- What a reserved-area write waits to store (R75, R76). -/
inductive Reserved where
  | dir (slot : SlotNo)
  | profile (slot : ProfileNo)
  | rig
  deriving DecidableEq, Repr

/-- A reserved-area write in progress, with its content as it stood when the write began. -/
inductive ReservedWrite where
  | dir (slot : SlotNo) (content : SlotRecord) (released : List (BlockNo × BlockState))
  | profile (slot : ProfileNo) (content : Profile)
  | rig (content : RigRecord)
  deriving DecidableEq, Repr

inductive ReadDest where
  | play (index : Nat)
  | fetch (port : Port)
  /-- The reader is gone: the READ completes without effect (R98, R118). -/
  | dropped
  deriving DecidableEq, Repr

/-- The operation in progress (R75). -/
inductive ArrayOp where
  | read (slot : SlotNo) (index : Nat) (dest : ReadDest)
  | programSample (slot : SlotNo) (block : BlockNo)
  /-- `live` is cleared when the upload is discarded (R97). -/
  | chunkPart (slot : SlotNo) (block : BlockNo) (buffer : Fin 2) (count : Nat) (live : Bool)
  | erase (block : BlockNo)
  | suspend (block : BlockNo)
  /-- `again`: a recording or a playback became active meanwhile (R84). -/
  | resume (block : BlockNo) (again : Bool)
  | reserved (write : ReservedWrite)
  deriving DecidableEq, Repr

structure TakeMemory where
  blocks : Vector Block 64
  slots : Vector Slot 32
  buffers : Vector StageBuffer 2
  upload : Upload
  nextCommit : Nat
  fetches : List Fetch
  reservedQueue : List Reserved
  op : Option ArrayOp
  programFail : Bool
  eraseFail : Bool
  chunkReject : Bool
  protectClosed : Bool
  stored : Stored
  deriving DecidableEq, Repr

/-! ### Recorder (R103) -/

inductive RecState where
  | idle | armed | recording | draining
  deriving DecidableEq, Repr

inductive RecOutcome where
  | done | overrun | noRoom | length | stopped | referenceLost | linkLost
  deriving DecidableEq, Repr

/-- The start of a recording: NEXT or a frame number (R103). -/
inductive StartSpec where
  | next
  | frame (f : Nat)
  deriving DecidableEq, Repr

structure Recorder where
  state : RecState
  slot : Option SlotNo
  lanes : LaneSet
  start : Option StartSpec
  /-- The start frame reckoned from `start` at acceptance (R104). -/
  startFrame : Option Nat
  fStart : Option Nat
  composed : Nat
  marks : Marks
  spanOpen : Bool
  endPending : Bool
  marksDropped : Bool
  outcome : Option RecOutcome
  queue : List Sample
  name : Name
  lensTag : Nat
  deriving DecidableEq, Repr

/-! ### Playback Unit (R114) -/

inductive PlayState where
  | idle | cueing | ready | rollArmed | rolling | deferred | holdEnd
  deriving DecidableEq, Repr

inductive PlayOutcome where
  | done | aborted | stall | deferMissed | stopped | referenceLost | linkLost
  deriving DecidableEq, Repr

/-- A sample in the read-ahead buffer: its index, its marks and the positions of the participating lanes (R114). -/
structure BufSample where
  index : Nat
  marks : Marks
  pos : Vector (Option Int) 12
  deriving DecidableEq, Repr

structure Playback where
  state : PlayState
  slot : Option SlotNo
  length : Option Nat
  participation : LaneSet
  endMode : Option EndMode
  cueScale : Option Nat
  /-- The start frame and the start index j. -/
  armed : Option (Nat × Nat)
  fRoll : Option Nat
  k : Option Nat
  deferIndex : Option Nat
  resumeIndex : Option Nat
  holdPoints : Option (Vector (Option Int) 12)
  endHold : Option (Vector (Option Int) 12)
  spoiled : Bool
  slipReported : Bool
  stallCount : Nat
  stallDemands : Option (Vector (Option Int) 12)
  buffer : List BufSample
  nextRead : Nat
  /-- Marks of sample k wait for the end of a stall (R123, step 4). -/
  marksDue : Bool
  /-- The demand supplied at the latest step (R124, R126). -/
  lastDemand : Vector (Option Int) 12
  deriving DecidableEq, Repr

/-! ### Safety Monitor (R137) -/

inductive StopState where
  | run | stopping | stopped | releasing
  deriving DecidableEq, Repr

inductive CauseKind where
  | stationStop (port : Port)
  | zonePredicted (zone : ZoneNo)
  | zoneBreached (zone : ZoneNo)
  | stopLine
  | driveFault (lane : Lane)
  | followError (lane : Lane)
  | powerUp
  deriving DecidableEq, Repr

structure Cause where
  kind : CauseKind
  f : Nat
  t : Nat
  deriving DecidableEq, Repr

structure ZoneEntry where
  record : Option ZoneRecord
  predicting : Bool
  breached : Bool
  exiting : Bool
  deriving DecidableEq, Repr

structure PresenceEntry where
  lanes : LaneSet
  scale : Nat
  asserted : Bool
  deriving DecidableEq, Repr

/-- In RELEASING: the asking station's port and the time the window closes. -/
structure ReleaseRecord where
  asker : Port
  closes : Nat
  deriving DecidableEq, Repr

structure Safety where
  zones : Vector ZoneEntry 16
  presence : Vector PresenceEntry 4
  stopLine : Bool
  stop : StopState
  causes : List Cause
  drivePower : Bool
  release : Option ReleaseRecord
  /-- An UNPARK was accepted during the ramp (R148, R164). -/
  unparkInRamp : Bool
  deriving DecidableEq, Repr

/-! ### Drive Port (R157) -/

inductive ChannelStatus where
  | ok | fault | missing
  deriving DecidableEq, Repr

/-- The exchange of a tick: the count sent, or none for a status poll (R158). -/
structure Exchange where
  f : Nat
  t : Nat
  sent : Option Int
  deriving DecidableEq, Repr

/-- One change of an output line (R162). -/
inductive Edge where
  | enableOn | brakeOn | brakeOff | enableOff
  deriving DecidableEq, Repr

structure Channel where
  lastSent : Option Int
  latestCount : Option Int
  status : ChannelStatus
  missing : Nat
  faultReported : Bool
  enable : Bool
  brake : Bool
  exchange : Option Exchange
  /-- The latest change of the two outputs, in the order made (R162). -/
  edges : List Edge
  /-- The lane is settled (R161). -/
  settled : Bool
  deriving DecidableEq, Repr

structure DrivePort where
  channels : Vector Channel 12
  parked : Bool
  deriving DecidableEq, Repr

/-! ### Rig record unit (R165) -/

structure Rig where
  record : RigRecord
  store : StoreState
  freezePending : Bool
  deriving DecidableEq, Repr

/-! ### What the ports send: replies, events, telemetry -/

inductive Reason where
  | noRight | wrongState | busy | badValue | takeProtected | noRoom | unfrozen | unknown
  deriving DecidableEq, Repr

inductive ReplyOutcome where
  | done | accepted
  | refused (reason : Reason)
  deriving DecidableEq, Repr

/-- Per-lane results in the order of R188. -/
inductive LaneResult where
  | gained | pending | holding | waiting | suspended | released | notHeld | noRight | badValue | wrongState
  | notInTake | notActive | lensTag | participates
  deriving DecidableEq, Repr

/-- The conditions of R64 that hold. -/
structure LensUse where
  held : Bool
  stacked : Bool
  playback : Bool
  recorder : Bool
  deriving DecidableEq, Repr

inductive LinkState where
  | down | offer | acknowledge | active | failed
  deriving DecidableEq, Repr

/-- A port's line of the station table (R183). -/
structure PortView where
  link : LinkState
  role : Option Role
  level : Option Nat
  linkLost : Bool
  checkError : Bool
  requestsLost : Bool
  eventDepth : Nat
  replyDepth : Nat
  fetchSlot : Option SlotNo
  holdsMotion : Bool
  deriving DecidableEq, Repr

/-- A table as it stands when the QUERY is taken (R183). -/
inductive Table where
  | lanes (records : Vector LaneRec 12)
  | grants (presentSet : LaneSet) (grants : Vector Grant 12)
  | stations (ports : Vector PortView 4)
  | zones (zones : Vector ZoneEntry 16)
  | presence (entries : Vector PresenceEntry 4)
  | directory (slots : Vector Slot 32) (upload : Upload) (buffers : Vector StageBuffer 2)
  | profiles (slots : Vector ProfileSlot 4) (active : Option ProfileNo) (use : LensUse)
  | rig (rig : Rig) (presentSet : LaneSet) (channels : Vector Channel 12)
  | blocks (states : Vector BlockState 64) (op : Option ArrayOp) (programFail eraseFail chunkReject : Bool)
  deriving DecidableEq, Repr

inductive Payload where
  | empty
  | failingSample (index : Nat)
  | cue (length n period : Nat) (referenced matchN matchPeriod matchReferenced : Bool)
  | samples (samples : List StoredSample)
  | table (table : Table)
  deriving DecidableEq, Repr

/-- How a REPLY counts: an ordinary one, a fetch's (not counted among the 8, R179), or the answer to LEAVE (R177). -/
inductive ReplyKind where
  | ordinary | fetch | leave
  deriving DecidableEq, Repr

structure Reply where
  tag : Word16
  kind : ReplyKind
  outcome : ReplyOutcome
  adjusted : Bool
  badValue : Bool
  lensInvalid : Bool
  ignored : Nat
  results : List (Nat × LaneResult)
  payload : Payload
  /-- Frames of it already sent (R180, R185). -/
  framesSent : Nat
  deriving DecidableEq, Repr

inductive ClipLimit where
  | softMin | softMax
  deriving DecidableEq, Repr

inductive GainCause where
  | preempt | hold | pending
  deriving DecidableEq, Repr

inductive EndReason where
  | yield | linkLost | playbackEnd
  deriving DecidableEq, Repr

/-- Who completed a release (R155). -/
inductive Party where
  | port (port : Port)
  | releaseLine
  deriving DecidableEq, Repr

inductive StopReason where
  | reached | releaseExpired | askerLost | newCause | checkFailed
  deriving DecidableEq, Repr

inductive DownReason where
  | silent | leave
  deriving DecidableEq, Repr

/-- The events with their content fields, in the order of R181's audience table. -/
inductive EventBody where
  | limitClip (lane : Lane) (limit : ClipLimit)
  | grantGained (lane : Lane) (subject : Holder) (level : Nat) (cause : GainCause) (setpoint : Int)
  | grantSuspended (lane : Lane) (subject : Holder) (level : Nat) (by_ : Holder) (depth : Nat)
  | grantRestored (lane : Lane) (subject : Holder) (level : Nat) (offset : Option Int) (setpoint : Int)
  | grantPending (lane : Lane) (subject : Holder) (level : Nat) (position : Nat)
  | grantEnded (lane : Lane) (subject : Holder) (level : Nat) (reason : EndReason) (next : Option Holder)
  | grantCleared (lane : Lane) (subject : Holder) (level : Nat)
  | stopCause (kind : CauseKind) (f t : Nat) (state : StopState)
  | stopState (previous new : StopState) (asker : Option Port) (party : Option Party) (reason : Option StopReason)
  | drivePower (on : Bool)
  | exitCleared (zone : ZoneNo) (f t : Nat)
  | blockBad (block : BlockNo)
  | chunkDone (noRoom : Bool) (first : Nat) (last : Option Nat)
  | recordStart (slot : SlotNo) (fStart : Nat)
  | recordEnd (slot : Option SlotNo) (outcome : RecOutcome) (length : Nat) (interrupted impliedResume marksDropped : Bool)
      (fStart lastFrame : Option Nat)
  | cueReady (slot : Option SlotNo) (participation : LaneSet)
  | rollStart (slot : Option SlotNo) (fRoll : Nat)
  | playMark (k f : Nat)
  | segmentStart (d f : Nat) (resume : Option (Nat × Nat))
  | segmentEnd (r : Nat) (late : Bool)
  | trackSlip (lane : Lane) (f t : Nat) (error : Int)
  | playHeld (slot : Option SlotNo) (spoiled : Bool) (f : Nat)
  | playEnd (slot : Option SlotNo) (outcome : PlayOutcome) (spoiled : Bool) (k : Option Nat) (f : Nat)
  | rigFrozen (ok : Bool)
  | linkUp (port : Port) (role : Role)
  | linkDown (port : Port) (role : Option Role) (reason : DownReason)
  deriving DecidableEq, Repr

/-- An event with the tick at which it was raised (R188). -/
structure Event where
  f : Nat
  t : Nat
  body : EventBody
  deriving DecidableEq, Repr

/-- A lane block of TELEMETRY (R182, R189). -/
structure LaneView where
  present : Bool
  p : Int
  v : Int
  sEff : Nat
  lensValue : Option Int
  holder : Option Holder
  condition : Condition
  limitClip : Bool
  capped : Bool
  status : ChannelStatus
  outputs : Bool
  deriving DecidableEq, Repr

/-- A TELEMETRY frame (R182). -/
structure Telemetry where
  f : Nat
  mode : Mode
  lock : Lock
  n : Nat
  flywheelCount : Nat
  workingPeriod : Nat
  stop : StopState
  drivePower : Bool
  asker : Option Port
  stopLine : Bool
  presence : Vector Bool 4
  parked : Bool
  frozen : Bool
  freezePending : Bool
  eventsLost : Bool
  programFail : Bool
  eraseFail : Bool
  chunkReject : Bool
  role : Option Role
  eventDepth : Nat
  playState : PlayState
  playSlot : Option SlotNo
  spoiled : Bool
  k : Option Nat
  r : Option Nat
  stallCount : Nat
  readAhead : Nat
  recState : RecState
  recSlot : Option SlotNo
  composed : Nat
  programmed : Nat
  queueDepth : Nat
  spanOpen : Bool
  endPending : Bool
  lanes : Vector LaneView 12
  causes : List Cause
  deriving DecidableEq, Repr

/-- The frame a port's transmitter is sending (R180). A REPLY or an event stays at the head of its queue until sent. -/
inductive Sending where
  | telemetry (frame : Telemetry)
  | reply
  | event
  deriving DecidableEq, Repr

/-- An ABILITY OFFER (R172, R174). -/
structure Offer where
  presentSet : LaneSet
  motionFree : Bool
  ack : Bool
  granted : Option Role
  deriving DecidableEq, Repr

/-- A Station Port (R170). -/
structure StationPort where
  link : LinkState
  role : Option Role
  level : Option Nat
  abilityRole : Option Role
  abilityCount : Nat
  otherRun : Nat
  deadline : Option Nat
  /-- Time of entry to FAILED (R176). -/
  failedSince : Option Nat
  /-- When the next ABILITY OFFER is due (R172, R174). -/
  nextOffer : Option Nat
  lastValid : Option Nat
  linkLost : Bool
  checkError : Bool
  requestsLost : Bool
  events : List Event
  eventsLost : Bool
  replies : List Reply
  telemetry : Option Telemetry
  /-- LEAVE has been taken (R177). -/
  leaving : Bool
  sending : Option Sending
  /-- The ABILITY OFFER sent last. -/
  offer : Option Offer
  deriving DecidableEq, Repr

/-- The whole part, and the queue of commands waiting. -/
structure State where
  starting : Bool
  tb : Timebase
  lanes : Vector LaneRec 12
  grants : Vector Grant 12
  nextArrival : Nat
  lens : Lens
  mem : TakeMemory
  recorder : Recorder
  play : Playback
  safety : Safety
  drives : DrivePort
  rig : Rig
  ports : Vector StationPort 4
  powerLosses : Nat
  pending : List Instr
  deriving DecidableEq, Repr

/-! ### One update per field of State -/

def State.setStarting (s : State) (x : Bool) : State := { s with starting := x }
def State.setTb (s : State) (x : Timebase) : State := { s with tb := x }
def State.setLanes (s : State) (x : Vector LaneRec 12) : State := { s with lanes := x }
def State.setGrants (s : State) (x : Vector Grant 12) : State := { s with grants := x }
def State.setNextArrival (s : State) (x : Nat) : State := { s with nextArrival := x }
def State.setLens (s : State) (x : Lens) : State := { s with lens := x }
def State.setMem (s : State) (x : TakeMemory) : State := { s with mem := x }
def State.setRecorder (s : State) (x : Recorder) : State := { s with recorder := x }
def State.setPlay (s : State) (x : Playback) : State := { s with play := x }
def State.setSafety (s : State) (x : Safety) : State := { s with safety := x }
def State.setDrives (s : State) (x : DrivePort) : State := { s with drives := x }
def State.setRig (s : State) (x : Rig) : State := { s with rig := x }
def State.setPorts (s : State) (x : Vector StationPort 4) : State := { s with ports := x }
def State.setPowerLosses (s : State) (x : Nat) : State := { s with powerLosses := x }
def State.setPending (s : State) (x : List Instr) : State := { s with pending := x }

/-! ### After reset -/

/-- R26, last column. -/
def Timebase.reset : Timebase where
  mode := .internal
  lock := .none
  n := 20
  internalPeriod := 40000
  workingPeriod := 40000
  f := 0
  t := 0
  runCount := 0
  flywheelCount := 0
  lastPulse := none
  prevInterval := none
  pendingSettings := none
  started := false
  lastChance := false
  frameTime := 0

/-- A lane record at power-up under the blank rig record (R1, R23, R165). An absent lane keeps this record: its shaping
fields, its condition and its S_eff, which the rules do not give, are the model's choice (log 12). -/
def LaneRec.reset : LaneRec where
  present := false
  condition := .active
  p := 0
  v := 0
  t := 0
  softMin := 0
  softMax := 0
  vmax := 1
  a := 1
  astop := 1
  k := 1
  trackTol := 4096
  followLimit := 1
  sEff := 0
  limitClip := false
  capped := false

/-- R40: at power-up no holder, an empty stack and an empty pending list. -/
def Grant.reset : Grant := { holder := none, stack := [], waiting := [] }

/-- R62: an empty slot has tag 0 and no name and no tables. -/
def Profile.empty : Profile := { tag := 0, name := [], focus := none, iris := none, zoom := none }

/-- R66: a slot that does not read back whole; R63: no active selection. -/
def Lens.reset : Lens :=
  { slots := Vector.replicate 4 { profile := Profile.empty, store := .failed }, active := none }

/-- The blank record's lane fields (R165). -/
def RigLane.blank : RigLane where
  hardMin := 0
  hardMax := 0
  vmaxCeil := 1
  aCeil := 1
  astopFloor := 1
  followCeil := 1
  defVmax := 1
  defA := 1
  defAstop := 1
  defK := 1

/-- The blank record (R165). -/
def RigRecord.blank : RigRecord :=
  { identity := 0, presentSet := 0, lanes := Vector.replicate 12 RigLane.blank, frozen := false }

def Slot.reset : Slot :=
  { state := .empty, header := none, blocks := [], locked := false, down := false, openLocked := false, released := [] }

/-- The reserved area of a new array (R77, R165; log 12). -/
def Stored.newArray : Stored where
  blocks := Vector.replicate 64 .free
  slots := Vector.replicate 32 { state := .empty, header := none }
  profiles := Vector.replicate 4 none
  rig := none

def StageBuffer.reset : StageBuffer := { state := .empty, samples := [], first := 0, last := none, part := none }

def TakeMemory.reset : TakeMemory where
  blocks := Vector.replicate 64 { state := .free, data := [] }
  slots := Vector.replicate 32 Slot.reset
  buffers := Vector.replicate 2 StageBuffer.reset
  upload := { nextOffset := 0, spanOpen := false }
  nextCommit := 0
  fetches := []
  reservedQueue := []
  op := none
  programFail := false
  eraseFail := false
  chunkReject := false
  protectClosed := false
  stored := Stored.newArray

def Marks.none : Marks := { defer := false, resume := false, cue := false }

/-- R103, last column. -/
def Recorder.reset : Recorder where
  state := .idle
  slot := none
  lanes := 0
  start := none
  startFrame := none
  fStart := none
  composed := 0
  marks := Marks.none
  spanOpen := false
  endPending := false
  marksDropped := false
  outcome := none
  queue := []
  name := []
  lensTag := 0

/-- R114, last column. -/
def Playback.reset : Playback where
  state := .idle
  slot := none
  length := none
  participation := 0
  endMode := none
  cueScale := none
  armed := none
  fRoll := none
  k := none
  deferIndex := none
  resumeIndex := none
  holdPoints := none
  endHold := none
  spoiled := false
  slipReported := false
  stallCount := 0
  stallDemands := none
  buffer := []
  nextRead := 0
  marksDue := false
  lastDemand := Vector.replicate 12 none

def ZoneEntry.empty : ZoneEntry := { record := none, predicting := false, breached := false, exiting := false }

/-- R137, last column, with the lines deasserted (log 12). -/
def Safety.reset : Safety where
  zones := Vector.replicate 16 ZoneEntry.empty
  presence := Vector.replicate 4 { lanes := 0, scale := 65536, asserted := false }
  stopLine := false
  stop := .stopped
  causes := [{ kind := .powerUp, f := 0, t := 0 }]
  drivePower := false
  release := none
  unparkInRamp := false

/-- R157, last column. -/
def Channel.reset : Channel where
  lastSent := none
  latestCount := none
  status := .missing
  missing := 0
  faultReported := false
  enable := false
  brake := false
  exchange := none
  edges := []
  settled := false

def DrivePort.reset : DrivePort := { channels := Vector.replicate 12 Channel.reset, parked := false }

/-- R165: the blank record, FAILED. -/
def Rig.reset : Rig := { record := RigRecord.blank, store := .failed, freezePending := false }

/-- R170, last column. -/
def StationPort.reset : StationPort where
  link := .down
  role := none
  level := none
  abilityRole := none
  abilityCount := 0
  otherRun := 0
  deadline := none
  failedSince := none
  nextOffer := none
  lastValid := none
  linkLost := false
  checkError := false
  requestsLost := false
  events := []
  eventsLost := false
  replies := []
  telemetry := none
  leaving := false
  sending := none
  offer := none

/-- The part right after reset: power-up with a new array and every line deasserted (log 12), no command waiting. -/
def State.reset : State where
  starting := true
  tb := Timebase.reset
  lanes := Vector.replicate 12 LaneRec.reset
  grants := Vector.replicate 12 Grant.reset
  nextArrival := 0
  lens := Lens.reset
  mem := TakeMemory.reset
  recorder := Recorder.reset
  play := Playback.reset
  safety := Safety.reset
  drives := DrivePort.reset
  rig := Rig.reset
  ports := Vector.replicate 4 StationPort.reset
  powerLosses := 0
  pending := []

end Sys2Proof.Machine
end

