-- ==== Sys2Proof/Machine/Arith.lean ====
section
/-! DEFINITION. The manual's arithmetic (spec/00_scope.md, Rounding and arithmetic; Units and ranges), lane sets, and
the in-place change of one entry of a table. -/

namespace Sys2Proof.Machine

open Sys2Proof

/-! ### Ranges (spec/00_scope.md, Units and ranges) -/

/-- 2^38: positions lie in −2^38 to +2^38 fu. -/
def posBound : Int := 274877906944
/-- 2^39: offsets lie in −2^39 to +2^39 fu (R41). -/
def offBound : Int := 549755813888
/-- A scale of 65536 means full speed. -/
def fullScale : Nat := 65536
/-- The commissioning scale (R9, R168). -/
def commissioningScale : Nat := 4096
/-- The greatest acceleration. -/
def accMax : Nat := 1048575
/-- 2^24: the greatest Vmax and trackTol. -/
def vmaxMax : Nat := 16777216
/-- 2^20: the greatest followLimit. -/
def followMax : Nat := 1048576
/-- The greatest lens user value. -/
def userMax : Int := 1000000

/-! ### Clamps and rounding -/

/-- "Clamped to [lo, hi]". -/
def clampInt (lo hi x : Int) : Int := if x < lo then lo else if hi < x then hi else x
/-- "Clamped to [lo, hi]" for counts. -/
def clampNat (lo hi x : Nat) : Nat := if x < lo then lo else if hi < x then hi else x
/-- trunc of a quotient: toward zero. -/
def truncDiv (a b : Int) : Int := Int.tdiv a b
/-- floor of a quotient: toward minus infinity. -/
def floorDiv (a b : Int) : Int := Int.fdiv a b
/-- ceil of a quotient: toward plus infinity. -/
def ceilDiv (a b : Int) : Int := -(Int.fdiv (-a) b)
/-- |x| as a count. -/
def mag (x : Int) : Nat := x.natAbs
/-- A position clamped to its range. -/
def clampPos (x : Int) : Int := clampInt (-posBound) posBound x
/-- An offset held to its range (R51). -/
def clampOff (x : Int) : Int := clampInt (-offBound) offBound x
/-- x lies in −2^38 to +2^38. -/
def inPosRange (x : Int) : Bool := -posBound ≤ x && x ≤ posBound

/-! ### Lane sets (R186) -/

/-- Lane l is in the set. -/
def LaneSet.has (ls : LaneSet) (l : Lane) : Bool := ls.getLsbD l.val
/-- The lanes of a set in ascending index. -/
def LaneSet.members (ls : LaneSet) : List Lane := (List.finRange 12).filter fun l => LaneSet.has ls l
/-- The indices a set names, those outside 0 to 11 included (R187). -/
def LaneSet.indices (ls : LaneSet) : List Nat := (List.range 16).filter fun i => ls.getLsbD i
/-- The number of lanes of a set. -/
def LaneSet.count (ls : LaneSet) : Nat := (LaneSet.members ls).length
/-- Every index the set names lies in 0 to 11 (R104, R92). -/
def LaneSet.inRange (ls : LaneSet) : Bool := (LaneSet.indices ls).all fun i => i < 12
/-- The set of the lanes that satisfy f. -/
def LaneSet.ofPred (f : Lane → Bool) : LaneSet :=
  (List.finRange 12).foldl (fun acc l => if f l then acc ||| (1#16 <<< l.val) else acc) 0
/-- The set names FOCUS, IRIS or ZOOM (lanes 6 to 8). -/
def LaneSet.hasLens (ls : LaneSet) : Bool := ls.getLsbD 6 || ls.getLsbD 7 || ls.getLsbD 8

/-- A table index given as a number. -/
def indexOf (n i : Nat) : Option (Fin n) := if h : i < n then some ⟨i, h⟩ else none

/-! ### One entry of a table -/

/-- The table with entry i changed by f. -/
def updAt {α : Type} {n : Nat} (v : Vector α n) (i : Fin n) (f : α → α) : Vector α n := v.set i.val (f v[i]) i.isLt

/-- The table with every entry changed by f. -/
def mapAll {α β : Type} {n : Nat} (v : Vector α n) (f : Fin n → α → β) : Vector β n := Vector.ofFn fun i => f i v[i]

/-- A change made for each of a list of indices in turn. -/
def forEach {α : Type} (is : List α) (f : α → State → State) (s : State) : State := is.foldl (fun s i => f i s) s

/-- All lanes in ascending index. -/
def allLanes : List Lane := List.finRange 12
/-- All ports in ascending number. -/
def allPorts : List Port := List.finRange 4

end Sys2Proof.Machine
end

