-- ==== Sys2Proof/Machine/Encode.lean ====
section
/-! DEFINITION. The bytes of the frames the part sends (R184 to R191): the envelope and its check, REPLY with its data
frames, EVENT, TELEMETRY, ABILITY OFFER, and the records. Where a rule does not fix a layout byte for byte, log 21. -/

namespace Sys2Proof.Machine

open Sys2Proof

/-! ### Fields (R186) -/

/-- n bytes, most significant first. -/
def beNat (n x : Nat) : List Byte := (List.range n).reverse.map fun i => BitVec.ofNat 8 (x / 256 ^ i)
/-- n bytes of two's complement, most significant first. -/
def beInt (n : Nat) (x : Int) : List Byte := beNat n (x % (256 ^ n : Nat)).toNat
def byteOf (x : Nat) : Byte := BitVec.ofNat 8 x
/-- A field of one byte. -/
def one (b : Byte) : List Byte := [b]
/-- A yes/no or set/clear field: one byte, 1 for yes or set (log 21). -/
def flag (b : Bool) : List Byte := [if b then 1 else 0]
/-- A name: 16 bytes, ended by 0x00. -/
def encName (n : Name) : List Byte := n.take 16 ++ List.replicate (16 - n.length) 0
def encLaneSet (ls : LaneSet) : List Byte := beNat 2 ls.toNat
/-- A list: a count and its entries. -/
def encList {α : Type} (f : α → List Byte) (xs : List α) : List Byte := byteOf xs.length :: xs.flatMap f
/-- An optional value: one byte, 1 or 0, then the value when present (R186). -/
def encOpt {α : Type} (f : α → List Byte) : Option α → List Byte
  | none => [0]
  | some x => 1 :: f x
/-- A port, slot or frame-less number sent in one byte, 0xFF for none. -/
def encOr255 (x : Option Nat) : List Byte := [byteOf (x.getD 255)]

def encRole : Role → Byte
  | .motion => 0 | .arm => 1 | .lens => 2 | .assist => 3 | .observer => 4

/-- The port 0 to 3, PLAYBACK 4, none 0xFF (R186). -/
def encHolder : Option Holder → Byte
  | some (.station p) => byteOf p.val
  | some .playback => 4
  | none => 255

def encParty : Option Party → Byte
  | some (.port p) => byteOf p.val
  | some .releaseLine => 5
  | none => 255

def encStop : StopState → Byte
  | .run => 0 | .stopping => 1 | .stopped => 2 | .releasing => 3

def encStopReason : Option StopReason → Byte
  | some .reached => 0 | some .releaseExpired => 1 | some .askerLost => 2 | some .newCause => 3
  | some .checkFailed => 4 | none => 255

/-- A cause's kind and subject (R189). -/
def encCauseKind : CauseKind → List Byte
  | .stationStop p => [0, byteOf p.val]
  | .zonePredicted z => [1, byteOf z.val]
  | .zoneBreached z => [2, byteOf z.val]
  | .stopLine => [3, 255]
  | .driveFault l => [4, byteOf l.val]
  | .followError l => [5, byteOf l.val]
  | .powerUp => [6, 255]

/-- The class OFF of R144: STOP_LINE, DRIVE_FAULT, FOLLOW_ERROR and POWER_UP; the others are HOLD. -/
def CauseKind.isOff : CauseKind → Bool
  | .stationStop _ => false
  | .zonePredicted _ => false
  | .zoneBreached _ => false
  | .stopLine => true
  | .driveFault _ => true
  | .followError _ => true
  | .powerUp => true

def encKind : DemandKind → Byte
  | .abs => 0 | .lens => 1 | .step => 2

def encMarks (m : Marks) : Byte :=
  (if m.defer then 1 else 0) ||| (if m.resume then 2 else 0) ||| (if m.cue then 4 else 0)

/-! ### Samples and their check (R78, R190, R191) -/

/-- A stored sample of n lanes occupies 8 + 8·n bytes (R78). -/
def sampleBytes (n : Nat) : Nat := 8 + 8 * n

/-- The sum of R191: each byte other than the check weighted by its position counted from 1, modulo 2^32. -/
def weightedSum : Nat → List Byte → Nat
  | _, [] => 0
  | i, b :: bs => i * b.toNat + weightedSum (i + 1) bs

/-- The bytes before the check field. -/
def sampleHead (offset : Nat) (m : Marks) (count : Nat) : List Byte :=
  beNat 2 offset ++ [encMarks m, byteOf count]

/-- The sample check; positions are counted over the whole record, so the bytes after the check start at place 9. -/
def sampleCheck (offset : Nat) (m : Marks) (pos : List Int) : Word32 :=
  BitVec.ofNat 32
    (weightedSum 1 (sampleHead offset m pos.length) + weightedSum 9 (pos.flatMap (beInt 8)))

/-- The sample as the controller programs it: the check is computed and written with it (R191). -/
def storeSample (offset : Nat) (m : Marks) (pos : List Int) : StoredSample :=
  { offset := offset, marks := m, pos := pos, check := sampleCheck offset m pos }

def encSample (x : StoredSample) : List Byte :=
  sampleHead x.offset x.marks x.pos.length ++ beNat 4 x.check.toNat ++ x.pos.flatMap (beInt 8)

/-! ### Records (R190) -/

def encHeader (h : Header) : List Byte :=
  encName h.name ++ encLaneSet h.lanes ++ beNat 1 h.n ++ beNat 4 h.period ++
    one ((if h.referenced then 1 else 0) ||| (if h.interrupted then 2 else 0) ||| (if h.impliedResume then 4 else 0)) ++
    beNat 2 h.lensTag ++ beNat 2 h.length

def encZone (z : Nat) (r : ZoneRecord) : List Byte :=
  beNat 1 z ++ one (match r.kind with | .keepOut => 0 | .slow => 1) ++ flag r.enabled ++ beNat 4 r.scale ++
    encList (fun i => beNat 1 i.lane ++ beInt 8 i.low ++ beInt 8 i.high) r.intervals

def encPresence (line : Nat) (e : PresenceEntry) : List Byte :=
  beNat 1 line ++ encLaneSet e.lanes ++ beNat 4 e.scale

def encTable (t : Option (List Breakpoint)) : List Byte :=
  encList (fun b => beNat 4 b.u ++ beInt 8 b.p) (t.getD [])

def encProfile (slot : Nat) (p : Profile) : List Byte :=
  beNat 1 slot ++ beNat 2 p.tag ++ encName p.name ++ encTable p.focus ++ encTable p.iris ++ encTable p.zoom

/-! ### EVENT (R188) -/

/-- Events numbered in the order of R181's table, and their content fields: a value that may be absent has a presence byte of
its own where R186 and R188 give it no other form. DRIVE_POWER's byte, the subject of STOP_CAUSE and the width of t by
log 21; a slot, k or role that State lacks by log 23. -/
def encEventBody : EventBody → Nat × List Byte
  | .limitClip l c => (0, [byteOf l.val, match c with | .softMin => 0 | .softMax => 1])
  | .grantGained l who lv c sp =>
    (1, [byteOf l.val, encHolder (some who)] ++ beNat 4 lv ++
      one (match c with | .preempt => 0 | .hold => 1 | .pending => 2) ++ beInt 8 sp)
  | .grantSuspended l who lv by_ d =>
    (2, [byteOf l.val, encHolder (some who)] ++ beNat 4 lv ++ [encHolder (some by_)] ++ beNat 4 d)
  | .grantRestored l who lv o sp =>
    (3, [byteOf l.val, encHolder (some who)] ++ beNat 4 lv ++ encOpt (beInt 8) o ++
      encOpt (beInt 8) (if o.isSome then none else some sp))
  | .grantPending l who lv n => (4, [byteOf l.val, encHolder (some who)] ++ beNat 4 lv ++ beNat 4 n)
  | .grantEnded l who lv r nx =>
    (5, [byteOf l.val, encHolder (some who)] ++ beNat 4 lv ++
      [match r with | .yield => 0 | .linkLost => 1 | .playbackEnd => 2, encHolder nx])
  | .grantCleared l who lv => (6, [byteOf l.val, encHolder (some who)] ++ beNat 4 lv)
  | .stopCause k f t st =>
    (7, encCauseKind k ++ flag (CauseKind.isOff k) ++ beNat 8 f ++ beNat 1 t ++ [encStop st])
  | .stopState a b asker party r =>
    (8, [encStop a, encStop b] ++ encOr255 (asker.map (·.val)) ++ [encParty party, encStopReason r])
  | .drivePower on => (9, flag on)
  | .exitCleared z f t => (10, [byteOf z.val] ++ beNat 8 f ++ beNat 1 t)
  | .blockBad b => (11, beNat 4 b.val ++ [0])
  | .chunkDone nr a b => (12, flag nr ++ beNat 2 a ++ beNat 2 (b.getD 65535))
  | .recordStart s f => (13, [byteOf s.val] ++ beNat 8 f)
  | .recordEnd s o len i ir md fs lf =>
    (14, encOr255 (s.map (·.val)) ++
      one (match o with
        | .done => 0 | .overrun => 1 | .noRoom => 2 | .length => 3 | .stopped => 4 | .referenceLost => 5 | .linkLost => 6) ++
      beNat 2 len ++ flag i ++ flag ir ++ flag md ++ encOpt (beNat 8) fs ++ encOpt (beNat 8) lf)
  | .cueReady s ls => (15, encOr255 (s.map (·.val)) ++ encLaneSet ls)
  | .rollStart s f => (16, encOr255 (s.map (·.val)) ++ beNat 8 f)
  | .playMark k f => (17, beNat 2 k ++ beNat 8 f)
  | .segmentStart d f r =>
    (18, beNat 2 d ++ beNat 8 f ++ encOpt (beNat 2) (r.map (·.1)) ++ encOpt (beNat 8) (r.map (·.2)))
  | .segmentEnd r late => (19, beNat 2 r ++ flag late)
  | .trackSlip l f t e => (20, [byteOf l.val] ++ beNat 8 f ++ beNat 1 t ++ beInt 8 e)
  | .playHeld s sp f => (21, encOr255 (s.map (·.val)) ++ flag sp ++ beNat 8 f)
  | .playEnd s o sp k f =>
    (22, encOr255 (s.map (·.val)) ++
      one (match o with
        | .done => 0 | .aborted => 1 | .stall => 2 | .deferMissed => 3 | .stopped => 4 | .referenceLost => 5 | .linkLost => 6) ++
      flag sp ++ beNat 2 (k.getD 65535) ++ beNat 8 f)
  | .rigFrozen ok => (23, [if ok then 0 else 1])
  | .linkUp p r => (24, [byteOf p.val, encRole r])
  | .linkDown p r why =>
    (25, [byteOf p.val] ++ [(r.map encRole).getD 255] ++ one (match why with | .silent => 0 | .leave => 1))

/-- The event number, a number whose type the table of R186 does not name and so of 4 bytes, the tick, and the content
(R188). -/
def encEvent (e : Event) : List Byte :=
  let b := encEventBody e.body
  beNat 4 b.1 ++ beNat 8 e.f ++ beNat 1 e.t ++ b.2

/-! ### Tables of QUERY (R183, R188): a table is a list of whole items, none split between frames (R185) -/

/-- A list as items: its count, then its entries. -/
def itemList (xs : List (List Byte)) : List (List Byte) := [byteOf xs.length] :: xs

/-- The condition and, where DISABLED, its reason, an optional value (R1, R186). -/
def encCondition : Condition → List Byte
  | .active => [0, 0]
  | .disabled .driveFault => [1, 1, 0]
  | .disabled .followError => [1, 1, 1]
  | .parked => [2, 0]

/-- Every field of R1 (R25); its yes/no and set/clear fields are a byte each (log 21). -/
def encLaneRec (l : LaneRec) : List Byte :=
  flag l.present ++ encCondition l.condition ++ beInt 8 l.p ++ beInt 4 l.v ++ beInt 8 l.t ++ beInt 8 l.softMin ++
    beInt 8 l.softMax ++ beNat 4 l.vmax ++ beNat 4 l.a ++ beNat 4 l.astop ++ beNat 4 l.k ++ beNat 4 l.trackTol ++
    beNat 4 l.followLimit ++ beNat 4 l.sEff ++ flag l.limitClip ++ flag l.capped

/-- The demand value of a context by its kind: a lens user value in 4 bytes, a position or an increment in 8 (R41, R186). -/
def encDemand (k : DemandKind) (d : Int) : List Byte :=
  match k with
  | .abs => beInt 8 d
  | .lens => beInt 4 d
  | .step => beInt 8 d

/-- R41: the kind, D or its absence, O and the trim. -/
def encContext (c : Context) : List Byte :=
  [encKind c.kind] ++ encOpt (encDemand c.kind) c.d ++ beInt 8 c.o ++ beNat 4 c.trim

/-- The context a port has on a lane, as its holder or on its stack (R60). -/
def Grant.ctxOf (g : Grant) (p : Port) : Option Context :=
  match g.holder with
  | some h => if h.who = .station p then some h.ctx else (g.stack.find? fun e => e.port = p).map (·.ctx)
  | none => (g.stack.find? fun e => e.port = p).map (·.ctx)

/-- The playback context of a playback-held lane (R60). -/
def Grant.playCtx (g : Grant) : Option Context :=
  match g.holder with
  | some h => if h.who = .playback then some h.ctx else none
  | none => none

/-- The station contexts of a lane by ascending port (R60; log 21). -/
def Grant.stationCtxs (g : Grant) : List (Port × Context) :=
  (List.finRange 4).filterMap fun p => (g.ctxOf p).map fun c => (p, c)

/-- R60: holder with level and setpoint, stack from the top, pending in arrival order; then the station contexts, and
the playback context. -/
def encGrant (l : Lane) (g : Grant) : List Byte :=
  [byteOf l.val, encHolder (g.holder.map (·.who))] ++ encOpt (fun h : Hold => beNat 4 h.level) g.holder ++
    encOpt (fun h : Hold => beInt 8 h.setpoint) g.holder ++
    encList (fun e : StackEntry => byteOf e.port.val :: beNat 4 e.level) g.stack ++
    encList (fun e : PendEntry => byteOf e.port.val :: (beNat 4 e.level ++ beNat 4 (e.arrival % 2 ^ 32))) g.waiting ++
    encList (fun x : Port × Context => byteOf x.1.val :: encContext x.2) g.stationCtxs ++ encOpt encContext g.playCtx

def encLink : LinkState → Byte
  | .down => 0 | .offer => 1 | .acknowledge => 2 | .active => 3 | .failed => 4

def encPortView (v : PortView) : List Byte :=
  [encLink v.link] ++ encOpt (fun r => [encRole r]) v.role ++ encOpt (beNat 4) v.level ++ flag v.linkLost ++
    flag v.checkError ++ flag v.requestsLost ++ beNat 4 v.eventDepth ++ beNat 4 v.replyDepth ++
    encOpt (fun x : SlotNo => [byteOf x.val]) v.fetchSlot ++ flag v.holdsMotion

/-- R156: the record, whose presence byte says whether the entry is empty (log 21), then, for an entry that is not, its two
results and its mark. -/
def encZoneEntry (z : ZoneNo) (e : ZoneEntry) : List Byte :=
  let held := fun (b : Bool) => encOpt flag (e.record.map fun _ => b)
  encOpt (encZone z.val) e.record ++ held e.predicting ++ held e.breached ++ held e.exiting

def encStore : StoreState → Byte
  | .stored => 0 | .writeWaiting => 1 | .writing => 2 | .failed => 3

def encSlotState : SlotState → Byte
  | .empty => 0 | .recording => 1 | .uploading => 2 | .complete => 3 | .truncated => 4

/-- The state's row in R77's table. -/
def blockStateRow : BlockState → Nat
  | .free => 0 | .used _ _ _ => 1 | .dirty => 2 | .erasing _ => 3 | .bad => 4

def BlockState.suspended : BlockState → Option Bool
  | .erasing s => some s
  | .free | .used _ _ _ | .dirty | .bad => none

/-- The owner, the list place and the retire mark of a USED block. -/
def BlockState.ownership : BlockState → Option (SlotNo × Nat × Bool)
  | .used o p r => some (o, p, r)
  | .free | .dirty | .erasing _ | .bad => none

/-- R102: the state; the suspended flag of an ERASING block; the owner, place and retire mark of a USED one: four optional
values (R186). -/
def encBlockState (b : BlockState) : List Byte :=
  [byteOf (blockStateRow b)] ++ encOpt flag b.suspended ++ encOpt (fun x => [byteOf x.1.val]) b.ownership ++
    encOpt (fun x => beNat 4 x.2.1) b.ownership ++ encOpt (fun x => flag x.2.2) b.ownership

def StageBuffer.stateRow (b : StageBuffer) : Nat :=
  match b.state with
  | .empty => 0
  | .filling => 1
  | .queued _ => 2
  | .programming => 3

/-- A staging buffer's state and fill in bytes, optional values of the entry of a slot (R102, R186). -/
def encBuffer (b : Option StageBuffer) : List Byte :=
  encOpt (fun x => [byteOf x.stateRow]) b ++
    encOpt (fun x => beNat 4 ((x.samples.map fun y => sampleBytes y.pos.length).sum)) b

/-- What a slot returns of the upload only while it is UPLOADING (R102). -/
def Slot.whileUploading {α : Type} (x : Slot) (a : α) : Option α := if x.state = .uploading then some a else none

/-- R102: state, header, block list and protection, then what an UPLOADING slot alone returns: the next expected offset, the
span state and both buffers, all optional values (R186). -/
def encSlot (up : Upload) (bufs : Vector StageBuffer 2) (x : Slot) : List Byte :=
  [encSlotState x.state] ++ encOpt encHeader x.header ++ encList (fun b : BlockNo => beNat 4 b.val) x.blocks ++
    flag x.locked ++ flag x.down ++ flag x.openLocked ++
    encOpt (beNat 2) (x.whileUploading up.nextOffset) ++ encOpt flag (x.whileUploading up.spanOpen) ++
    encBuffer (x.whileUploading bufs[0]) ++ encBuffer (x.whileUploading bufs[1])

def encRigLane (r : RigLane) : List Byte :=
  beInt 8 r.hardMin ++ beInt 8 r.hardMax ++ beNat 4 r.vmaxCeil ++ beNat 4 r.aCeil ++ beNat 4 r.astopFloor ++
    beNat 4 r.followCeil ++ beNat 4 r.defVmax ++ beNat 4 r.defA ++ beNat 4 r.defAstop ++ beNat 4 r.defK

def encStatus : ChannelStatus → Byte
  | .ok => 0 | .fault => 1 | .missing => 2

def encChannel (l : Lane) (c : Channel) : List Byte :=
  [byteOf l.val] ++ encOpt (beInt 4) c.lastSent ++ encOpt (beInt 4) c.latestCount ++ [encStatus c.status] ++
    beNat 4 c.missing ++ flag c.faultReported ++ flag c.enable ++ flag c.brake

/-- The operation in progress, by its row of R75. -/
def encOp : ArrayOp → Byte
  | .read _ _ _ => 0
  | .programSample _ _ => 1
  | .chunkPart _ _ _ _ _ => 2
  | .erase _ => 3
  | .suspend _ => 4
  | .resume _ _ => 5
  | .reserved _ => 6

/-- The content of a table, in the order its rule names it (R183, R188). Which lists carry a
lane index, where a profile's store state and a presence line's state stand, and the bytes of the map in use: log 21. -/
def tableItems : Table → List (List Byte)
  | .lanes rs => itemList (allLanes.map fun l => encLaneRec rs[l])
  | .grants present gs => itemList ((LaneSet.members present).map fun l => encGrant l gs[l])
  | .stations vs => itemList (allPorts.map fun p => encPortView vs[p])
  | .zones zs => itemList ((List.finRange 16).map fun z => encZoneEntry z zs[z])
  | .presence es => itemList ((List.finRange 4).map fun i => encPresence i.val es[i] ++ flag es[i].asserted)
  | .directory ss up bufs => itemList ((List.finRange 32).map fun i => encSlot up bufs ss[i])
  | .profiles ss active use =>
    itemList ((List.finRange 4).map fun i => encProfile i.val ss[i].profile ++ [encStore ss[i].store]) ++
      [encOpt (fun x : ProfileNo => [byteOf x.val]) active ++
        beNat 2 ((active.map fun i => ss[i].profile.tag).getD 0) ++
        flag (use.held || use.stacked || use.playback || use.recorder) ++
        flag use.held ++ flag use.stacked ++ flag use.playback ++ flag use.recorder]
  | .rig r present cs =>
    [beNat 4 r.record.identity ++ encLaneSet r.record.presentSet] ++
      itemList (allLanes.map fun l => encRigLane r.record.lanes[l]) ++
      [flag r.record.frozen ++ [encStore r.store] ++ flag r.freezePending] ++
      itemList ((LaneSet.members present).map fun l => encChannel l cs[l])
  | .blocks bs op pf ef cr =>
    itemList ((List.finRange 64).map fun b => encBlockState bs[b]) ++
      [(List.range 5).flatMap fun r => beNat 4 ((bs.toList.filter fun x => blockStateRow x = r).length)] ++
      [encOpt (fun x => [encOp x]) op ++ flag pf ++ flag ef ++ flag cr]

/-! ### REPLY (R185, R188) -/

def encReason : Reason → Byte
  | .noRight => 1 | .wrongState => 2 | .busy => 3 | .badValue => 4 | .takeProtected => 5 | .noRoom => 6
  | .unfrozen => 7 | .unknown => 8

def encOutcome : ReplyOutcome → List Byte
  | .done => [0, 0]
  | .accepted => [1, 0]
  | .refused r => [2, encReason r]

def encResult : LaneResult → Byte
  | .gained => 0 | .pending => 1 | .holding => 2 | .waiting => 3 | .suspended => 4 | .released => 5 | .notHeld => 6
  | .noRight => 7 | .badValue => 8 | .wrongState => 9 | .notInTake => 10 | .notActive => 11 | .lensTag => 12
  | .participates => 13

def payloadItems : Payload → List (List Byte)
  | .empty => []
  | .failingSample i => [beNat 2 i]
  | .cue len n per ref mn mp mr =>
    [beNat 2 len ++ beNat 1 n ++ flag mn ++ beNat 4 per ++ flag mp ++ flag ref ++ flag mr]
  | .samples xs => [byteOf xs.length] :: xs.map encSample
  | .table t => tableItems t

/-- The fixed fields before the data frame count. -/
def encReplyHead (r : Reply) : List Byte :=
  encOutcome r.outcome ++
    one ((if r.adjusted then 1 else 0) ||| (if r.badValue then 2 else 0) ||| (if r.lensInvalid then 4 else 0)) ++
    beNat 1 r.ignored ++ encList (fun x : Nat × LaneResult => [byteOf x.1, encResult x.2]) r.results

/-- Items laid into frames of at most `size` bytes, each whole, the first frame having `room` bytes left. -/
def packItems (size : Nat) : Nat → List Byte → List (List Byte) → List (List Byte)
  | _, acc, [] => [acc]
  | room, acc, x :: xs =>
    if x.length ≤ room then packItems size (room - x.length) (acc ++ x) xs
    else acc :: packItems size (size - x.length) x xs

/-- The payload parts: of the REPLY frame, then of each REPLY DATA frame (one byte of it numbers the frame). -/
def replyParts (r : Reply) : List (List Byte) :=
  packItems 2047 (2048 - ((encReplyHead r).length + 1)) [] (payloadItems r.payload)

/-- The number of frames the REPLY takes, itself and its data frames. -/
def replyFrameCount (r : Reply) : Nat := (replyParts r).length

/-- The bodies of the REPLY frame and of its REPLY DATA frames, numbered from 1. -/
def replyBodies (r : Reply) : List (List Byte) :=
  match replyParts r with
  | [] => []
  | p :: ps =>
    (encReplyHead r ++ [byteOf ps.length] ++ p) :: (ps.zipIdx 1).map fun x => byteOf x.2 :: x.1

/-! ### TELEMETRY (R189) -/

/-- A lane block of R189. The bytes of an absent lens value are 0: the model's choice (log 21). -/
def encLaneView (l : Lane) (v : LaneView) : List Byte :=
  let cond : Nat := match v.condition with
    | .active => 0
    | .disabled .driveFault => 1
    | .disabled .followError => 1 + 4
    | .parked => 2
  beInt 8 v.p ++ beInt 4 v.v ++ beNat 4 v.sEff ++ beInt 4 (v.lensValue.getD 0) ++ [encHolder v.holder] ++
    [byteOf (cond + (if v.limitClip then 8 else 0) + (if v.capped then 16 else 0) + (if v.outputs then 32 else 0) +
      (if v.present then 0 else 64) + (if v.lensValue.isSome then 128 else 0))] ++
    [encStatus v.status, byteOf l.val]

def encCause (c : Cause) : List Byte := encCauseKind c.kind ++ beNat 8 c.f ++ beNat 1 c.t

def bitsByte (bs : List Bool) : Byte :=
  byteOf ((bs.zipIdx.map fun x => if x.1 then 2 ^ x.2 else 0).sum)

def encPlayState : PlayState → Byte
  | .idle => 0 | .cueing => 1 | .ready => 2 | .rollArmed => 3 | .rolling => 4 | .deferred => 5 | .holdEnd => 6

def encRecState : RecState → Byte
  | .idle => 0 | .armed => 1 | .recording => 2 | .draining => 3

/-- The fields of R189 at their offsets. The two bytes of r are 0 where r is not present, of which R189 says nothing: the
model's choice (log 21). -/
def encTelemetry (x : Telemetry) : List Byte :=
  beNat 8 x.f ++
  one (match x.mode with | .internal => 0 | .referenced => 1) ++
  one (match x.lock with | .none => 0 | .search => 1 | .locked => 2 | .flywheel => 3) ++
  beNat 1 x.n ++ beNat 1 x.flywheelCount ++ beNat 4 x.workingPeriod ++
  [encStop x.stop] ++ flag x.drivePower ++ encOr255 (x.asker.map (·.val)) ++
  [bitsByte (x.stopLine :: x.presence.toList)] ++
  [bitsByte [x.parked, x.frozen, x.freezePending, x.eventsLost, x.programFail, x.eraseFail, x.chunkReject]] ++
  [(x.role.map encRole).getD 255] ++ beNat 1 x.eventDepth ++
  [encPlayState x.playState] ++ encOr255 (x.playSlot.map (·.val)) ++ [bitsByte [x.spoiled, x.r.isSome]] ++
  beNat 2 (x.k.getD 65535) ++ beNat 2 (x.r.getD 0) ++ beNat 1 x.stallCount ++ beNat 1 x.readAhead ++
  [encRecState x.recState] ++ encOr255 (x.recSlot.map (·.val)) ++ beNat 2 x.composed ++ beNat 2 x.programmed ++
  beNat 1 x.queueDepth ++ [bitsByte [x.spanOpen, x.endPending]] ++ beNat 1 x.causes.length ++
  allLanes.flatMap (fun l => encLaneView l x.lanes[l]) ++ x.causes.flatMap encCause

/-- ABILITY OFFER (R186). -/
def encOffer (o : Offer) : List Byte :=
  encLaneSet o.presentSet ++ flag o.motionFree ++ flag o.ack ++ [(o.granted.map encRole).getD 255]

/-! ### The envelope (R184) -/

/-- One byte through the check: polynomial x^16 + x^12 + x^5 + 1, most significant bit first. -/
def crcByte (crc : Word16) (b : Byte) : Word16 :=
  (List.range 8).foldl
    (fun c _ => if c.msb then (c <<< 1) ^^^ 0x1021#16 else c <<< 1)
    (crc ^^^ (b.setWidth 16 <<< 8))

/-- The check: initial value 0xFFFF, no final inversion. -/
def frameCheck (bs : List Byte) : Word16 := bs.foldl crcByte 0xFFFF#16

/-- A frame: start pair, kind, tag, length, body, check, end pair. -/
def encFrame (kind : Byte) (tag : Word16) (body : List Byte) : List Byte :=
  let core := kind :: (beNat 2 tag.toNat ++ beNat 2 body.length ++ body)
  [0xA5, 0x5A] ++ core ++ beNat 2 (frameCheck core).toNat ++ [0x5A, 0xA5]

/-- Idle fill between frames. -/
def idleFillByte : Byte := 0x55

/-- The REPLY frame followed by its REPLY DATA frames. -/
def replyWire (r : Reply) : List (List Byte) :=
  match replyBodies r with
  | [] => []
  | b :: bs => encFrame 0x02 r.tag b :: bs.map (encFrame 0x03 r.tag)

def eventWire (e : Event) : List Byte := encFrame 0x04 0 (encEvent e)
def telemetryWire (x : Telemetry) : List Byte := encFrame 0x05 0 (encTelemetry x)
def offerWire (o : Offer) : List Byte := encFrame 0x01 0 (encOffer o)

end Sys2Proof.Machine
end

