-- ==== Sys2Proof/Machine/Ops.lean ====
section
/-! DEFINITION. The named operations over State: one table entry at a time, the Station Ports' queues (R179 to R181),
events and their audiences (R58, R181), the transmitter (R180), and the per-axis outputs (R149, R162). -/

namespace Sys2Proof.Machine

open Sys2Proof

/-! ### One entry at a time -/

def State.setLane (s : State) (l : Lane) (f : LaneRec → LaneRec) : State := s.setLanes (updAt s.lanes l f)
def State.setGrant (s : State) (l : Lane) (f : Grant → Grant) : State := s.setGrants (updAt s.grants l f)
def State.setPort (s : State) (p : Port) (f : StationPort → StationPort) : State := s.setPorts (updAt s.ports p f)
def State.setChannel (s : State) (l : Lane) (f : Channel → Channel) : State :=
  s.setDrives { s.drives with channels := updAt s.drives.channels l f }
def State.setZone (s : State) (z : ZoneNo) (f : ZoneEntry → ZoneEntry) : State :=
  s.setSafety { s.safety with zones := updAt s.safety.zones z f }
def State.setSlot (s : State) (i : SlotNo) (f : Slot → Slot) : State :=
  s.setMem { s.mem with slots := updAt s.mem.slots i f }
def State.setBlock (s : State) (b : BlockNo) (f : Block → Block) : State :=
  s.setMem { s.mem with blocks := updAt s.mem.blocks b f }
def State.setBuffer (s : State) (i : Fin 2) (f : StageBuffer → StageBuffer) : State :=
  s.setMem { s.mem with buffers := updAt s.mem.buffers i f }

/-- The lane exists on this crane: its lane record is present (R2). -/
def State.lanePresent (s : State) (l : Lane) : Bool := s.lanes[l].present
/-- The set of present lanes (R172). -/
def State.presentLanes (s : State) : LaneSet := LaneSet.ofPred s.lanePresent
/-- The lane named by an index, when it lies in 0 to 11 and is present (R2). -/
def State.namedLane (s : State) (i : Nat) : Option Lane :=
  match indexOf 12 i with
  | some l => if s.lanePresent l then some l else none
  | none => none

/-! ### Ports and roles (R170) -/

def State.isActive (s : State) (p : Port) : Bool := s.ports[p].link = .active
/-- The MOTION station: the ACTIVE port whose role is MOTION (R170). -/
def State.isMotion (s : State) (p : Port) : Bool := s.isActive p && s.ports[p].role = some .motion
/-- The port holds the MOTION role, in ACKNOWLEDGE or ACTIVE (R170). -/
def State.holdsMotion (s : State) (p : Port) : Bool :=
  (s.ports[p].link = .acknowledge || s.ports[p].link = .active) && s.ports[p].role = some .motion
/-- The MOTION role is free while no port holds it (R170). -/
def State.motionFree (s : State) : Bool := allPorts.all fun p => !s.holdsMotion p

/-! ### Events (R181) -/

/-- An event joins a port's queue; with 16 events there it is dropped and EVENTS_LOST is set (R181). -/
def pushEvent (e : Event) (q : StationPort) : StationPort :=
  if q.events.length < 16 then { q with events := q.events ++ [e] } else { q with eventsLost := true }

/-- Raise an event for the ACTIVE ports of an audience, once per port (R181). -/
def raiseFor (audience : Port → Bool) (body : EventBody) (s : State) : State :=
  s.setPorts (mapAll s.ports fun p q =>
    if s.isActive p && audience p then pushEvent { f := s.tb.f, t := s.tb.t, body := body } q else q)

/-- Stop events: every ACTIVE station (R155, R181). -/
def raiseAll (body : EventBody) (s : State) : State := raiseFor (fun _ => true) body s
/-- Take, recording, playback and link events: the MOTION station (R181). -/
def raiseMotion (body : EventBody) (s : State) : State := raiseFor s.isMotion body s

/-- The stations that hold a lane or stand on its grant stack. -/
def grantStations (g : Grant) (p : Port) : Bool :=
  (match g.holder with
    | some h => h.who = .station p
    | none => false) || g.stack.any fun e => e.port = p

/-- Lane events: the subject, the lane's holder and the stations on its stack as they stand, and the MOTION station
(R58, R181). -/
def raiseLane (l : Lane) (subject : Option Holder) (body : EventBody) (s : State) : State :=
  raiseFor (fun p => subject = some (.station p) || grantStations s.grants[l] p || s.isMotion p) body s

/-! ### Replies (R179) -/

/-- What a request answers with, before its tag. -/
structure Answer where
  outcome : ReplyOutcome
  adjusted : Bool := false
  badValue : Bool := false
  lensInvalid : Bool := false
  ignored : Nat := 0
  results : List (Nat × LaneResult) := []
  payload : Payload := .empty
  deriving DecidableEq, Repr

def Answer.done : Answer := { outcome := .done }
def Answer.accepted : Answer := { outcome := .accepted }
def Answer.refused (r : Reason) : Answer := { outcome := .refused r }

def Answer.reply (a : Answer) (tag : Word16) (kind : ReplyKind) : Reply where
  tag := tag
  kind := kind
  outcome := a.outcome
  adjusted := a.adjusted
  badValue := a.badValue
  lensInvalid := a.lensInvalid
  ignored := a.ignored
  results := a.results
  payload := a.payload
  framesSent := 0

/-- A REPLY joins the end of the port's reply path (R179); nothing is sent on a link that is not ACTIVE. -/
def pushReply (p : Port) (r : Reply) (s : State) : State :=
  if s.isActive p then s.setPort p fun q => { q with replies := q.replies ++ [r] } else s

/-- The REPLY frames of the path not counting a fetch's (R179). -/
def countedReplies (q : StationPort) : Nat := (q.replies.filter fun r => r.kind ≠ .fetch).length

/-! ### The transmitter (R180) -/

/-- The first of the telemetry waiting, the oldest REPLY and the oldest event starts when the transmitter is free. A
TELEMETRY frame going out reports a drop since it was formed (R181; log 31). -/
def pumpPort (q : StationPort) : StationPort :=
  if q.link ≠ .active then q
  else if q.sending.isSome then q
  else match q.telemetry with
    | some x =>
      { q with sending := some (.telemetry { x with eventsLost := x.eventsLost || q.eventsLost }), telemetry := none }
    | none =>
      if !q.replies.isEmpty then { q with sending := some .reply }
      else if !q.events.isEmpty then { q with sending := some .event }
      else q

def pump (s : State) : State := s.setPorts (mapAll s.ports fun _ q => pumpPort q)

/-! ### Outputs (R149, R162) -/

/-- DRIVE ENABLE and BRAKE RELEASE are asserted while drive power is ON and the lane is ACTIVE. DRIVE ENABLE is
asserted first and BRAKE RELEASE after it; BRAKE RELEASE is deasserted first and DRIVE ENABLE after it (R162). -/
def driveOutputs (on : Bool) (c : Channel) : Channel :=
  if on && !(c.enable && c.brake) then
    { c with enable := true, brake := true, edges := [.enableOn, .brakeOn] }
  else if !on && (c.enable || c.brake) then
    { c with enable := false, brake := false, edges := [.brakeOff, .enableOff] }
  else c

/-- What the outputs of a lane are to be (R149). -/
def State.outputsOn (s : State) (l : Lane) : Bool :=
  s.safety.drivePower && s.lanes[l].present && s.lanes[l].condition = .active

def refreshOutputs (s : State) : State :=
  s.setDrives { s.drives with channels := mapAll s.drives.channels fun l c => driveOutputs (s.outputsOn l) c }

/-- Drive power changes: the outputs follow and DRIVE_POWER is raised (R149, R155, R162). -/
def setPower (on : Bool) (s : State) : State :=
  if s.safety.drivePower = on then s
  else raiseAll (.drivePower on) (refreshOutputs (s.setSafety { s.safety with drivePower := on }))

/-! ### Who plays and records (R80) -/

/-- A recording is active while the Recorder is ARMED, RECORDING or DRAINING. -/
def State.recActive (s : State) : Bool := s.recorder.state ≠ .idle
/-- A playback is active while the Playback Unit is in any state other than IDLE. -/
def State.playActive (s : State) : Bool := s.play.state ≠ .idle
/-- The lane is in the participation set. -/
def State.participates (s : State) (l : Lane) : Bool := LaneSet.has s.play.participation l

end Sys2Proof.Machine
end

