-- ==== Sys2Proof/Machine/Lens.lean ====
section
/-! DEFINITION. The Lens Map Unit (chapter 4): valid tables, the forward and the reverse map, the map in use. -/

namespace Sys2Proof.Machine

open Sys2Proof

/-- The table a profile carries for a lane: FOCUS is lane 6, IRIS lane 7, ZOOM lane 8 (R62). -/
def profileTable (p : Profile) (l : Lane) : Option (List Breakpoint) :=
  if l.val = 6 then p.focus else if l.val = 7 then p.iris else if l.val = 8 then p.zoom else none

/-- A lens lane has a valid table when a slot is active and carries the table for the lane (R63). -/
def Lens.table (x : Lens) (l : Lane) : Option (List Breakpoint) :=
  match x.active with
  | none => none
  | some i => profileTable x.slots[i].profile l

/-- The active tag, 0 when the selection is none (R63). -/
def Lens.activeTag (x : Lens) : Nat :=
  match x.active with
  | none => 0
  | some i => x.slots[i].profile.tag

/-- The forward map (R69). -/
def forwardMap : List Breakpoint → Int → Int
  | [], _ => 0
  | [b], _ => b.p
  | b :: c :: rest, u =>
    if u < b.u then b.p
    else if u < c.u then b.p + truncDiv ((c.p - b.p) * (u - b.u)) ((c.u : Int) - b.u)
    else forwardMap (c :: rest) u

/-- The lowest segment that contains P, interpolated (R70). -/
def reverseSegment : List Breakpoint → Int → Option Int
  | [], _ => none
  | [_], _ => none
  | b :: c :: rest, p =>
    if (b.p ≤ p ∧ p ≤ c.p) ∨ (c.p ≤ p ∧ p ≤ b.p) then
      some (b.u + truncDiv (((c.u : Int) - b.u) * (p - b.p)) (c.p - b.p))
    else reverseSegment (c :: rest) p

/-- P lies beyond p_0, away from the table (R70). -/
def beyondStart : List Breakpoint → Int → Bool
  | b :: c :: _, p => if b.p < c.p then p < b.p else b.p < p
  | _, _ => true

/-- The reverse map (R70). -/
def reverseMap (t : List Breakpoint) (p : Int) : Int :=
  match reverseSegment t p with
  | some u => u
  | none =>
    if beyondStart t p then ((t.head?.map (·.u)).getD 0 : Nat) else ((t.getLast?.map (·.u)).getD 0 : Nat)

/-- map(D) of a context's demand on a lane: D itself for ABS and STEP, the forward map for LENS (R6, R51); none while D
is absent, and for a LENS demand without a valid table (log 23). -/
def mapDemand (x : Lens) (l : Lane) (c : Context) : Option Int :=
  match c.d with
  | none => none
  | some d =>
    match c.kind with
    | .lens => (x.table l).map fun t => forwardMap t d
    | _ => some d

/-- FOCUS, IRIS and ZOOM. -/
def lensLanes : List Lane := [6, 7, 8]

/-- The conditions of R64. -/
def State.lensUse (s : State) : LensUse where
  held := lensLanes.any fun l => match s.grants[l].holder with
    | some h => h.who ≠ .playback && h.ctx.kind = .lens
    | none => false
  stacked := lensLanes.any fun l => s.grants[l].stack.any fun e => e.ctx.kind = .lens
  playback := s.playActive && LaneSet.hasLens s.play.participation
  recorder := s.recActive && LaneSet.hasLens s.recorder.lanes

/-- The map is in use while any condition of R64 holds. -/
def State.mapInUse (s : State) : Bool :=
  let u := s.lensUse
  u.held || u.stacked || u.playback || u.recorder

/-- The lens value TELEMETRY reports for a present lane; none reaches an absent one (R62, R71). -/
def State.lensValue (s : State) (l : Lane) : Option Int :=
  if s.lanePresent l then (s.lens.table l).map fun t => reverseMap t s.lanes[l].p else none

/-! ### Judging a profile (R62, R65) -/

/-- At most 16 characters, each printable (R62, R186). -/
def nameValid (n : Name) : Bool := n.length ≤ 16 && n.all fun c => 0x20 ≤ c.toNat && c.toNat ≤ 0x7E

/-- Every breakpoint is followed by one that satisfies r. -/
def chained (r : Breakpoint → Breakpoint → Bool) : List Breakpoint → Bool
  | b :: c :: rest => r b c && chained r (c :: rest)
  | _ => true

/-- 2 to 32 breakpoints, u in 0 to 1,000,000 strictly increasing, p in range and strictly monotone (R62). -/
def tableValid (t : List Breakpoint) : Bool :=
  2 ≤ t.length && t.length ≤ 32 && (t.all fun b => (b.u : Int) ≤ userMax && inPosRange b.p) &&
    chained (fun b c => b.u < c.u) t && (chained (fun b c => b.p < c.p) t || chained (fun b c => c.p < b.p) t)

def optTableValid (t : Option (List Breakpoint)) : Bool := match t with
  | none => true
  | some t => tableValid t

/-- A profile has no name and no table. -/
def profileBare (p : Profile) : Bool := p.name.isEmpty && p.focus.isNone && p.iris.isNone && p.zoom.isNone

/-- The conditions R62 puts on a slot's content alone. -/
def profileValid (p : Profile) : Bool :=
  p.tag ≤ 65535 && nameValid p.name && optTableValid p.focus && optTableValid p.iris && optTableValid p.zoom &&
    (p.tag ≠ 0 || profileBare p)

end Sys2Proof.Machine
end

