-- ==== Sys2Proof/Machine/Grants.lean ====
section
/-! DEFINITION. The Grant Table (chapter 3): levels and rights, pre-emption, waiting, the choice of the next holder,
contexts and their switch-in, demand entries and trims. -/

namespace Sys2Proof.Machine

open Sys2Proof

/-- The level of a role; OBSERVER has none (R38). -/
def roleLevel : Role → Option Nat
  | .motion => some 2
  | .arm => some 3
  | .lens => some 3
  | .assist => some 4
  | .observer => none

/-- PLAYBACK's level (R38). -/
def playbackLevel : Nat := 1
/-- The level of a lane in HOLD (R38). -/
def holdLevel : Nat := 8

/-- A role's right to acquire a lane (R39); presence is judged apart. -/
def roleRight (r : Role) (l : Lane) : Bool :=
  match r with
  | .motion => true
  | .assist => true
  | .arm => l.val ≤ 5 || 9 ≤ l.val
  | .lens => 6 ≤ l.val && l.val ≤ 8
  | .observer => false

/-- A new context (R41). -/
def Context.fresh : Context := { kind := .abs, d := none, o := 0, trim := fullScale }

def Grant.level (g : Grant) : Nat := match g.holder with
  | some h => h.level
  | none => holdLevel

/-- O = P − map(D), held to its range, where D is present (R51). -/
def switchIn (x : Lens) (l : Lane) (p : Int) (c : Context) : Context :=
  match mapDemand x l c with
  | some m => { c with o := clampOff (p - m) }
  | none => c

/-! ### Pre-emption and waiting (R43, R44) -/

/-- The grant state after `who` gains the lane: a displaced station goes on top of the stack with its context. A playback
context's trim field, which no rule sets, is full speed (log 36). -/
def Grant.preempted (g : Grant) (who : Holder) (level : Nat) (setpoint : Int) : Grant :=
  let stack := match g.holder with
    | some h => match h.who with
      | .station q => { port := q, level := h.level, ctx := h.ctx } :: g.stack
      | .playback => g.stack
    | none => g.stack
  { g with holder := some { who := who, level := level, setpoint := setpoint, ctx := Context.fresh }, stack := stack }

/-- R43: GRANT_SUSPENDED for the displaced holder, then GRANT_GAINED for the new one (R59). -/
def gainLane (l : Lane) (who : Holder) (level : Nat) (s : State) : State :=
  let g := s.grants[l]
  let p := s.lanes[l].p
  let g' := g.preempted who level p
  let s1 := s.setGrant l fun _ => g'
  let s2 := match g.holder with
    | some h => raiseLane l (some h.who) (.grantSuspended l h.who h.level who g'.stack.length) s1
    | none => s1
  raiseLane l (some who) (.grantGained l who level (if g.holder.isSome then .preempt else .hold) p) s2

/-- e comes before x in the order of R45 and R58: lower level, then lower arrival number. -/
def PendEntry.before (e x : PendEntry) : Bool := e.level < x.level || (e.level = x.level && e.arrival < x.arrival)

/-- R44: the request joins the end of the pending list with a new arrival number, and GRANT_PENDING is raised. -/
def waitLane (l : Lane) (p : Port) (level : Nat) (s : State) : State :=
  let e : PendEntry := { port := p, level := level, arrival := s.nextArrival }
  let position := (s.grants[l].waiting.filter fun x => x.before e).length + 1
  let s1 := (s.setGrant l fun g => { g with waiting := g.waiting ++ [e] }).setNextArrival (s.nextArrival + 1)
  raiseLane l (some (.station p)) (.grantPending l (.station p) level position) s1

/-! ### When a holder leaves (R45) -/

/-- The best pending entry: lowest level, then lowest arrival number. -/
def bestPending : List PendEntry → Option PendEntry
  | [] => none
  | e :: es => match bestPending es with
    | none => some e
    | some b => if b.before e then some b else some e

/-- Who comes next, and whether by grant or by restore. -/
inductive NextHolder where
  | grant (e : PendEntry)
  | restore (e : StackEntry)
  | hold
  deriving DecidableEq, Repr

/-- The table of R45. -/
def nextHolder (g : Grant) : NextHolder :=
  match g.stack, bestPending g.waiting with
  | top :: _, some e => if e.level < top.level then .grant e else .restore top
  | top :: _, none => .restore top
  | [], some e => .grant e
  | [], none => .hold

/-- The grant state after the choice: a granted entry gets a new context; a restored one is switched in (R50, R51). -/
def chooseNext (x : Lens) (l : Lane) (p : Int) (g : Grant) : Grant :=
  match nextHolder g with
  | .grant e =>
    { g with
      holder := some { who := .station e.port, level := e.level, setpoint := p, ctx := Context.fresh }
      waiting := g.waiting.filter fun y => y ≠ e }
  | .restore e =>
    { g with
      holder := some { who := .station e.port, level := e.level, setpoint := p, ctx := switchIn x l p e.ctx }
      stack := g.stack.tail }
  | .hold => { g with holder := none }

/-- R45, R59: the holder leaves, GRANT_ENDED is raised, then the event of the next holder. -/
def leaveLane (l : Lane) (why : EndReason) (s : State) : State :=
  match s.grants[l].holder with
  | none => s
  | some h =>
    let g := s.grants[l]
    let g' := chooseNext s.lens l s.lanes[l].p g
    let s1 := s.setGrant l fun _ => g'
    let s2 := raiseLane l (some h.who) (.grantEnded l h.who h.level why (g'.holder.map (·.who))) s1
    match nextHolder g, g'.holder with
    | .grant _, some n => raiseLane l (some n.who) (.grantGained l n.who n.level .pending n.setpoint) s2
    | .restore _, some n =>
      raiseLane l (some n.who)
        (.grantRestored l n.who n.level (if n.ctx.d.isSome then some n.ctx.o else none) n.setpoint) s2
    | _, _ => s2

/-- The station's stack and pending entries are removed without an event (R46, R47). -/
def Grant.without (g : Grant) (p : Port) : Grant :=
  { g with stack := g.stack.filter (fun e => e.port ≠ p), waiting := g.waiting.filter fun e => e.port ≠ p }

def Grant.heldBy (g : Grant) (p : Port) : Bool := match g.holder with
  | some h => h.who = .station p
  | none => false
def Grant.heldByPlayback (g : Grant) : Bool := match g.holder with
  | some h => h.who = .playback
  | none => false
def Grant.stacks (g : Grant) (p : Port) : Bool := g.stack.any fun e => e.port = p
def Grant.waits (g : Grant) (p : Port) : Bool := g.waiting.any fun e => e.port = p

/-- R47: the station is removed from one lane; when playback leaves with it (`ends`), its entries go first and the next
holder is chosen once, in the same pass over the lanes (log 43). -/
def removeStation (p : Port) (ends : Bool) (l : Lane) (s : State) : State :=
  let s1 := s.setGrant l fun g => g.without p
  if s.grants[l].heldBy p then leaveLane l .linkLost s1
  else if ends && s.grants[l].heldByPlayback then leaveLane l .playbackEnd s1
  else s1

/-! ### Demand entries (R51, R54 to R56) -/

/-- The range of each kind's value (R54 to R56). -/
def clampDemand : DemandKind → Int → Int
  | .lens => clampInt 0 userMax
  | .abs | .step => clampPos

/-- A demand entry taken into a context: the context it leaves, and whether a clamp or saturation changed it. `m` is the
forward map of the clamped value for a LENS entry. -/
def takeDemand (kind : DemandKind) (value : Int) (m : Int → Int) (p : Int) (c : Context) : Context × Bool :=
  let same := c.kind = kind && c.d.isSome
  let v := clampDemand kind value
  match kind with
  | .abs =>
    (if same then { c with d := some v } else { c with kind := .abs, d := some v, o := clampOff (p - v) }, v ≠ value)
  | .lens =>
    (if same then { c with d := some v } else { c with kind := .lens, d := some v, o := clampOff (p - m v) }, v ≠ value)
  | .step =>
    let base := if same then c.d.getD 0 else 0
    let sum := clampPos (base + v)
    (if same then { c with d := some sum } else { c with kind := .step, d := some sum, o := clampOff p },
      v ≠ value || sum ≠ base + v)

/-- What the reply to DEMAND or TRIM gathers (R53, R57). -/
structure Tally where
  ignored : Nat
  badValue : Bool
  lensInvalid : Bool
  adjusted : Bool
  deriving DecidableEq, Repr

def Tally.zero : Tally := { ignored := 0, badValue := false, lensInvalid := false, adjusted := false }

def Tally.adjust (t : Tally) (changed : Bool) : Tally := { t with adjusted := t.adjusted || changed }

/-- Whether an entry from the port reaches the holder's context: the station holds the lane, or it is the MOTION
station and playback holds the lane in a deferred segment (R53, R128). -/
def State.takesDemand (s : State) (p : Port) (l : Lane) : Bool :=
  s.grants[l].heldBy p ||
    (s.grants[l].heldByPlayback && s.isMotion p && s.play.state = .deferred && s.participates l)

def setHolderCtx (c : Context) (g : Grant) : Grant := { g with holder := g.holder.map fun h => { h with ctx := c } }

/-- One entry of DEMAND (R53). A clamp that changes its value sets the adjusted indication, also where the entry is ignored
(R54 to R56; log 32). -/
def demandEntry (p : Port) (acc : State × Tally) (e : DemandEntry) : State × Tally :=
  let s := acc.1
  let t := acc.2.adjust (clampDemand e.kind e.value ≠ e.value)
  match s.namedLane e.lane with
  | none => (s, { t with ignored := t.ignored + 1, badValue := true })
  | some l =>
    if e.kind = .lens && (s.lens.table l).isNone then (s, { t with ignored := t.ignored + 1, lensInvalid := true })
    else match s.grants[l].holder with
    | none => (s, { t with ignored := t.ignored + 1 })
    | some h =>
      if !s.takesDemand p l then (s, { t with ignored := t.ignored + 1 })
      else
        let r := takeDemand e.kind e.value (fun u => forwardMap ((s.lens.table l).getD []) u) s.lanes[l].p h.ctx
        (s.setGrant l (setHolderCtx r.1), { t with adjusted := t.adjusted || r.2 })

/-- One entry of TRIM (R57). A clamp that changes its value sets the adjusted indication, also where the entry is ignored
(log 32). -/
def trimEntry (p : Port) (acc : State × Tally) (e : TrimEntry) : State × Tally :=
  let s := acc.1
  let v := clampNat 0 fullScale e.scale
  let t := acc.2.adjust (v ≠ e.scale)
  match s.namedLane e.lane with
  | none => (s, { t with ignored := t.ignored + 1, badValue := true })
  | some l =>
    let g := s.grants[l]
    if g.heldByPlayback then (s, { t with ignored := t.ignored + 1 })
    else if g.heldBy p then
      (s.setGrant l fun g => { g with holder := g.holder.map fun h => { h with ctx := { h.ctx with trim := v } } }, t)
    else if g.stacks p then
      (s.setGrant l fun g =>
          { g with stack := g.stack.map fun x => if x.port = p then { x with ctx := { x.ctx with trim := v } } else x }, t)
    else (s, { t with ignored := t.ignored + 1 })

/-! ### ACQUIRE and YIELD, lane by lane (R42, R46) -/

/-- The result of R42 for one named lane, its rows judged in their order (log 39). -/
def acquireIndex (p : Port) (acc : State × List (Nat × LaneResult)) (i : Nat) : State × List (Nat × LaneResult) :=
  let s := acc.1
  let out := fun (r : LaneResult) => acc.2 ++ [(i, r)]
  match s.namedLane i with
  | none => (s, out .badValue)
  | some l =>
    let g := s.grants[l]
    let right := match s.ports[p].role with
      | some r => roleRight r l
      | none => false
    match right, s.ports[p].level with
    | true, some q =>
      if s.lanes[l].condition = .parked then (s, out .wrongState)
      else if g.heldBy p then (s, out .holding)
      else if g.waits p then (s, out .waiting)
      else if g.stacks p then (s, out .suspended)
      else if q < g.level then (gainLane l (.station p) q s, out .gained)
      else (waitLane l p q s, out .pending)
    | _, _ => (s, out .noRight)

def yieldIndex (p : Port) (acc : State × List (Nat × LaneResult)) (i : Nat) : State × List (Nat × LaneResult) :=
  let s := acc.1
  let out := fun (r : LaneResult) => acc.2 ++ [(i, r)]
  match s.namedLane i with
  | none => (s, out .badValue)
  | some l =>
    let g := s.grants[l]
    if g.heldBy p then (leaveLane l .yield s, out .released)
    else if g.stacks p || g.waits p then (s.setGrant l fun g => g.without p, out .released)
    else (s, out .notHeld)

/-! ### PARK and release (R48, R52) -/

/-- R48: the lane's grant state is cleared; GRANT_CLEARED goes to every station that stood on the lane and to MOTION. Its
subject and level are the former holder's (log 37). -/
def clearLane (l : Lane) (s : State) : State :=
  let g := s.grants[l]
  let s1 := s.setGrant l fun _ => Grant.reset
  match g.holder with
  | none => s1
  | some h =>
    raiseFor (fun p => grantStations g p || g.waits p || s.isMotion p) (.grantCleared l h.who h.level) s1

/-- R52: at a release into RUN the holder's grant setpoint becomes P and a station's context is switched in. -/
def releaseLane (x : Lens) (l : Lane) (p : Int) (g : Grant) : Grant :=
  { g with
    holder := g.holder.map fun h =>
      match h.who with
      | .station _ => { h with setpoint := p, ctx := switchIn x l p h.ctx }
      | .playback => { h with ctx := { h.ctx with o := 0 } } }

/-- The playback context of a lane returns to kind ABS, D absent, O 0 (R117, R128); its trim field is full speed
(log 36). -/
def freshPlaybackCtx (g : Grant) : Grant :=
  if g.heldByPlayback then { g with holder := g.holder.map fun h => { h with ctx := Context.fresh } } else g

end Sys2Proof.Machine
end

