-- ==== Sys2Proof/Machine/TakeStore.lean ====
section
/-! DEFINITION. The Take Memory Controller's tables (chapter 5): blocks and their allocation, the directory and its
writes, protection, the release of a take's blocks, the waiting reserved-area writes, fetches and staging buffers. -/

namespace Sys2Proof.Machine

open Sys2Proof

/-- The lanes of a header's take (R79). -/
def Header.laneCount (h : Header) : Nat := LaneSet.count h.lanes

/-- Samples of n lanes that fit in a block of 512 KiB (R78). -/
def blockRoom (n : Nat) : Nat := 524288 / sampleBytes n

/-- The bytes a staging buffer holds (R93). -/
def stageBytes (xs : List StagedSample) : Nat := (xs.map fun x => sampleBytes x.pos.length).sum

/-- The samples of a take in take order: its blocks' samples, block by block (R78, R99). -/
def State.takeSamples (s : State) (i : SlotNo) : List StoredSample :=
  s.mem.slots[i].blocks.flatMap fun b => s.mem.blocks[b].data

/-- The length in a slot's header, 0 where it has none (R79). -/
def Slot.length (x : Slot) : Nat := match x.header with
  | some h => h.length
  | none => 0

/-- The slot holds a finished take (R79). -/
def Slot.finished (x : Slot) : Bool := x.state = .complete || x.state = .truncated

/-- The slot that is UPLOADING, if any (R92). -/
def State.uploadSlot (s : State) : Option SlotNo :=
  (List.finRange 32).find? fun i => s.mem.slots[i].state = .uploading

/-- The lowest-numbered FREE block (R78). -/
def State.lowestFree (s : State) : Option BlockNo :=
  (List.finRange 64).find? fun b => s.mem.blocks[b].state = .free

/-- The lowest-numbered DIRTY block (R82). -/
def State.lowestDirty (s : State) : Option BlockNo :=
  (List.finRange 64).find? fun b => s.mem.blocks[b].state = .dirty

/-- The block whose erase is suspended (R85). -/
def State.suspendedErase (s : State) : Option BlockNo :=
  (List.finRange 64).find? fun b => s.mem.blocks[b].state = .erasing true

def BlockState.retired : BlockState → Bool
  | .used _ _ r => r
  | _ => false

/-- A block leaving its take: DIRTY, or BAD where it carries a retire mark (R77, R91). -/
def BlockState.released (b : BlockState) : BlockState := if b.retired then .bad else .dirty

/-- The block with the retire mark placed (R77, R86). -/
def BlockState.retire : BlockState → BlockState
  | .used o p _ => .used o p true
  | b => b

/-! ### Where the next sample goes (R78, R86) -/

/-- The room left for samples of the take in its last block; none where the take has no block or the last one carries a
retire mark. -/
def State.lastRoom (s : State) (i : SlotNo) : Option (BlockNo × Nat) :=
  match s.mem.slots[i].blocks.getLast?, s.mem.slots[i].header with
  | some b, some h =>
    let blk := s.mem.blocks[b]
    if blk.state.retired then none
    else some (b, blockRoom h.laneCount - blk.data.length)
  | _, _ => none

/-- The lowest-numbered FREE block is allocated to the take and appended to its list (R78); places count from 0 (log 45). -/
def allocate (i : SlotNo) (b : BlockNo) (s : State) : State :=
  let place := s.mem.slots[i].blocks.length
  (s.setBlock b fun _ => { state := .used i place false, data := [] }).setSlot i fun x =>
    { x with blocks := x.blocks ++ [b] }

/-- The block the next PROGRAM of the take writes, with the room in it, allocated where needed; none: NO_ROOM. -/
def State.placeNext (s : State) (i : SlotNo) : Option (State × BlockNo × Nat) :=
  match s.lastRoom i with
  | some (b, room + 1) => some (s, b, room + 1)
  | _ =>
    match s.lowestFree with
    | none => none
    | some b =>
      match s.mem.slots[i].header with
      | none => none
      | some h => some (allocate i b s, b, blockRoom h.laneCount)

/-- The block's stored state becomes its state as it stands (R76). -/
def storeBlock (b : BlockNo) (s : State) : State :=
  s.setMem { s.mem with stored := { s.mem.stored with blocks := updAt s.mem.stored.blocks b fun _ => s.mem.blocks[b].state } }

/-! ### Directory writes (R76, R79) -/

/-- A reserved-area write is queued; what waits already waits once (R76). -/
def queueReserved (r : Reserved) (s : State) : State :=
  if s.mem.reservedQueue.contains r then s
  else s.setMem { s.mem with reservedQueue := s.mem.reservedQueue ++ [r] }

def queueDir (i : SlotNo) (s : State) : State := queueReserved (.dir i) s

/-- The slot becomes EMPTY with protection cleared; each block of its list becomes DIRTY, or BAD where retire-marked;
a directory write is queued (R88, R91, R97). -/
def emptySlot (i : SlotNo) (s : State) : State :=
  let bs := s.mem.slots[i].blocks
  let s1 := forEach bs (fun b s => s.setBlock b fun x => { x with state := x.state.released }) s
  let s2 := s1.setSlot i fun x =>
    { x with state := .empty, header := none, blocks := [], locked := false, down := false, openLocked := false,
             released := x.released ++ bs }
  queueDir i s2

/-- The slot becomes COMPLETE and locked (R88), and a directory write is queued (R79). -/
def completeSlot (i : SlotNo) (f : Header → Header) (s : State) : State :=
  queueDir i (s.setSlot i fun x =>
    { x with state := .complete, header := x.header.map f, locked := true, down := false, openLocked := true })

/-! ### The span the stored samples leave (R95, R101) -/

/-- Whether a DEFER span is open after a sample with these marks. -/
def spanAfter (spanOpen : Bool) (m : Marks) : Bool := if m.defer then true else if m.resume then false else spanOpen

/-- The span state the programmed samples leave. -/
def spanOf (xs : List StoredSample) : Bool := xs.foldl (fun o x => spanAfter o x.marks) false

/-! ### Staged samples (R94, R191) -/

/-- The marks a valid marks byte stands for. -/
def marksOf (b : Byte) : Marks := { defer := b.getLsbD 0, resume := b.getLsbD 1, cue := b.getLsbD 2 }

/-- A sample of a chunk is valid against the next expected offset and the span before it (R94, R191). -/
def stagedValid (lanes offset : Nat) (spanOpen : Bool) (x : StagedSample) : Bool :=
  let m := marksOf x.marks
  x.offset = offset && x.pos.length = lanes && (x.pos.all inPosRange) && x.marks.toNat < 8 &&
    !(m.defer && m.resume) && (!m.defer || !spanOpen) && (!m.resume || spanOpen) && x.offset ≤ 65534

/-- The chunk check of R94: the continuity state it leaves, or the index of the first sample that fails. -/
def checkChunk (lanes : Nat) : Nat → Upload → List StagedSample → Except Nat Upload
  | _, u, [] => .ok u
  | i, u, x :: xs =>
    if stagedValid lanes u.nextOffset u.spanOpen x then
      checkChunk lanes (i + 1)
        { nextOffset := u.nextOffset + 1, spanOpen := spanAfter u.spanOpen (marksOf x.marks) } xs
    else .error i

/-! ### Program failure and erase ends (R83, R86) -/

/-- R86: sticky PROGRAM_FAIL, and a retire mark on the block, stored with the completion. -/
def programFailed (b : BlockNo) (s : State) : State :=
  let s1 := s.setBlock b fun x => { x with state := x.state.retire }
  storeBlock b (s1.setMem { s1.mem with programFail := true })

/-- R83: the block becomes FREE, or BAD with ERASE_FAIL and BLOCK_BAD; the state is stored; the array is free. -/
def eraseEnd (b : BlockNo) (verified : Bool) (s : State) : State :=
  let s1 := s.setMem { s.mem with op := none }
  if verified then storeBlock b (s1.setBlock b fun _ => { state := .free, data := [] })
  else
    let s2 := s1.setBlock b fun x => { x with state := .bad }
    raiseMotion (.blockBad b) (storeBlock b (s2.setMem { s2.mem with eraseFail := true }))

/-- R84: a recording or playback that becomes active has an erase in progress suspended at once, and an erase being resumed
suspended at the resume's completion. -/
def suspendErase (s : State) : State :=
  match s.mem.op with
  | some (.erase b) => s.setMem { s.mem with op := some (.suspend b) }
  | some (.resume b _) => s.setMem { s.mem with op := some (.resume b true) }
  | _ => s

/-! ### Uploads (R95, R97) -/

/-- The buffers of an upload that ends are EMPTY. -/
def emptyBuffers (s : State) : State := s.setMem { s.mem with buffers := Vector.replicate 2 StageBuffer.reset }

/-- A chunk part in progress loses its take (R97). -/
def orphanChunk (op : Option ArrayOp) : Option ArrayOp :=
  match op with
  | some (.chunkPart i b buf n _) => some (.chunkPart i b buf n false)
  | o => o

/-- R97: the upload is abandoned. -/
def discardUpload (s : State) : State :=
  match s.uploadSlot with
  | none => s
  | some i =>
    let s1 := emptySlot i (emptyBuffers s)
    s1.setMem { s1.mem with op := orphanChunk s1.mem.op }

/-- A chunk ends with NO_ROOM (R95): one buffer becomes EMPTY and CHUNK_DONE is raised. -/
def chunkNoRoom (k : Fin 2) (s : State) : State :=
  let b := s.mem.buffers[k]
  raiseMotion (.chunkDone true b.first b.last) (s.setBuffer k fun _ => StageBuffer.reset)

def StageBuffer.isQueued (b : StageBuffer) : Bool := match b.state with
  | .queued _ => true
  | _ => false

def StageBuffer.order (b : StageBuffer) : Nat := match b.state with
  | .queued n => n
  | _ => 0

/-- The buffer the scheduler programs next: the PROGRAMMING one, failing that the QUEUED one committed first (R81). -/
def State.chunkBuffer (s : State) : Option (Fin 2) :=
  if s.mem.buffers[0].state = .programming then some 0
  else if s.mem.buffers[1].state = .programming then some 1
  else if s.mem.buffers[0].isQueued && (!s.mem.buffers[1].isQueued || s.mem.buffers[0].order ≤ s.mem.buffers[1].order)
    then some 0
  else if s.mem.buffers[1].isQueued then some 1
  else none

/-- The other buffer. -/
def otherBuffer (k : Fin 2) : Fin 2 := if k = 0 then 1 else 0

/-- R95: the chunk being programmed and a QUEUED one end with NO_ROOM, and the continuity state goes back to what the
take holds. -/
def uploadNoRoom (i : SlotNo) (k : Fin 2) (s : State) : State :=
  let s1 := chunkNoRoom k s
  let s2 := if s1.mem.buffers[otherBuffer k].isQueued then chunkNoRoom (otherBuffer k) s1 else s1
  s2.setMem { s2.mem with upload :=
    { nextOffset := s2.mem.slots[i].length, spanOpen := spanOf (s2.takeSamples i) } }

/-! ### Fetches (R98) -/

/-- The READ in progress for a reader that is gone completes without effect (R98, R118). -/
def dropRead (p : ReadDest → Bool) (op : Option ArrayOp) : Option ArrayOp :=
  match op with
  | some (.read i n d) => some (.read i n (if p d then .dropped else d))
  | o => o

def isPlayRead : ReadDest → Bool
  | .play _ => true
  | _ => false

def isFetchRead (p : Port) : ReadDest → Bool
  | .fetch q => q = p
  | _ => false

/-- R98, R177: the port's fetch is dropped. -/
def dropFetch (p : Port) (s : State) : State :=
  s.setMem { s.mem with
    fetches := s.mem.fetches.filter (fun f => f.port ≠ p)
    op := dropRead (isFetchRead p) s.mem.op }

/-! ### Protection (R90) -/

/-- A change of the PROTECT line for one slot. -/
def protectSlot (closed : Bool) (x : Slot) : Slot :=
  if x.finished && x.down then
    if closed then { x with locked := true } else { x with locked := x.openLocked }
  else x

end Sys2Proof.Machine
end

