-- ==== Sys2Proof/Machine/Recording.lean ====
section
/-! DEFINITION. The Recorder (chapter 6): composing samples, ending a recording, finishing a take, and its frame-start
work. -/

namespace Sys2Proof.Machine

open Sys2Proof

def Marks.any (m : Marks) : Bool := m.defer || m.resume || m.cue

/-- The slot of the Recorder's recording as it stands. -/
def State.recSlot (s : State) : Option Slot := s.recorder.slot.map fun i => s.mem.slots[i]

/-- The samples programmed so far (R103, R113). -/
def State.recProgrammed (s : State) : Nat := match s.recSlot with
  | some x => x.length
  | none => 0

/-- The Recorder returns to IDLE with its power-up values, and RECORD_END is raised (R110, R113). -/
def recIdle (outcome : RecOutcome) (length : Nat) (interrupted implied : Bool) (s : State) : State :=
  let r := s.recorder
  let last := match r.fStart with
    | some f => if length = 0 then none else some (f + length - 1)
    | none => none
  raiseMotion (.recordEnd r.slot outcome length interrupted implied r.marksDropped r.fStart last)
    (s.setRecorder Recorder.reset)

/-- R110: DRAINING with the write queue empty finishes the take. -/
def drainFinish (s : State) : State :=
  if s.recorder.state = .draining && s.recorder.queue.isEmpty then
    match s.recorder.slot with
    | none => s
    | some i =>
      let outcome := s.recorder.outcome.getD .done
      let n := s.mem.slots[i].length
      let interrupted := outcome ≠ .done
      if n = 0 then recIdle outcome 0 false false (emptySlot i s)
      else
        recIdle outcome n interrupted s.recorder.spanOpen
          (completeSlot i (fun h => { h with interrupted := interrupted, impliedResume := s.recorder.spanOpen }) s)
  else s

/-- Pending marks that no sample follows are discarded, and marks dropped is set (R108, R111). -/
def dropMarks (r : Recorder) : Recorder :=
  { r with marks := Marks.none, marksDropped := r.marksDropped || r.marks.any }

/-- R111: an ending cause. ARMED: the recording ends with no sample. RECORDING: the drain begins with the cause as its
outcome. DRAINING: the cause replaces the outcome held. -/
def recordEnds (outcome : RecOutcome) (s : State) : State :=
  match s.recorder.state with
  | .idle => s
  | .armed => recIdle outcome 0 false false (s.setRecorder (dropMarks s.recorder))
  | .recording =>
    drainFinish (s.setRecorder
      { dropMarks s.recorder with state := .draining, outcome := some outcome, endPending := false })
  | .draining => s.setRecorder { s.recorder with outcome := some outcome }

/-- R86, R111: no block is FREE for the head sample: the queue is dropped and the recording ends NO_ROOM with the samples
programmed; the span is the one they leave (log 17). -/
def recordNoRoom (i : SlotNo) (s : State) : State :=
  let s1 := s.setRecorder { s.recorder with queue := [], spanOpen := spanOf (s.takeSamples i) }
  drainFinish (recordEnds .noRoom s1)

/-- R106, R107: the sample of the committed step at (f, 0) is composed and joins the write queue; with 8 samples there
it does not, and the recording ends OVERRUN (log 16). -/
def composeSample (s : State) : State :=
  let r := s.recorder
  if r.state ≠ .recording then s
  else if r.queue.length < 8 then
    let x : Sample :=
      { offset := r.composed, marks := r.marks, pos := (LaneSet.members r.lanes).map fun l => s.lanes[l].p }
    let s1 := s.setRecorder
      { r with
        composed := r.composed + 1
        marks := Marks.none
        spanOpen := spanAfter r.spanOpen r.marks
        queue := r.queue ++ [x] }
    if r.composed + 1 = 65535 then recordEnds .length s1 else s1
  else recordEnds .overrun s

/-- R105: the recording starts at its start frame, unless the lock state is SEARCH. -/
def recordStart (i : SlotNo) (s : State) : State :=
  if s.tb.mode = .referenced && s.tb.lock = .search then recordEnds .referenceLost s
  else
    let r := s.recorder
    let h : Header :=
      { name := r.name, lanes := r.lanes, n := s.tb.n, period := s.tb.workingPeriod,
        referenced := s.tb.mode = .referenced, lensTag := r.lensTag, length := 0, interrupted := false,
        impliedResume := false }
    let s1 := s.setRecorder { r with state := .recording, fStart := some s.tb.f }
    let s2 := s1.setSlot i fun x =>
      { x with state := .recording, header := some h, blocks := [], locked := false, down := false, openLocked := false }
    raiseMotion (.recordStart i s.tb.f) (queueDir i s2)

/-- The Recorder's frame-start work (R105, R109). DEDUCED: the frame start that acts on end pending clears it, of which
R109 says nothing (log 54). -/
def recorderFrame (s : State) : State :=
  match s.recorder.state with
  | .armed =>
    match s.recorder.startFrame, s.recorder.slot with
    | some f, some i => if s.tb.f = f then recordStart i s else s
    | _, _ => s
  | .recording =>
    if s.recorder.endPending then
      drainFinish (s.setRecorder { s.recorder with state := .draining, outcome := some .done, endPending := false })
    else s
  | _ => s

end Sys2Proof.Machine
end

