-- ==== Sys2Proof/Machine/PlaybackUnit.lean ====
section
/-! DEFINITION. The Playback Unit (chapter 7): the demand it supplies, the marks it acts on, deferred segments, stalls,
its frame-start work and its work around a lane step, and the ending of a playback. -/

namespace Sys2Proof.Machine

open Sys2Proof

/-- Sample k in the read-ahead buffer. -/
def Playback.sample (u : Playback) (k : Nat) : Option BufSample := u.buffer.find? fun x => x.index = k

/-- A lane's position in sample k, where the buffer holds it. -/
def Playback.posAt (u : Playback) (k : Nat) (l : Lane) : Option Int :=
  match u.sample k with
  | some x => x.pos[l]
  | none => none

def Playback.len (u : Playback) : Nat := u.length.getD 0

/-- R126: the buffer lacks a sample the demand needs: sample k, and sample k + 1 when k is below length − 1. -/
def Playback.lacks (u : Playback) (k : Nat) : Bool :=
  (u.sample k).isNone || (k + 1 < u.len && (u.sample (k + 1)).isNone)

/-- D(f, t) of R122. -/
def Playback.interpolate (u : Playback) (l : Lane) (k t n : Nat) : Option Int :=
  match u.posAt k l with
  | none => none
  | some a =>
    if k + 1 < u.len then
      match u.posAt (k + 1) l with
      | some b => some (a + truncDiv ((b - a) * t) n)
      | none => none
    else some a

/-- The demand the unit supplies for a participating lane at the present tick (section 7.1; R119 to R128). -/
def playDemand (s : State) (l : Lane) : Option Int :=
  let u := s.play
  let setpoint := s.grants[l].holder.map fun h => h.setpoint
  match u.state with
  | .idle => none
  | .cueing => (u.posAt 0 l).orElse fun _ => setpoint
  | .ready => (u.posAt 0 l).orElse fun _ => setpoint
  | .rollArmed => (u.posAt ((u.armed.map (·.2)).getD 0) l).orElse fun _ => setpoint
  | .rolling =>
    match u.stallDemands with
    | some d => d[l].orElse fun _ => setpoint
    | none => (u.interpolate l (u.k.getD 0) s.tb.t s.tb.n).orElse fun _ => setpoint
  | .deferred =>
    match s.grants[l].holder with
    | none => none
    | some h =>
      match mapDemand s.lens l h.ctx with
      | some m => some (m + h.ctx.o)
      | none => ((u.holdPoints.map fun v => v[l]).getD none).orElse fun _ => setpoint
  | .holdEnd => ((u.endHold.map fun v => v[l]).getD none).orElse fun _ => setpoint

/-- The demands of all participating lanes. -/
def playSupply (s : State) : Vector (Option Int) 12 :=
  Vector.ofFn fun l => if s.participates l then playDemand s l else none

/-- The trim the unit supplies (section 7.1). -/
def Playback.trim (u : Playback) : Nat :=
  match u.state with
  | .cueing => u.cueScale.getD fullScale
  | .ready => u.cueScale.getD fullScale
  | _ => fullScale

/-! ### Endings (R133) -/

/-- PLAY_END is raised, the unit becomes IDLE, and a READ in progress for it completes without effect. -/
def playIdle (outcome : PlayOutcome) (s : State) : State :=
  let u := s.play
  let s1 := raiseMotion (.playEnd u.slot outcome u.spoiled u.k s.tb.f) s
  let s2 := s1.setPlay Playback.reset
  s2.setMem { s2.mem with op := dropRead isPlayRead s2.mem.op }

/-- R133: the unit leaves each lane of its participation set in ascending index; then PLAY_END; then IDLE. -/
def endPlayback (outcome : PlayOutcome) (s : State) : State :=
  if s.play.state = .idle then s
  else
    playIdle outcome
      (forEach allLanes
        (fun l s => if s.participates l && s.grants[l].heldByPlayback then leaveLane l .playbackEnd s else s) s)

/-! ### Deferred segments (R127, R128) -/

/-- The sample carries RESUME, the last one counting as carrying it when the header's implied resume is set. -/
def isResume (implied : Bool) (len : Nat) (x : BufSample) : Bool := x.marks.resume || (implied && x.index + 1 = len)

/-- The implied resume flag of the take being played. -/
def State.playImplied (s : State) : Bool :=
  match s.play.slot with
  | some i => match s.mem.slots[i].header with
    | some h => h.impliedResume
    | none => false
  | none => false

/-- SEGMENT_START with r and the resume frame, once found (R127). DESIGN CHOICE: raised again when r is found later, it
carries the frame counter as it stands then, where R127 does not say which f it carries (log 53). -/
def raiseSegmentStart (s : State) : State :=
  let u := s.play
  raiseMotion (.segmentStart (u.deferIndex.getD 0) s.tb.f
    (u.resumeIndex.map fun r => (r, u.fRoll.getD 0 + r))) s

/-- The playback contexts of the participating lanes return to kind ABS, D absent, O 0 (R128). -/
def resetPlayContexts (s : State) : State :=
  s.setGrants (mapAll s.grants fun l g => if s.participates l then freshPlaybackCtx g else g)

/-- R127: sample k carries DEFER; when it is the last sample no segment is begun. -/
def beginSegment (k : Nat) (s : State) : State :=
  let u := s.play
  if k + 1 = u.len then s
  else
    let implied := s.playImplied
    let after := u.buffer.filter fun x => k < x.index
    let rest := after.dropWhile fun x => !isResume implied u.len x
    let hold : Vector (Option Int) 12 := Vector.ofFn fun l => if s.participates l then u.posAt k l else none
    let s1 := resetPlayContexts (s.setPlay
      { u with
        state := .deferred
        deferIndex := some k
        resumeIndex := (rest.head?).map fun x => x.index
        holdPoints := some hold
        stallDemands := none
        stallCount := 0
        marksDue := false
        buffer := rest })
    raiseSegmentStart s1

/-- The marks of sample k are acted on (R123, step 3). -/
def actMarks (k : Nat) (s : State) : State :=
  match s.play.sample k with
  | none => s
  | some x =>
    let s1 := if x.marks.cue then raiseMotion (.playMark k s.tb.f) s else s
    if x.marks.defer then beginSegment k s1 else s1

/-- The segment ends: its record goes and the contexts return (R128, R129). -/
def endSegment (s : State) : State :=
  resetPlayContexts (s.setPlay { s.play with deferIndex := none, resumeIndex := none, holdPoints := none })

/-! ### The end of the take (R124) -/

def finishPass (s : State) : State :=
  match s.play.endMode with
  | some .holdEnd =>
    let u := s.play
    let hold : Vector (Option Int) 12 := Vector.ofFn fun l =>
      if s.participates l then (u.posAt (u.len - 1) l).orElse fun _ => u.lastDemand[l] else none
    let s1 := s.setPlay
      { u with state := .holdEnd, endHold := some hold, buffer := [], stallDemands := none, stallCount := 0, marksDue := false }
    let s2 := s1.setMem { s1.mem with op := dropRead isPlayRead s1.mem.op }
    raiseMotion (.playHeld u.slot u.spoiled s.tb.f) s2
  | _ => endPlayback .done s

/-! ### Frame-start work (R121, R123, R126, R131) -/

/-- A stalled frame start with the stall count already 8 (R126). -/
def stallLimitHit (s : State) : Bool :=
  s.play.state = .rolling && s.play.stallCount = 8 && s.play.lacks (s.play.k.getD 0)

/-- R123 for a frame start that finds the unit ROLLING. -/
def rollingFrame (s : State) : State :=
  let u := s.play
  let k := s.tb.f - u.fRoll.getD 0
  let s1 := s.setPlay { u with k := some k }
  if u.len ≤ k then finishPass s1
  else
    let s2 := s1.setPlay
      { s1.play with
        buffer := s1.play.buffer.filter fun x => k ≤ x.index
        marksDue := (u.sample k).isNone }
    let s3 := actMarks k s2
    if stallLimitHit s3 then endPlayback .stall s3 else s3

/-- The Playback Unit's work at a frame start, after the Timebase has issued it (R121, R123, R131). -/
def playbackFrame (s : State) : State :=
  let u := s.play
  match u.state with
  | .rollArmed =>
    match u.armed with
    | some (f, j) =>
      if s.tb.f = f then
        if s.tb.mode = .referenced && s.tb.lock = .search then endPlayback .referenceLost s
        else
          let fresh := u.fRoll.isNone
          let s1 := s.setPlay { u with state := .rolling, k := some j, armed := none, fRoll := some (u.fRoll.getD f) }
          rollingFrame (if fresh then raiseMotion (.rollStart u.slot f) s1 else s1)
      else s
    | none => s
  | .rolling => rollingFrame s
  | .deferred =>
    match u.resumeIndex with
    | some r => if u.fRoll.getD 0 + r + 8 ≤ s.tb.f then endPlayback .deferMissed s else s
    | none => s
  | _ => s

/-! ### Around a lane step (R119, R125, R126, R128) -/

/-- R126: a stalled step fixes the stall demands and sets spoiled; the first step that is not stalled ends the stall and
acts on marks that waited for it. -/
def stallStep (s : State) : State :=
  let u := s.play
  if u.state ≠ .rolling then s
  else
    let k := u.k.getD 0
    if u.lacks k then
      let demands : Vector (Option Int) 12 := match u.stallDemands with
        | some d => d
        | none => Vector.ofFn fun l =>
          if s.participates l then (u.posAt k l).orElse fun _ => u.lastDemand[l] else none
      s.setPlay
        { u with
          spoiled := true
          stallDemands := some demands
          stallCount := if s.tb.t = 0 then min 9 (u.stallCount + 1) else u.stallCount }
    else
      let s1 := s.setPlay { u with stallDemands := none, stallCount := 0, marksDue := false }
      if u.marksDue then actMarks k s1 else s1

/-- Before the lane step at a tick: the stall rules, then the demands of the step. -/
def playBefore (s : State) : State :=
  let s1 := stallStep s
  s1.setPlay { s1.play with lastDemand := playSupply s1 }

/-- The demand the unit supplied for the lane's step lay beyond a soft limit, which then holds the lane (R122). -/
def State.demandBeyond (s : State) (l : Lane) : Bool := match s.play.lastDemand[l] with
  | some d => d < s.lanes[l].softMin || s.lanes[l].softMax < d
  | none => false

/-- A participating ACTIVE lane whose committed P strays from its target beyond its trackTol (R125), or whose demand lay
beyond a soft limit (R122; log 48); of several, TRACK_SLIP names the lowest (log 42). -/
def strayLane (s : State) : Option Lane :=
  allLanes.find? fun l =>
    let x := s.lanes[l]
    s.participates l && x.condition = .active && (x.trackTol < mag (x.t - x.p) || s.demandBeyond l)

/-- The tracking test (R122, R125). -/
def trackingTest (s : State) : State :=
  match strayLane s with
  | none => s
  | some l =>
    let u := s.play
    let s1 := s.setPlay { u with spoiled := true, slipReported := true }
    if u.slipReported then s1
    else raiseMotion (.trackSlip l s.tb.f s.tb.t (s.lanes[l].t - s.lanes[l].p)) s1

/-- Every participating lane's committed P lies within its trackTol of its position in sample j. -/
def State.nearSample (s : State) (j : Nat) : Bool :=
  allLanes.all fun l => !s.participates l ||
    match s.play.posAt j l with
    | some x => mag (s.lanes[l].p - x) ≤ s.lanes[l].trackTol
    | none => false

/-- The READY condition of R119. -/
def readyCondition (s : State) : Bool :=
  s.nearSample 0 && (allLanes.all fun l => !s.participates l || s.lanes[l].v = 0) &&
    (4 ≤ s.play.buffer.length || (s.play.len < 4 && s.play.buffer.length = s.play.len))

/-- R119: CUEING becomes READY. -/
def readyTest (s : State) : State :=
  if readyCondition s then
    raiseMotion (.cueReady s.play.slot s.play.participation) (s.setPlay { s.play with state := .ready })
  else s

/-- The unit's tests after a committed lane step that was not replaced by the stop step. -/
def playAfter (s : State) : State :=
  match s.play.state with
  | .rolling => trackingTest s
  | .cueing => readyTest s
  | _ => s

/-! ### READ completions (R118, R127) -/

/-- What the buffer keeps of a sample of the take. -/
def bufSample (part lanes : LaneSet) (index : Nat) (x : StoredSample) : BufSample where
  index := index
  marks := x.marks
  pos := Vector.ofFn fun l =>
    if LaneSet.has part l then x.pos[(LaneSet.members lanes).findIdx fun m => m = l]? else none

/-- Sample `index` has been read: it is appended and n rises; during the resume search a sample before the resume sample
is dropped (R118, R127). -/
def playRead (index : Nat) (x : StoredSample) (lanes : LaneSet) (s : State) : State :=
  let u := s.play
  let b := bufSample u.participation lanes index x
  let u1 := { u with nextRead := index + 1 }
  if u.state = .deferred && u.resumeIndex.isNone then
    if isResume s.playImplied u.len b then
      raiseSegmentStart (s.setPlay { u1 with buffer := u.buffer ++ [b], resumeIndex := some index })
    else s.setPlay u1
  else s.setPlay { u1 with buffer := u.buffer ++ [b] }

/-- R118: the unit has a sample to read. -/
def State.playWantsRead (s : State) : Bool :=
  let u := s.play
  (u.state = .cueing || u.state = .ready || u.state = .rollArmed || u.state = .rolling || u.state = .deferred) &&
    u.nextRead < u.len && u.buffer.length < 16

end Sys2Proof.Machine
end

