-- ==== Sys2Proof/Machine/Scheduler.lean ====
section
/-! DEFINITION. The array scheduler (R80, R81) and the completion of each array operation (R75, R76, R83 to R86, R95,
R98, R99). -/

namespace Sys2Proof.Machine

open Sys2Proof

def setOp (op : ArrayOp) (s : State) : State := s.setMem { s.mem with op := some op }

/-! ### Starting the operation of each position -/

/-- READ of the sample the Playback Unit wants next (positions 1 and 3). -/
def startPlayRead (s : State) : State :=
  match s.play.slot with
  | none => s
  | some i => setOp (.read i s.play.nextRead (.play s.play.nextRead)) s

/-- PROGRAM of the oldest sample of the write queue (positions 2 and 4); none: NO_ROOM. -/
def startSampleProgram (i : SlotNo) (s : State) : Option State :=
  (s.placeNext i).map fun x => setOp (.programSample i x.2.1) x.1

/-- The content a reserved-area write stores, as it stands when the write begins, and the store state it leaves
(R66, R76, R165). A directory write carries the slot's releases once: a write that fails leaves them stored as they were
until a later change of the block (log 38). -/
def startReserved (s : State) : State :=
  match s.mem.reservedQueue with
  | [] => s
  | r :: rest =>
    let s1 := s.setMem { s.mem with reservedQueue := rest }
    match r with
    | .dir i =>
      let x := s1.mem.slots[i]
      let w := ReservedWrite.dir i { state := x.state, header := x.header }
        (x.released.map fun b => (b, s1.mem.blocks[b].state))
      setOp (.reserved w) (s1.setSlot i fun x => { x with released := [] })
    | .profile k =>
      let s2 := s1.setLens { s1.lens with slots := updAt s1.lens.slots k fun x => { x with store := .writing } }
      setOp (.reserved (.profile k s1.lens.slots[k].profile)) s2
    | .rig =>
      let s2 := s1.setRig { s1.rig with store := .writing }
      setOp (.reserved (.rig { s1.rig.record with frozen := s1.rig.record.frozen || s1.rig.freezePending })) s2

/-- The next part of a chunk: the samples that fit, whole, in the room of the block (R95), and after a failure the
same part (R86); none: NO_ROOM. -/
def startChunkPart (i : SlotNo) (k : Fin 2) (s : State) : Option State :=
  (s.placeNext i).map fun x =>
    let b := s.mem.buffers[k]
    let n := min x.2.2 (b.part.getD b.samples.length)
    setOp (.chunkPart i x.2.1 k n true) (x.1.setBuffer k fun b => { b with state := .programming })

/-- The fetch accepted first that has samples still to read (position 7). -/
def State.nextFetch (s : State) : Option Fetch := s.mem.fetches.find? fun f => 0 < f.left

/-- Position 8: the suspended erase is resumed; failing that, the lowest DIRTY block is erased (R82, R85). -/
def startErase (s : State) : State :=
  match s.suspendedErase with
  | some b => setOp (.resume b false) (s.setBlock b fun x => { x with state := .erasing false })
  | none =>
    match s.lowestDirty with
    | some b => setOp (.erase b) (storeBlock b (s.setBlock b fun x => { x with state := .erasing false }))
    | none => s

/-- The first of R81's positions that is waiting is started. When its PROGRAM finds no FREE block the work ends NO_ROOM
and the choice is made again; each such end leaves that work's queue empty, so three rounds are enough. -/
def scheduleRounds : Nat → State → State
  | 0, s => s
  | n + 1, s =>
    let sampleWork := fun (_ : Unit) => match s.recorder.slot with
      | none => s
      | some i => match startSampleProgram i s with
        | some s' => s'
        | none => scheduleRounds n (recordNoRoom i s)
    if s.playWantsRead && s.play.buffer.length < 4 then startPlayRead s
    else if 4 ≤ s.recorder.queue.length then sampleWork ()
    else if s.playWantsRead then startPlayRead s
    else if 1 ≤ s.recorder.queue.length then sampleWork ()
    else if !s.mem.reservedQueue.isEmpty then startReserved s
    else match s.chunkBuffer, s.uploadSlot with
      | some k, some i =>
        match startChunkPart i k s with
        | some s' => s'
        | none => scheduleRounds n (uploadNoRoom i k s)
      | _, _ =>
        match s.nextFetch with
        | some f => setOp (.read f.slot f.next (.fetch f.port)) s
        | none => if s.recActive || s.playActive then s else startErase s

/-- R81: each time the array is free, the scheduler chooses. It does not run during STARTING (R100). -/
def schedule (s : State) : State :=
  if s.starting then s else if s.mem.op.isSome then s else scheduleRounds 3 s

/-- The end of a command that may leave work for the array or frames for a transmitter. -/
def settle (s : State) : State := pump (schedule s)

/-! ### Completions -/

/-- The array is free again. -/
def freeArray (s : State) : State := s.setMem { s.mem with op := none }

/-- R98: a fetch has read one sample; at the last the REPLY joins the reply path. -/
def fetchRead (p : Port) (x : StoredSample) (s : State) : State :=
  let step := fun (f : Fetch) =>
    if f.port = p then { f with next := f.next + 1, left := f.left - 1, samples := f.samples ++ [x] } else f
  let s1 := s.setMem { s.mem with fetches := s.mem.fetches.map step }
  match s1.mem.fetches.find? fun f => f.port = p with
  | some f =>
    if f.left = 0 then
      pushReply p (({ outcome := .done, adjusted := f.adjusted, payload := .samples f.samples } : Answer).reply f.tag .fetch) s1
    else s1
  | none => s1

/-- A READ completes (R98, R99). -/
def readDone (s : State) : State :=
  match s.mem.op with
  | some (.read i n d) =>
    let s1 := freeArray s
    match d, (s.takeSamples i)[n]? with
    | .play k, some x =>
      playRead k x (((s.mem.slots[i].header).map fun h => h.lanes).getD 0) s1
    | .fetch p, some x => fetchRead p x s1
    | _, _ => s1
  | _ => s

/-- A sample PROGRAM completes (R86, R99, R107). -/
def sampleProgrammed (ok : Bool) (s : State) : State :=
  match s.mem.op with
  | some (.programSample i b) =>
    let s1 := freeArray s
    if ok then
      match s.recorder.queue with
      | [] => storeBlock b s1
      | x :: rest =>
        let s2 := s1.setBlock b fun y => { y with data := y.data ++ [storeSample x.offset x.marks x.pos] }
        let s3 := s2.setSlot i fun y => { y with header := y.header.map fun h => { h with length := h.length + 1 } }
        drainFinish ((storeBlock b s3).setRecorder { s3.recorder with queue := rest })
    else programFailed b s1
  | _ => s

/-- A chunk part completes while its upload lives (R95). Its samples leave the buffer, which is then filled by those left
alone (log 41). -/
def chunkProgrammed (i : SlotNo) (b : BlockNo) (k : Fin 2) (n : Nat) (s : State) : State :=
  let buf := s.mem.buffers[k]
  let part := buf.samples.take n
  let s1 := s.setBlock b fun y => { y with data := y.data ++ part.map fun x => storeSample x.offset (marksOf x.marks) x.pos }
  let s2 := s1.setSlot i fun y => { y with header := y.header.map fun h => { h with length := h.length + part.length } }
  let last := match part.getLast? with
    | some x => some x.offset
    | none => buf.last
  let rest := buf.samples.drop n
  let s3 := storeBlock b s2
  if rest.isEmpty then
    raiseMotion (.chunkDone false buf.first last) (s3.setBuffer k fun _ => StageBuffer.reset)
  else s3.setBuffer k fun y => { y with samples := rest, last := last, part := none }

/-- A chunk part fails while its upload lives: the same part is still to program, in another block (R86). -/
def chunkFailed (b : BlockNo) (k : Fin 2) (n : Nat) (s : State) : State :=
  programFailed b (s.setBuffer k fun y => { y with part := some n })

/-- R97: a part whose upload was discarded fails: PROGRAM_FAIL is set and the DIRTY block becomes BAD, which is stored
with the completion (log 40). -/
def orphanFailed (b : BlockNo) (s : State) : State :=
  let s1 := s.setBlock b fun x => { x with state := .bad }
  storeBlock b (s1.setMem { s1.mem with programFail := true })

/-- A chunk part PROGRAM completes (R86, R95, R97). The success of a part whose upload was discarded stores its block's
DIRTY state (log 40). -/
def partDone (ok : Bool) (s : State) : State :=
  match s.mem.op with
  | some (.chunkPart i b k n live) =>
    let s1 := freeArray s
    match live, ok with
    | true, true => chunkProgrammed i b k n s1
    | true, false => chunkFailed b k n s1
    | false, true => storeBlock b s1
    | false, false => orphanFailed b s1
  | _ => s

/-- An erase completes and is verified (R83). -/
def eraseCompletes (verified : Bool) (s : State) : State :=
  match s.mem.op with
  | some (.erase b) => eraseEnd b verified s
  | _ => s

/-- An erase suspend completes (R84). -/
def suspendCompletes (r : SuspendEnd) (s : State) : State :=
  match s.mem.op with
  | some (.suspend b) =>
    match r with
    | .unfinished => freeArray (s.setBlock b fun x => { x with state := .erasing true })
    | .finished verified => eraseEnd b verified s
  | _ => s

/-- An erase resume completes: the erase goes on, or is suspended for an activity that began meanwhile (R84, R85). -/
def resumeCompletes (s : State) : State :=
  match s.mem.op with
  | some (.resume b again) => setOp (if again then .suspend b else .erase b) s
  | _ => s

/-- The store state after a write, with more content waiting or not (R66, R165). -/
def storeAfter (ok waiting : Bool) : StoreState :=
  if waiting then .writeWaiting else if ok then .stored else .failed

/-- What a successful write leaves in the reserved area (R76). -/
def storeContent (w : ReservedWrite) (x : Stored) : Stored :=
  match w with
  | .dir i c rel =>
    { x with
      slots := updAt x.slots i fun _ => c
      blocks := rel.foldl (fun v y => updAt v y.1 fun _ => y.2) x.blocks }
  | .profile k p => { x with profiles := updAt x.profiles k fun _ => some p }
  | .rig r => { x with rig := some r }

/-- R167: the end of a freeze write: its success sets frozen; either way RIG_FROZEN is raised. -/
def freezeEnds (ok : Bool) (s : State) : State :=
  let r := s.rig
  raiseMotion (.rigFrozen ok)
    (s.setRig { r with record := { r.record with frozen := r.record.frozen || ok }, freezePending := false })

/-- The block that owns the content learns of the write's end (R66, R165, R167). -/
def writeEnds (w : ReservedWrite) (ok : Bool) (s : State) : State :=
  match w with
  | .dir _ _ _ => s
  | .profile k _ =>
    let st := storeAfter ok (s.mem.reservedQueue.contains (.profile k))
    s.setLens { s.lens with slots := updAt s.lens.slots k fun x => { x with store := st } }
  | .rig c =>
    let st := storeAfter ok (s.mem.reservedQueue.contains .rig)
    let s1 := s.setRig { s.rig with store := st }
    if c.frozen && s.rig.freezePending then freezeEnds ok s1 else s1

/-- A reserved-area write completes or fails (R76). -/
def reservedDone (ok : Bool) (s : State) : State :=
  match s.mem.op with
  | some (.reserved w) =>
    let s1 := freeArray s
    let s2 := if ok then s1.setMem { s1.mem with stored := storeContent w s1.mem.stored }
      else s1.setMem { s1.mem with programFail := true }
    writeEnds w ok s2
  | _ => s

end Sys2Proof.Machine
end

