-- ==== Sys2Proof/Machine/ArrayCommands.lean ====
section
/-! DEFINITION. The meanings of the array's completions (R75, R81) and of a change of the PROTECT line (R90). A completion
of an operation that is not in progress has no effect (log 4). -/

namespace Sys2Proof.Machine

open Sys2Proof

/-- PROTECT_LINE_CHANGE (R90). -/
def execProtectLineChange (closed : Bool) (s : State) : Host.Outcome State Fault Refusal :=
  .next (if s.mem.protectClosed = closed then s
    else s.setMem { s.mem with protectClosed := closed, slots := mapAll s.mem.slots fun _ x => protectSlot closed x })

/-- ARRAY_READ_DONE (R98, R99). -/
def execArrayReadDone (s : State) : Host.Outcome State Fault Refusal := .next (settle (readDone s))

/-- PROGRAM_SAMPLE_DONE (R86, R99, R107). -/
def execProgramSampleDone (ok : Bool) (s : State) : Host.Outcome State Fault Refusal :=
  .next (settle (sampleProgrammed ok s))

/-- CHUNK_PART_DONE (R86, R95, R97). -/
def execChunkPartDone (ok : Bool) (s : State) : Host.Outcome State Fault Refusal := .next (settle (partDone ok s))

/-- ERASE_DONE (R83). -/
def execEraseDone (verified : Bool) (s : State) : Host.Outcome State Fault Refusal :=
  .next (settle (eraseCompletes verified s))

/-- ERASE_SUSPEND_DONE (R84). -/
def execEraseSuspendDone (result : SuspendEnd) (s : State) : Host.Outcome State Fault Refusal :=
  .next (settle (suspendCompletes result s))

/-- ERASE_RESUME_DONE (R84, R85). -/
def execEraseResumeDone (s : State) : Host.Outcome State Fault Refusal := .next (settle (resumeCompletes s))

/-- RESERVED_WRITE_DONE (R66, R76, R165, R167). -/
def execReservedWriteDone (ok : Bool) (s : State) : Host.Outcome State Fault Refusal :=
  .next (settle (reservedDone ok s))

end Sys2Proof.Machine
end

