-- ==== Sys2Proof/Machine/Flags.lean ====
section
/-! DEFINITION. The flags: a lane's step flags (R16), the sticky take memory flags (R87) and a port's latched flags
(R178). The EVENTS_LOST flag is set in Ops.lean (pushEvent) and cleared in Links.lean (frame sent). -/

namespace Sys2Proof.Machine

open Sys2Proof

/-- CAPPED of a committed step: S_eff below 65536, or a held step in the proportional branch whose requested velocity
exceeded the cap in magnitude (R16). -/
def cappedFlag (sEff : Nat) (requestOverCap : Bool) : Bool := sEff < fullScale || requestOverCap

/-- TAKE STATUS CLEAR clears the three sticky flags (R87). -/
def clearSticky (s : State) : State :=
  s.setMem { s.mem with programFail := false, eraseFail := false, chunkReject := false }

/-- CHUNK_REJECT is set (R87, R94). -/
def setChunkReject (s : State) : State := s.setMem { s.mem with chunkReject := true }

def latchLinkLost (q : StationPort) : StationPort := { q with linkLost := true }
def latchCheckError (q : StationPort) : StationPort := { q with checkError := true }
def latchRequestsLost (q : StationPort) : StationPort := { q with requestsLost := true }

/-- A QUERY of the station table clears the latched flags of all four ports (R178). -/
def clearLatched (s : State) : State :=
  s.setPorts (mapAll s.ports fun _ q => { q with linkLost := false, checkError := false, requestsLost := false })

end Sys2Proof.Machine
end

