-- ==== Sys2Proof/Machine/Stops.lean ====
section
/-! DEFINITION. The Safety Monitor (chapter 8): the zone tests, the cause set and the stop states, drive power, disabled
lanes, and the release. -/

namespace Sys2Proof.Machine

open Sys2Proof

/-! ### Zones (R138 to R142) -/

/-- The braking distance ceil((V² + |V|·A) / (2·A)) (R11, R19, R140). -/
def brakeDistance (v : Int) (a : Nat) : Int := ceilDiv (v * v + (mag v : Int) * a) (2 * a)

/-- The swept interval of a lane at (P, V) with its Astop (R140). -/
def sweptInterval (p v : Int) (astop : Nat) : Int × Int :=
  let e := p + v.sign * brakeDistance v astop
  (min p e, max p e)

/-- The swept interval meets [low, high] (R140). -/
def meets (sw : Int × Int) (low high : Int) : Bool := sw.1 ≤ high && low ≤ sw.2

/-- Positions and velocities of the twelve lanes, with each lane's Astop. -/
abbrev Motion := Vector (Int × Int × Nat) 12

/-- The committed vector as it stands. -/
def State.motion (s : State) : Motion := mapAll s.lanes fun _ x => (x.p, x.v, x.astop)

def intervalOn (m : Motion) (f : Int × Int × Nat → Interval → Bool) (i : Interval) : Bool :=
  match indexOf 12 i.lane with
  | some l => f m[l] i
  | none => false

/-- Every one of the zone's swept intervals meets the zone's interval (R140, R141). -/
def zonePredicts (m : Motion) (r : ZoneRecord) : Bool :=
  r.intervals.all (intervalOn m fun x i => meets (sweptInterval x.1 x.2.1 x.2.2) i.low i.high)

/-- Every one of the zone's lanes has its P in [low, high] (R141). -/
def zoneContains (m : Motion) (r : ZoneRecord) : Bool :=
  r.intervals.all (intervalOn m fun x i => i.low ≤ x.1 && x.1 ≤ i.high)

/-- An enabled KEEP_OUT zone. -/
def ZoneEntry.armedKeepOut (z : ZoneEntry) : Bool := match z.record with
  | some r => r.enabled && r.kind = .keepOut
  | none => false

/-- The zones that predict on a candidate: enabled KEEP_OUT zones without an exiting mark (R140). -/
def predictedZones (s : State) (m : Motion) : List ZoneNo :=
  (List.finRange 16).filter fun z =>
    let e := s.safety.zones[z]
    e.armedKeepOut && !e.exiting && (match e.record with
      | some r => zonePredicts m r
      | none => false)

/-- The results of one entry's evaluation against the committed vector; a disabled or empty entry stays clear
(R138, R141). -/
def evalZone (m : Motion) (e : ZoneEntry) : ZoneEntry :=
  match e.record with
  | some r =>
    if r.enabled then { e with predicting := zonePredicts m r, breached := zoneContains m r }
    else { e with predicting := false, breached := false }
  | none => { e with predicting := false, breached := false }

/-- Enabled non-exiting KEEP_OUT zones found breached (R141), in ascending zone number (log 28). -/
def breachedZones (s : State) : List ZoneNo :=
  (List.finRange 16).filter fun z =>
    let e := s.safety.zones[z]
    e.armedKeepOut && !e.exiting && e.breached

/-- R142: a mark on a zone found not breached is cleared, and EXIT_CLEARED is raised. -/
def clearExit (z : ZoneNo) (s : State) : State :=
  let e := s.safety.zones[z]
  if e.exiting && e.armedKeepOut && !e.breached then
    raiseAll (.exitCleared z s.tb.f s.tb.t) (s.setZone z fun e => { e with exiting := false })
  else s

/-- The scale a zone contributes to a lane, if any (R9, R141, R142). -/
def ZoneEntry.scaleFor (e : ZoneEntry) (l : Lane) : Option Nat :=
  match e.record with
  | none => none
  | some r =>
    if r.intervals.any fun i => i.lane = l.val then
      match r.kind with
      | .slow => if r.enabled && (e.predicting || e.breached) then some r.scale else none
      | .keepOut => if e.exiting then some r.scale else none
    else none

/-! ### Stop entry (R146) and causes (R144, R145) -/

/-- The stop entry is handed to the Recorder and to the Playback Unit (R146). -/
def stopEntry (s : State) : State := endPlayback .stopped (recordEnds .stopped s)

def State.hasCause (s : State) (k : CauseKind) : Bool := s.safety.causes.any fun c => c.kind = k

/-- A cause joins the set unless it is a duplicate (R144), and STOP_CAUSE is raised with the state after the event. -/
def addCause (after : StopState) (k : CauseKind) (s : State) : State :=
  if s.hasCause k then s
  else
    let c : Cause := { kind := k, f := s.tb.f, t := s.tb.t }
    raiseAll (.stopCause k s.tb.f s.tb.t after) (s.setSafety { s.safety with causes := s.safety.causes ++ [c] })

/-- The stop state after a cause event (R145). -/
def stopAfterCause : StopState → StopState
  | .run => .stopping
  | .stopping => .stopping
  | .stopped => .stopped
  | .releasing => .stopped

/-- The stop state changes and STOP_STATE is raised (R155). -/
def changeStop (new : StopState) (asker : Option Port) (party : Option Party) (why : Option StopReason) (s : State) : State :=
  raiseAll (.stopState s.safety.stop new asker party why) (s.setSafety { s.safety with stop := new })

/-- A release in progress ends in STOPPED, the release record none (R145, R152, R154). -/
def cancelRelease (why : StopReason) (s : State) : State :=
  changeStop .stopped none none (some why) (s.setSafety { s.safety with release := none })

/-- Cause events taken together, in order (R145): STOP_CAUSE for each added, then STOP_STATE, then DRIVE_POWER (R155).
The endings of the stop entry follow STOP_STATE (log 28). -/
def causeEvents (ks : List CauseKind) (s : State) : State :=
  if ks.isEmpty then s
  else
    let before := s.safety.stop
    let s1 := forEach ks (addCause (stopAfterCause before)) s
    match before with
    | .run => stopEntry (changeStop .stopping none none none s1)
    | .stopping => s1
    | .stopped => if ks.any CauseKind.isOff then setPower false s1 else s1
    | .releasing =>
      let s2 := cancelRelease .newCause s1
      if s2.safety.causes.any fun c => CauseKind.isOff c.kind then setPower false s2 else s2

/-! ### Disabled lanes (R3, R150) -/

/-- The lane becomes DISABLED with the reason and V = 0, unless it is not ACTIVE (R3, R150). -/
def disableLane (why : DisableReason) (x : LaneRec) : LaneRec :=
  if x.condition = .active then { x with condition := .disabled why, v := 0 } else x

/-- R150: a drive cause disables its lane at once, its outputs are deasserted, and then the cause event is taken. -/
def driveCause (why : DisableReason) (l : Lane) (s : State) : State :=
  let k := match why with
    | .driveFault => CauseKind.driveFault l
    | .followError => CauseKind.followError l
  causeEvents [k] (refreshOutputs (s.setLane l (disableLane why)))

/-! ### Reaching STOPPED (R148) -/

/-- Every ACTIVE lane's committed V is 0. -/
def State.atRest (s : State) : Bool :=
  allLanes.all fun l => !(s.lanes[l].present && s.lanes[l].condition = .active) || s.lanes[l].v = 0

/-- After a step committed in STOPPING: STOPPED once every ACTIVE lane rests; drive power becomes OFF when a cause of
class OFF is in the set or an UNPARK was accepted during the ramp (R148, R149). -/
def stoppedTest (s : State) : State :=
  if s.safety.stop = .stopping && s.atRest then
    let off := (s.safety.causes.any fun c => CauseKind.isOff c.kind) || s.safety.unparkInRamp
    let s1 := changeStop .stopped none none (some .reached) (s.setSafety { s.safety with unparkInRamp := false })
    if off then setPower false s1 else s1
  else s

/-! ### Release (R151 to R153) -/

/-- A lane with a DRIVE_FAULT cause in the set, or DISABLED with reason DRIVE_FAULT (R151). -/
def State.driveFaultLane (s : State) (l : Lane) : Bool :=
  s.hasCause (.driveFault l) || (s.lanes[l].present && s.lanes[l].condition = .disabled .driveFault)

/-- A drive reports OK when its latest status is OK (R151, R157). -/
def State.driveOk (s : State) (l : Lane) : Bool := s.drives.channels[l].status = .ok

/-- The release conditions (R151). -/
def State.releaseConditions (s : State) : Bool :=
  !s.safety.stopLine && allLanes.all fun l => !s.driveFaultLane l || s.driveOk l

/-- A lane record reloaded from a count: P = count × 256, V = 0, T = P (R3, R153); without a count P stays. -/
def reloadLane (count : Option Int) (x : LaneRec) : LaneRec :=
  let p := match count with
    | some c => c * 256
    | none => x.p
  { x with condition := .active, p := p, v := 0, t := p }

/-- Steps 2 and 3 of R153 for one lane. -/
def releaseReload (powerWasOff : Bool) (c : Channel) (x : LaneRec) : LaneRec :=
  if !x.present then x
  else match x.condition with
    | .disabled _ => if c.status = .ok then reloadLane c.latestCount x else x
    | .active => if powerWasOff then reloadLane c.latestCount x else x
    | .parked => x

/-- Step 5 of R153: an enabled KEEP_OUT zone that the positions breach is marked exiting (R142). -/
def markExit (m : Motion) (e : ZoneEntry) : ZoneEntry :=
  match e.record with
  | some r => if r.enabled && r.kind = .keepOut && zoneContains m r then { e with exiting := true } else e
  | none => e

/-- R153: a release enters RUN. -/
def enterRun (party : Party) (s : State) : State :=
  let wasOff := !s.safety.drivePower
  let s1 := s.setSafety { s.safety with causes := [], release := none }
  let s2 := s1.setLanes (mapAll s1.lanes fun l x => releaseReload wasOff s1.drives.channels[l] x)
  let s3 := refreshOutputs (s2.setSafety { s2.safety with drivePower := true })
  let s4 := s3.setSafety { s3.safety with zones := mapAll s3.safety.zones fun _ e => markExit s3.motion e }
  let s5 := s4.setGrants (mapAll s4.grants fun l g => releaseLane s4.lens l s4.lanes[l].p g)
  let s6 := changeStop .run none (some party) none s5
  if wasOff then raiseAll (.drivePower true) s6 else s6

/-- An agreeing event in RELEASING rechecks the conditions (R152). -/
def agree (party : Party) (s : State) : State :=
  if s.releaseConditions then enterRun party s else cancelRelease .checkFailed s

end Sys2Proof.Machine
end

