-- ==== Sys2Proof/Machine/Shaping.lean ====
section
/-! DEFINITION. The arithmetic of the lane step for one lane (chapter 1): target, cap, braking, the four forms, the limit
clip, and the effective scale. -/

namespace Sys2Proof.Machine

open Sys2Proof

/-! ### Effective scale and cap (R9, R10) -/

/-- The minimum of the terms that apply, full speed always among them (R9). -/
def minScale (terms : List Nat) : Nat := terms.foldl min fullScale

/-- The holder's trim (R6, R9). -/
def State.trimTerm (s : State) (l : Lane) : List Nat :=
  match s.grants[l].holder with
  | none => []
  | some h => match h.who with
    | .station _ => [h.ctx.trim]
    | .playback => [s.play.trim]

/-- The asserted presence lines that cover the lane (R143). -/
def State.presenceTerms (s : State) (l : Lane) : List Nat :=
  (s.safety.presence.toList.filter fun e => e.asserted && LaneSet.has e.lanes l).map fun e => e.scale

/-- The slow and exiting zones that cover the lane (R141, R142). -/
def State.zoneTerms (s : State) (l : Lane) : List Nat := s.safety.zones.toList.filterMap fun e => e.scaleFor l

/-- The commissioning scale while the rig record is not frozen (R168). -/
def State.commissioningTerm (s : State) : List Nat := if s.rig.record.frozen then [] else [commissioningScale]

/-- S_eff of a lane at this tick (R9). -/
def State.effScale (s : State) (l : Lane) : Nat :=
  minScale (s.trimTerm l ++ s.presenceTerms l ++ s.zoneTerms l ++ s.commissioningTerm)

/-- The velocity cap C = floor(Vmax × S_eff / 65536) (R10). -/
def velocityCap (vmax sEff : Nat) : Int := floorDiv ((vmax : Int) * sEff) 65536

/-! ### The candidate of one lane -/

/-- What a lane's step computes: the candidate (P′, V′), the target it stores if any, the limit it was clipped at if
any, whether its request exceeded the cap, and the excess T0 − T. -/
structure Candidate where
  p : Int
  v : Int
  target : Option Int
  clip : Option ClipLimit
  capExceeded : Bool
  excess : Int
  deriving DecidableEq, Repr

/-- The limit clip (R14): from within the limits to outside them, P′ becomes the limit crossed and V′ becomes 0. -/
def limitClip (x : LaneRec) (p' v' : Int) : Int × Int × Option ClipLimit :=
  if x.softMin ≤ x.p ∧ x.p ≤ x.softMax then
    if x.softMax < p' then (x.softMax, 0, some .softMax)
    else if p' < x.softMin then (x.softMin, 0, some .softMin)
    else (p', v', none)
  else (p', v', none)

/-- Velocity change, position and clip (R13, R14): ΔV = Vd − V clamped to [−A, +A]. -/
def advance (x : LaneRec) (vd : Int) (a : Nat) : Int × Int × Option ClipLimit :=
  let v' := x.v + clampInt (-a) a (vd - x.v)
  limitClip x (x.p + v') v'

/-- The braking branch applies: V ≠ 0, E non-zero with V's sign, and Db ≥ |E| (R12). -/
def braking (x : LaneRec) (e : Int) : Bool :=
  x.v ≠ 0 && e ≠ 0 && e.sign = x.v.sign && (mag e : Int) ≤ brakeDistance x.v x.a

/-- V slowed by at most a toward 0 (R12, R18). -/
def slowed (v : Int) (a : Nat) : Int := v - v.sign * min (mag v : Int) a

/-- The requested velocity trunc(E × K′ / 65536) (R12). -/
def requested (e : Int) (gain : Nat) : Int := truncDiv (e * gain) 65536

/-- The held step (R7, R10 to R14). -/
def heldStep (x : LaneRec) (t0 : Int) (gain sEff : Nat) : Candidate :=
  let t := clampInt x.softMin x.softMax t0
  let e := t - x.p
  let c := velocityCap x.vmax sEff
  let brake := braking x e
  let vd := if brake then slowed x.v x.a else clampInt (-c) c (requested e gain)
  let r := advance x vd x.a
  { p := r.1, v := r.2.1, target := some t, clip := r.2.2,
    capExceeded := !brake && c < (mag (requested e gain) : Int), excess := t0 - t }

/-- The HOLD step (R17): Vd = 0, and T follows the setpoint. -/
def holdStep (x : LaneRec) : Candidate :=
  let r := advance x 0 x.a
  { p := r.1, v := r.2.1, target := some r.1, clip := r.2.2, capExceeded := false, excess := 0 }

/-- The stop step (R18). -/
def stopStep (x : LaneRec) : Candidate :=
  let v' := slowed x.v x.astop
  let r := limitClip x (x.p + v') v'
  { p := r.1, v := r.2.1, target := none, clip := r.2.2, capExceeded := false, excess := 0 }

/-- Rest (R18). -/
def restStep (x : LaneRec) : Candidate :=
  { p := x.p, v := 0, target := none, clip := none, capExceeded := false, excess := 0 }

/-! ### The demand of a held step (R6) -/

/-- T0 of a held lane: demand + O where the demand is present, the grant setpoint where it is absent; for playback the
value the Playback Unit supplies (R6). -/
def State.heldTarget (s : State) (l : Lane) (h : Hold) : Int :=
  match h.who with
  | .station _ => match mapDemand s.lens l h.ctx with
    | some m => m + h.ctx.o
    | none => h.setpoint
  | .playback => s.play.lastDemand[l].getD h.setpoint

/-- K′: the lane's K for a station holder, 65536 for playback (R6). -/
def gainOf (x : LaneRec) (h : Hold) : Nat := match h.who with
  | .station _ => x.k
  | .playback => 65536

/-- The candidate of an ACTIVE lane in RUN: the held step or the HOLD step (R5). -/
def State.runCandidate (s : State) (l : Lane) : Candidate :=
  match s.grants[l].holder with
  | some h => heldStep s.lanes[l] (s.heldTarget l h) (gainOf s.lanes[l] h) (s.effScale l)
  | none => holdStep s.lanes[l]

/-- Committing one lane's step (R3, R16): an ACTIVE lane takes the candidate; a DISABLED or PARKED one keeps P with V = 0
and its step flags clear; both store S_eff; an absent lane is not computed. -/
def commitLane (sEff : Nat) (c : Candidate) (x : LaneRec) : LaneRec :=
  if !x.present then x
  else if x.condition = .active then
    { x with
      p := c.p
      v := c.v
      t := c.target.getD x.t
      sEff := sEff
      limitClip := c.clip.isSome
      capped := cappedFlag sEff c.capExceeded }
  else { x with v := 0, sEff := sEff, limitClip := false, capped := false }

/-- R8, R56: a STEP context whose demand is present gives up the excess its step found. -/
def writeBack (excess : Int) (g : Grant) : Grant :=
  { g with holder := g.holder.map fun h =>
      if h.ctx.kind = .step && h.ctx.d.isSome && excess ≠ 0 then
        { h with ctx := { h.ctx with d := h.ctx.d.map fun d => d - excess } }
      else h }

end Sys2Proof.Machine
end

