-- ==== Sys2Proof/Machine/DrivePort.lean ====
section
/-! DEFINITION. The Drive Port (chapter 9): the exchange of each tick, the judgement of replies and of unanswered
exchanges, the following-error check, and start-up. -/

namespace Sys2Proof.Machine

open Sys2Proof

/-- DRIVE_FAULT is raised where fault reported is clear and the lane is not PARKED; fault reported is then set (R159).
A lane not yet settled in STARTING is settled by it (R161). -/
def driveFault (l : Lane) (s : State) : State :=
  if s.lanes[l].condition = .parked then s
  else if s.drives.channels[l].faultReported then s
  else driveCause .driveFault l (s.setChannel l fun c => { c with faultReported := true, settled := true })

/-- An unanswered exchange is judged (R159). -/
def judgeMissing (l : Lane) (s : State) : State :=
  let s1 := s.setChannel l fun c =>
    { c with status := .missing, missing := min 2 (c.missing + 1), exchange := none }
  if s1.drives.channels[l].missing = 2 then driveFault l s1 else s1

/-- The record of a lane settled by its drive's first OK reply (R23, R161). -/
def settleLane (count : Int) (x : LaneRec) : LaneRec := { x with p := count * 256, v := 0, t := count * 256 }

/-- The following-error check (R160). -/
def followCheck (l : Lane) (sent : Option Int) (count : Int) (s : State) : State :=
  match sent with
  | some c =>
    let x := s.lanes[l]
    if s.safety.drivePower && x.condition = .active && x.followLimit < mag (c - count) then driveCause .followError l s
    else s
  | none => s

/-- A reply with status OK (R159, R160, R161). -/
def replyOk (l : Lane) (sent : Option Int) (count : Int) (s : State) : State :=
  let unsettled := s.starting && !s.drives.channels[l].settled
  let s1 := s.setChannel l fun c =>
    { c with latestCount := some count, status := .ok, missing := 0, faultReported := false, settled := true,
             exchange := none }
  if unsettled then s1.setLane l (settleLane count) else followCheck l sent count s1

/-- A reply with status FAULT (R159). -/
def replyFault (l : Lane) (count : Int) (s : State) : State :=
  driveFault l (s.setChannel l fun c =>
    { c with latestCount := some count, status := .fault, missing := 0, exchange := none })

/-- A drive's reply belongs to the exchange it answers; one to an older tick's exchange is discarded (R158, R159). -/
def takeReply (l : Lane) (f t : Nat) (status : DriveStatus) (count : Int) (s : State) : State :=
  if !s.lanePresent l then s
  else match s.drives.channels[l].exchange with
    | none => s
    | some e =>
      if e.f = f ∧ e.t = t then
        match status with
        | .ok => replyOk l e.sent count s
        | .fault => replyFault l count s
      else s

/-- The next tick is issued before the reply: the open exchange is unanswered (R158, R159). -/
def takeMissing (l : Lane) (s : State) : State :=
  if s.lanePresent l && s.drives.channels[l].exchange.isSome then judgeMissing l s else s

/-- The tick being issued finds the lane's exchange open, and the miss will raise its DRIVE_FAULT (R159; log 11). -/
def State.missFaults (s : State) (l : Lane) : Bool :=
  let c := s.drives.channels[l]
  s.lanes[l].present && c.exchange.isSome && 1 ≤ c.missing && !c.faultReported

/-- The lanes that a miss judged with this tick disables: their part of the tick's commit is dropped (R158, R159). -/
def dropMissing (s : State) : State :=
  s.setLanes (mapAll s.lanes fun l x => if s.missFaults l then disableLane .driveFault x else x)

/-- What goes out to a drive for a tick (R158): the setpoint count floor(P / 256) for an ACTIVE lane with drive power ON,
else a status poll. -/
def sendExchange (s : State) (l : Lane) (c : Channel) : Channel :=
  if !s.lanes[l].present then c
  else
    let setpoint := s.safety.drivePower && s.lanes[l].condition = .active
    let n := floorDiv s.lanes[l].p 256
    { c with
      exchange := some { f := s.tb.f, t := s.tb.t, sent := if setpoint then some n else none }
      lastSent := if setpoint then some n else c.lastSent }

/-- The exchanges of a tick with every present drive (R158). -/
def exchangeAll (s : State) : State :=
  s.setDrives { s.drives with channels := mapAll s.drives.channels fun l c => sendExchange s l c }

/-- Every present lane is settled (R161). -/
def State.allSettled (s : State) : Bool :=
  allLanes.all fun l => !s.lanePresent l || s.drives.channels[l].settled

end Sys2Proof.Machine
end

