-- ==== Sys2Proof/Machine/LaneStep.lean ====
section
/-! DEFINITION. The lane step over all twelve lanes (R4, R5, R15, R16), the TELEMETRY frame of a frame start (R182), the
zone evaluation after a commit (R141), and the work of one servo tick. -/

namespace Sys2Proof.Machine

open Sys2Proof

/-! ### The four forms over all lanes -/

/-- A lane the step moves: present and ACTIVE (R3). -/
def LaneRec.stepped (x : LaneRec) : Bool := x.present && x.condition = .active

/-- One candidate per lane: the form f for the ACTIVE lanes, the unchanged P with V = 0 for the others (R15). -/
def State.candidates (s : State) (f : Lane → Candidate) : Vector Candidate 12 :=
  Vector.ofFn fun l => if s.lanes[l].stepped then f l else restStep s.lanes[l]

/-- The candidate vector as the zone test sees it (R140). -/
def State.candidateMotion (s : State) (cs : Vector Candidate 12) : Motion :=
  mapAll s.lanes fun l x => (cs[l].p, cs[l].v, x.astop)

/-- The LIMIT_CLIP event of a committed clipped step (R14). -/
def raiseClip (l : Lane) (c : Candidate) (s : State) : State :=
  match c.clip with
  | some lim => if s.lanes[l].stepped then raiseLane l none (.limitClip l lim) s else s
  | none => s

/-- The lanes of a candidate vector take their steps (R16), but for those that a miss of this tick disables (R159). -/
def commitLanes (cs : Vector Candidate 12) (s : State) : State :=
  let s1 := dropMissing s
  s1.setLanes (mapAll s1.lanes fun l x => commitLane (s1.effScale l) cs[l] x)

/-- The commit of a whole candidate vector (R16), with the LIMIT_CLIP events (R14). DESIGN CHOICE: the events of one commit
are raised in ascending lane index, an order that R14, R25 and R181 leave open (log 52). -/
def commitAll (cs : Vector Candidate 12) (s : State) : State :=
  forEach allLanes (fun l s => raiseClip l cs[l] s) (commitLanes cs s)

/-- R8: the excess of each committed held step is handed to the Grant Table. -/
def writeBackAll (cs : Vector Candidate 12) (s : State) : State :=
  s.setGrants (mapAll s.grants fun l g => if s.lanes[l].stepped then writeBack cs[l].excess g else g)

/-- The step in RUN: the candidates are committed unless a keep-out zone predicts on them; then the stop step is
committed for every ACTIVE lane and the causes arrive (R15, R140, R145). -/
def runStep (s : State) : State :=
  let cs := s.candidates s.runCandidate
  let zs := predictedZones s (s.candidateMotion cs)
  if zs.isEmpty then writeBackAll cs (commitAll cs s)
  else causeEvents (zs.map CauseKind.zonePredicted) (commitAll (s.candidates fun l => stopStep s.lanes[l]) s)

/-- The lane step and its commit, by the stop state when it begins (R5). -/
def laneStep (s : State) : State :=
  match s.safety.stop with
  | .run => runStep s
  | .stopping => commitAll (s.candidates fun l => stopStep s.lanes[l]) s
  | .stopped => commitAll (s.candidates fun l => restStep s.lanes[l]) s
  | .releasing => commitAll (s.candidates fun l => restStep s.lanes[l]) s

/-! ### TELEMETRY (R182) -/

/-- The k TELEMETRY reports, by the unit's state (R136). -/
def Playback.reportedK (u : Playback) : Option Nat :=
  match u.state with
  | .idle => none
  | .cueing => some 0
  | .ready => some 0
  | .rollArmed => u.armed.map fun a => a.2
  | .rolling => u.k
  | .deferred => u.deferIndex
  | .holdEnd => some (u.len - 1)

/-- A lane block; the holder is the one whose demand the step followed (R25, R60, R71, R169). An absent lane's block takes
its status and outputs from a channel that never changes (log 21). -/
def State.laneView (s : State) (holders : Vector (Option Holder) 12) (l : Lane) : LaneView :=
  let x := s.lanes[l]
  let c := s.drives.channels[l]
  { present := x.present, p := x.p, v := x.v, sEff := x.sEff, lensValue := s.lensValue l, holder := holders[l],
    condition := x.condition, limitClip := x.limitClip, capped := x.capped, status := c.status,
    outputs := c.enable && c.brake }

/-- The EVENTS_LOST indication of the frame that waits, which carries into its replacement (R180). -/
def StationPort.carriedLoss (q : StationPort) : Bool := match q.telemetry with
  | some x => x.eventsLost
  | none => false

/-- The frame one port forms (R180, R182, R189). -/
def State.telemetryFor (s : State) (holders : Vector (Option Holder) 12) (q : StationPort) : Telemetry where
  f := s.tb.f
  mode := s.tb.mode
  lock := s.tb.lock
  n := s.tb.n
  flywheelCount := s.tb.flywheelCount
  workingPeriod := s.tb.workingPeriod
  stop := s.safety.stop
  drivePower := s.safety.drivePower
  asker := s.safety.release.map fun r => r.asker
  stopLine := s.safety.stopLine
  presence := mapAll s.safety.presence fun _ e => e.asserted
  parked := s.drives.parked
  frozen := s.rig.record.frozen
  freezePending := s.rig.freezePending
  eventsLost := q.eventsLost || q.carriedLoss
  programFail := s.mem.programFail
  eraseFail := s.mem.eraseFail
  chunkReject := s.mem.chunkReject
  role := q.role
  eventDepth := q.events.length
  playState := s.play.state
  playSlot := s.play.slot
  spoiled := s.play.spoiled
  k := s.play.reportedK
  r := if s.play.state = .deferred then s.play.resumeIndex else none
  stallCount := s.play.stallCount
  readAhead := s.play.buffer.length
  recState := s.recorder.state
  recSlot := s.recorder.slot
  composed := s.recorder.composed
  programmed := s.recProgrammed
  queueDepth := s.recorder.queue.length
  spanOpen := s.recorder.spanOpen
  endPending := s.recorder.endPending
  lanes := Vector.ofFn fun l => s.laneView holders l
  causes := s.safety.causes

/-- Every ACTIVE port forms its frame; it replaces one still waiting (R180, R182). -/
def formTelemetry (holders : Vector (Option Holder) 12) (s : State) : State :=
  s.setPorts (mapAll s.ports fun p q =>
    if s.isActive p then { q with telemetry := some (s.telemetryFor holders q) } else q)

/-! ### After the commit (R4, R141) -/

/-- The zones' results from the committed vector, the marks of zones found clear, and the breach causes (R141, R142). A
breach that persists is a cause event of every evaluation (log 44), and EXIT_CLEARED comes before STOP_CAUSE (log 28). -/
def evaluateZones (s : State) : State :=
  let s1 := s.setSafety { s.safety with zones := mapAll s.safety.zones fun _ e => evalZone s.motion e }
  let breaches := (breachedZones s1).map CauseKind.zoneBreached
  causeEvents breaches (forEach (List.finRange 16) clearExit s1)

/-- The holders as they stand. -/
def State.holders (s : State) : Vector (Option Holder) 12 := mapAll s.grants fun _ g => g.holder.map fun h => h.who

/-- The exchanges of a tick: those still open are unanswered and judged, in ascending lane index, and then the new ones
go out (R158, R159; log 11). -/
def exchangeTick (s : State) : State := exchangeAll (forEach allLanes takeMissing s)

/-- The work of one tick: the lane step with what leads into it and what the commit is handed on to (R4; log 5). -/
def tickWork (s : State) : State :=
  let s1 := playBefore s
  let s2 := playAfter (stoppedTest (laneStep s1))
  if s.tb.t = 0 then evaluateZones (formTelemetry s1.holders (exchangeTick (composeSample s2)))
  else evaluateZones (exchangeTick s2)

/-- Tick N − 1 of the frame has been issued (R27); before the first frame start there is no frame to end. -/
def Timebase.frameDone (b : Timebase) : Bool := !b.started || b.n ≤ b.t + 1

/-- The tick the Timebase issues next within the frame: t + 1 while t < N − 1 (R27); none: no tick is due. -/
def Timebase.nextTick (b : Timebase) : Option Timebase := if b.frameDone then none else some { b with t := b.t + 1 }

/-- The time of tick t of the frame: trunc(t × W / N) after the frame start (R27; log 3). -/
def Timebase.tickTime (b : Timebase) (t : Nat) : Nat := b.frameTime + t * b.workingPeriod / b.n

/-- SERVO_TICK: tick t + 1 of the frame; tick 0 is the frame start's (log 5). -/
def servoTick (s : State) : State :=
  match s.tb.nextTick with
  | none => s
  | some b => tickWork (s.setTb b)

end Sys2Proof.Machine
end

