-- ==== Sys2Proof/Machine/TimebaseUnit.lean ====
section
/-! DEFINITION. The Timebase (chapter 2): pending settings, the beginning of a frame, and the judgement of pulses. -/

namespace Sys2Proof.Machine

open Sys2Proof

/-- "Within 0.5 %": |i − j| × 200 ≤ j (section 2.4). -/
def within (i j : Nat) : Bool := ((i : Int) - j).natAbs * 200 ≤ j

/-- A time is within 0.5 % of the working period of an expected time (section 2.4). -/
def inPhase (time expected w : Nat) : Bool := ((time : Int) - expected).natAbs * 200 ≤ w

/-- The table of R35: the pending settings applied at a frame start and cleared. -/
def applySettings (b : Timebase) : Timebase :=
  match b.pendingSettings with
  | none => b
  | some a =>
    let mode := a.mode.getD b.mode
    let period := a.period.getD b.internalPeriod
    let b1 := { b with mode := mode, n := a.n.getD b.n, internalPeriod := period, pendingSettings := none }
    match b.mode, mode with
    | .internal, .internal => { b1 with workingPeriod := period }
    | .internal, .referenced =>
      { b1 with lock := .search, runCount := 0, lastPulse := none, prevInterval := none, workingPeriod := period }
    | .referenced, .internal =>
      { b1 with lock := .none, workingPeriod := period, runCount := 0, flywheelCount := 0 }
    | .referenced, .referenced => b1

/-- The frame counter and tick index of a new frame (R27); the first is (0, 0) (R26). -/
def openFrame (time : Nat) (b : Timebase) : Timebase :=
  { b with f := if b.started then b.f + 1 else 0, t := 0, started := true, frameTime := time }

/-- The ninth flywheel frame start in a row falls due with the state still FLYWHEEL (R33, R34). -/
def Timebase.gaveUp (b : Timebase) : Bool := b.lock = .flywheel && b.flywheelCount = 8

/-- A frame start in FLYWHEEL raises the count; the ninth returns to SEARCH (R33, R34; log 8). -/
def flywheelFrame (b : Timebase) : Timebase :=
  if b.gaveUp then
    { b with flywheelCount := 9, lock := .search, runCount := 0, lastPulse := none, prevInterval := none, lastChance := true }
  else { b with flywheelCount := if b.lock = .flywheel then b.flywheelCount + 1 else b.flywheelCount, lastChance := false }

/-- A frame start at a time: settings, the counters, a return to SEARCH delivered with it, then the frame-start work of
the Recorder and of the Playback Unit (R27, R34, R35). A recording ends before a playback (log 28). -/
def openWork (time : Nat) (s : State) : State :=
  let b := applySettings s.tb
  let s1 := s.setTb (openFrame time (flywheelFrame b))
  let s2 := if b.gaveUp then endPlayback .referenceLost (recordEnds .referenceLost s1) else s1
  playbackFrame (recorderFrame s2)

/-- A frame start with the tick (f, 0) it issues (R27; log 5). -/
def beginFrame (time : Nat) (s : State) : State := tickWork (openWork time s)

/-- The time of the next frame start that the Timebase's own clock gives (R28, R29, R33; log 6). -/
def Timebase.ownTime (b : Timebase) : Nat := if b.started then b.frameTime + b.workingPeriod else 0

/-- The Timebase paces its own frames: every state but LOCKED. -/
def Timebase.freeRunning (b : Timebase) : Bool := b.lock ≠ .locked

/-- A free-running frame start, after the last tick of its frame (R27); in LOCKED the pulses pace the frames. -/
def frameStart (s : State) : State :=
  if s.tb.freeRunning && s.tb.frameDone then beginFrame s.tb.ownTime s else s

/-- The time at which the acceptance window closes without a pulse, in LOCKED and before an overdue frame start (R31). -/
def Timebase.overdueTime (b : Timebase) : Option Nat :=
  match b.lock, b.lastPulse with
  | .locked, some p => if b.frameTime ≤ p then some (p + b.workingPeriod + b.workingPeriod / 200) else none
  | _, _ => none

/-- An overdue frame start, after the last tick of its frame (R31). -/
def overdueFrame (s : State) : State :=
  match s.tb.overdueTime with
  | some x => if s.tb.frameDone then beginFrame x s else s
  | none => s

/-- The next frame start that the Timebase issues without a pulse, whichever it is. -/
def nextOwnFrame (s : State) : State := if s.tb.freeRunning then frameStart s else overdueFrame s

/-- Entry to FLYWHEEL from LOCKED (R32). -/
def toFlywheel (b : Timebase) : Timebase :=
  if b.lock = .locked then { b with lock := .flywheel, flywheelCount := 0 } else b

/-- In LOCKED, the moment 1.5 times the working period past the last pulse time is the Timebase's next: the overdue frame
start has been issued, and no tick of its frame falls due before that moment (R32; log 3). -/
def Timebase.pulseMissed (b : Timebase) : Bool :=
  match b.lock, b.lastPulse with
  | .locked, some p =>
    p < b.frameTime && (b.frameDone || 3 * b.workingPeriod ≤ 2 * (b.tickTime (b.t + 1) - p))
  | _, _ => false

/-- MISSING_PULSE (R32). -/
def missingPulse (s : State) : State := if s.tb.pulseMissed then s.setTb (toFlywheel s.tb) else s

/-! ### Pulses -/

/-- A pulse taken as the pulse of the frame start just issued: LOCKED, with the ticks timed from its arrival (R33). -/
def takePulse (time : Nat) (b : Timebase) : Timebase :=
  { b with lock := .locked, flywheelCount := 0, lastPulse := some time, lastChance := false, frameTime := time }

/-- The pulse comes within 0.5 % of the working period after the frame start just issued (R33). -/
def Timebase.afterFrame (b : Timebase) (time : Nat) : Bool :=
  b.frameTime ≤ time && inPhase time b.frameTime b.workingPeriod

/-- The run count after an interval (R29). -/
def runAfter (b : Timebase) (i : Nat) : Nat :=
  if i < 8000 ∨ 50000 < i then 0
  else match b.prevInterval with
    | some j => if b.runCount = 0 then 1 else if within i j then b.runCount + 1 else 1
    | none => 1

/-- A pulse in SEARCH (R29, R30); one within the window of the ninth flywheel frame start is first taken as its pulse
(R33; log 9). -/
def searchPulse (time : Nat) (s : State) : State :=
  let b := s.tb
  if b.lastChance && b.afterFrame time then s.setTb (takePulse time b)
  else match b.lastPulse with
  | none => s.setTb { b with lastPulse := some time, runCount := 0 }
  | some p =>
    let i := time - p
    let run := runAfter b i
    if run = 4 then
      beginFrame time (s.setTb
        { b with lock := .locked, workingPeriod := i, runCount := 0, flywheelCount := 0, lastPulse := some time,
                 prevInterval := some i })
    else s.setTb { b with lastPulse := some time, runCount := run, prevInterval := some i }

/-- A pulse in LOCKED: accepted, or deviating, as is any after an overdue frame start (R31, R32). -/
def lockedPulse (time : Nat) (s : State) : State :=
  let b := s.tb
  match b.lastPulse with
  | none => s.setTb (toFlywheel b)
  | some p =>
    let i := time - p
    if b.frameTime ≤ p && within i b.workingPeriod then
      beginFrame time (s.setTb { b with lastPulse := some time, workingPeriod := i })
    else s.setTb (toFlywheel b)

/-- A pulse in FLYWHEEL (R33). -/
def flywheelPulse (time : Nat) (s : State) : State :=
  let b := s.tb
  if b.frameDone && inPhase time b.ownTime b.workingPeriod then
    beginFrame time (s.setTb { b with lock := .locked, flywheelCount := 0, lastPulse := some time })
  else if b.afterFrame time then s.setTb (takePulse time b)
  else s

/-- REFERENCE_PULSE (R28 to R33). -/
def referencePulse (time : Nat) (s : State) : State :=
  match s.tb.mode, s.tb.lock with
  | .referenced, .search => searchPulse time s
  | .referenced, .locked => lockedPulse time s
  | .referenced, .flywheel => flywheelPulse time s
  | _, _ => s

/-! ### Frame starts that end a playback (R126, R131; log 7) -/

/-- Sample k begins a deferred segment when it is reached (R127). -/
def Playback.defersAt (u : Playback) (k : Nat) : Bool := match u.sample k with
  | some x => x.marks.defer && k + 1 ≠ u.len
  | none => false

/-- The next frame start finds the stall count 8 and its step stalled (R126). -/
def frameEndsStall (s : State) : Bool :=
  let u := s.play
  let k := s.tb.f + 1 - u.fRoll.getD 0
  u.state = .rolling && u.stallCount = 8 && !s.tb.gaveUp && k < u.len && u.lacks k && !u.defersAt k

/-- The next frame start is the deadline of the segment (R131). -/
def frameEndsDefer (s : State) : Bool :=
  let u := s.play
  u.state = .deferred && !s.tb.gaveUp && (match u.resumeIndex with
    | some r => u.fRoll.getD 0 + r + 8 ≤ s.tb.f + 1
    | none => false)

def stallLimit (s : State) : State := if frameEndsStall s then nextOwnFrame s else s
def deferMissed (s : State) : State := if frameEndsDefer s then nextOwnFrame s else s

end Sys2Proof.Machine
end

