-- ==== Sys2Proof/Machine/ClockCommands.lean ====
section
/-! DEFINITION. The meanings of the Timebase's and the drives' events (chapters 1, 2 and 9). -/

namespace Sys2Proof.Machine

open Sys2Proof

/-- FRAME_START (R27 to R29, R33). -/
def execFrameStart (s : State) : Host.Outcome State Fault Refusal := .next (settle (frameStart s))

/-- SERVO_TICK (R4, R27): a tick after the frame's tick 0. -/
def execServoTick (s : State) : Host.Outcome State Fault Refusal := .next (settle (servoTick s))

/-- REFERENCE_PULSE (R28 to R33). -/
def execReferencePulse (time : Nat) (s : State) : Host.Outcome State Fault Refusal :=
  .next (settle (referencePulse time s))

/-- OVERDUE_FRAME_START (R31). -/
def execOverdueFrameStart (s : State) : Host.Outcome State Fault Refusal := .next (settle (overdueFrame s))

/-- MISSING_PULSE (R32). -/
def execMissingPulse (s : State) : Host.Outcome State Fault Refusal := .next (missingPulse s)

/-- FLYWHEEL_TO_SEARCH (R34): the ninth flywheel frame start; no effect before it. -/
def execFlywheelToSearch (s : State) : Host.Outcome State Fault Refusal :=
  .next (if s.tb.gaveUp then settle (frameStart s) else s)

/-- STALL_LIMIT (R126). -/
def execStallLimit (s : State) : Host.Outcome State Fault Refusal := .next (settle (stallLimit s))

/-- DEFER_MISSED (R131). -/
def execDeferMissed (s : State) : Host.Outcome State Fault Refusal := .next (settle (deferMissed s))

/-- DRIVE_REPLY (R158 to R161). -/
def execDriveReply (l : Lane) (f t : Nat) (status : DriveStatus) (count : Int) (s : State) :
    Host.Outcome State Fault Refusal :=
  .next (settle (takeReply l f t status count s))

/-- DRIVE_REPLY_MISSING (R159). -/
def execDriveReplyMissing (l : Lane) (s : State) : Host.Outcome State Fault Refusal := .next (settle (takeMissing l s))

end Sys2Proof.Machine
end

