-- ==== Sys2Proof/Machine/Links.lean ====
section
/-! DEFINITION. The station links (chapter 10): negotiation, the taking of a request, leaving ACTIVE, and the end of a
frame's sending. Times are in microseconds. -/

namespace Sys2Proof.Machine

open Sys2Proof

/-- 1 s, the negotiation deadline and the stay in FAILED (R172, R176). -/
def oneSecond : Nat := 1000000
/-- 10 ms, between two ABILITY OFFERs (R172, R174). -/
def offerInterval : Nat := 10000
/-- 100 ms, the silence deadline (R177). -/
def silenceTime : Nat := 100000
/-- 10 s, the release window (R151). -/
def releaseWindow : Nat := 10000000

/-! ### Negotiation (R171 to R176) -/

/-- A valid frame's arrival becomes the last valid frame (R171). -/
def noteValid (rx : Rx) (s : State) : State := s.setPort rx.port fun q => { q with lastValid := some rx.time }

/-- The ABILITY OFFER due at a time goes out, with what stands when it is sent, and the next is due 10 ms later
(R172, R174). -/
def sendOffer (p : Port) (due : Nat) (s : State) : State :=
  let ack := s.ports[p].link = .acknowledge
  let o : Offer :=
    { presentSet := s.presentLanes, motionFree := s.motionFree, ack := ack,
      granted := if ack then s.ports[p].role else none }
  s.setPort p fun q => { q with offer := some o, nextOffer := some (due + offerInterval) }

/-- The offer that is due by a time, in OFFER and in ACKNOWLEDGE; an earlier event is none (R172, R174; log 4). -/
def offerDue (p : Port) (time : Nat) (s : State) : State :=
  match s.ports[p].nextOffer with
  | none => s
  | some d =>
    if (s.ports[p].link = .offer ∨ s.ports[p].link = .acknowledge) ∧ d ≤ time then sendOffer p d s else s

/-- Entry to OFFER from DOWN or FAILED (R172). -/
def enterOffer (p : Port) (time : Nat) (s : State) : State :=
  sendOffer p time (s.setPort p fun q =>
    { q with link := .offer, role := none, abilityRole := none, abilityCount := 0, otherRun := 0,
             deadline := some (time + oneSecond), failedSince := none })

/-- The link becomes ACTIVE in a role (R174, R175). -/
def becomeActive (p : Port) (role : Role) (s : State) : State :=
  raiseMotion (.linkUp p role) (s.setPort p fun q =>
    { q with link := .active, role := some role, level := roleLevel role, deadline := none, nextOffer := none, events := [], replies := [],
             eventsLost := false, telemetry := none, sending := none, leaving := false })

/-- The role the third ABILITY of a run obtains (R173). -/
def State.grantedRole (s : State) (wanted : Role) : Role :=
  match wanted with
  | .motion => if s.motionFree then .motion else .observer
  | r => r

/-- An ABILITY in OFFER (R172, R173). -/
def abilityInOffer (rx : Rx) (body : Body Ability) (s : State) : State :=
  let p := rx.port
  match body with
  | .malformed => s.setPort p fun q => { q with abilityRole := none, abilityCount := 0, otherRun := 0 }
  | .fields a =>
    if a.ack then s.setPort p fun q => { q with abilityRole := none, abilityCount := 0, otherRun := 0 }
    else
      let q := s.ports[p]
      let n := if q.abilityRole = some a.wanted then q.abilityCount + 1 else 1
      let s1 := s.setPort p fun q => { q with abilityRole := some a.wanted, abilityCount := n, otherRun := 0 }
      if 3 ≤ n then
        sendOffer p rx.time (s1.setPort p fun q => { q with link := .acknowledge, role := some (s.grantedRole a.wanted) })
      else s1

/-- The port goes back to OFFER with its deadline kept and its role given up (R174), with an offer at once (log 50). -/
def backToOffer (p : Port) (time : Nat) (s : State) : State :=
  sendOffer p time (s.setPort p fun q =>
    { q with link := .offer, role := none, abilityRole := none, abilityCount := 0, otherRun := 0 })

/-- An ABILITY in ACKNOWLEDGE (R174, R187). -/
def abilityInAcknowledge (rx : Rx) (body : Body Ability) (s : State) : State :=
  let p := rx.port
  match body, s.ports[p].role with
  | .fields a, some r => if a.ack && a.wanted = r then becomeActive p r s else backToOffer p rx.time s
  | _, _ => backToOffer p rx.time s

/-- A valid frame other than an ABILITY in OFFER (R175). -/
def otherInOffer (p : Port) (s : State) : State :=
  let n := s.ports[p].otherRun + 1
  let s1 := s.setPort p fun q => { q with otherRun := n, abilityRole := none, abilityCount := 0 }
  if 3 ≤ n then becomeActive p .observer s1 else s1

/-- The negotiation deadline finds the port not ACTIVE (R176). -/
def negotiationFailed (p : Port) (time : Nat) (s : State) : State :=
  let q := s.ports[p]
  match q.deadline with
  | none => s
  | some d =>
    if (q.link = .offer || q.link = .acknowledge) && d ≤ time then
      s.setPort p fun q => { q with link := .failed, role := none, deadline := none, nextOffer := none, failedSince := some d }
    else s

/-- 1 s in FAILED has passed (R176). -/
def failedOver (p : Port) (time : Nat) (recognises : Bool) (s : State) : State :=
  let q := s.ports[p]
  match q.failedSince with
  | none => s
  | some f =>
    if q.link = .failed && f + oneSecond ≤ time then
      if recognises then enterOffer p time s
      else s.setPort p fun q => { q with link := .down, failedSince := none }
    else s

/-! ### Leaving ACTIVE (R177) -/

/-- R177, step 1. A frame being sent is cut off (log 51). -/
def dropPort (p : Port) (s : State) : State :=
  dropFetch p (s.setPort p fun q => latchLinkLost
    { q with link := .down, role := none, level := none, events := [], replies := [], telemetry := none,
             sending := none, leaving := false, deadline := none })

/-- R177, step 3. -/
def askerLost (p : Port) (s : State) : State :=
  match s.safety.release with
  | some r => if r.asker = p then cancelRelease .askerLost s else s
  | none => s

/-- R177: an ACTIVE link leaves ACTIVE, in the rule's order. Where the playback ends with it, one ascending pass over the
lanes removes the station and playback together (log 43). -/
def leaveActive (p : Port) (why : DownReason) (s : State) : State :=
  let motion := s.isMotion p
  let ends := motion && s.playActive
  let s1 := forEach allLanes (removeStation p ends) (dropPort p s)
  let s2 := askerLost p (if ends then playIdle .linkLost s1 else s1)
  let s3 := if motion then discardUpload (recordEnds .linkLost s2) else s2
  raiseMotion (.linkDown p s.ports[p].role why) s3

/-- The silence deadline has passed on an ACTIVE link whose LEAVE has not been taken (R177). -/
def State.silentAt (s : State) (p : Port) (time : Nat) : Bool :=
  let q := s.ports[p]
  q.link = .active && !q.leaving && (match q.lastValid with
    | some v => v + silenceTime ≤ time
    | none => false)

/-! ### Sending (R180) -/

/-- The head REPLY's next frame is its last. -/
def Reply.onLastFrame (r : Reply) : Bool := replyFrameCount r ≤ r.framesSent + 1

/-- The frame of the head REPLY has been sent. -/
def replyFrameSent (p : Port) (s : State) : State :=
  match s.ports[p].replies with
  | [] => s.setPort p fun q => { q with sending := none }
  | r :: rest =>
    if r.onLastFrame then
      let s1 := s.setPort p fun q => { q with sending := none, replies := rest }
      match r.kind with
      | .ordinary => s1
      | .fetch => dropFetch p s1
      | .leave => leaveActive p .leave s1
    else s.setPort p fun q => { q with sending := none, replies := { r with framesSent := r.framesSent + 1 } :: rest }

/-- A frame has been sent: it leaves its queue (R180); a TELEMETRY frame that reported EVENTS_LOST clears it (R181). -/
def frameSent (p : Port) (s : State) : State :=
  match s.ports[p].sending with
  | none => s
  | some (.telemetry x) =>
    s.setPort p fun q => { q with sending := none, eventsLost := q.eventsLost && !x.eventsLost }
  | some .reply => replyFrameSent p s
  | some .event => s.setPort p fun q => { q with sending := none, events := q.events.tail }

/-- The port is sending the last frame of the answer to LEAVE (R177). -/
def State.sendingLeave (s : State) (p : Port) : Bool :=
  match s.ports[p].sending, s.ports[p].replies with
  | some .reply, r :: _ => r.kind = .leave && r.onLastFrame
  | _, _ => false

/-! ### Taking a request (R171, R175, R179, R187) -/

/-- The judgement of a request's fields: the state it leaves, and the REPLY unless it follows later. -/
abbrev Judge := State → State × Option Answer

/-- A request taken by an ACTIVE port (R179): discarded after LEAVE or when the reply path is full; refused BAD_VALUE when
its body does not decode; else judged. -/
def takeActive {α : Type} (rx : Rx) (body : Body α) (judge : α → Judge) (s : State) : State :=
  if s.ports[rx.port].leaving then s
  else if 8 ≤ countedReplies s.ports[rx.port] then s.setPort rx.port latchRequestsLost
  else match body with
    | .malformed => pushReply rx.port ((Answer.refused .badValue).reply rx.tag .ordinary) s
    | .fields a =>
      match judge a s with
      | (s1, some ans) => pushReply rx.port (ans.reply rx.tag .ordinary) s1
      | (s1, none) => s1

/-- A valid frame of a request kind, by the link state (R171). -/
def takeRequest {α : Type} (rx : Rx) (body : Body α) (judge : α → Judge) (s : State) : State :=
  let s1 := noteValid rx s
  match s1.ports[rx.port].link with
  | .down => s1
  | .offer => otherInOffer rx.port s1
  | .acknowledge => s1
  | .active => takeActive rx body judge s1
  | .failed => s1

/-- A valid ABILITY frame, by the link state (R171). -/
def takeAbility (rx : Rx) (body : Body Ability) (s : State) : State :=
  let s1 := noteValid rx s
  match s1.ports[rx.port].link with
  | .down => s1
  | .offer => abilityInOffer rx body s1
  | .acknowledge => abilityInAcknowledge rx body s1
  | .active => s1
  | .failed => s1

/-! ### Judgements' common forms -/

/-- Nothing changes, and the request is refused. -/
def refuse (r : Reason) (s : State) : State × Option Answer := (s, some (Answer.refused r))
/-- The request has taken full effect. -/
def done (s : State) : State × Option Answer := (s, some Answer.done)
/-- The request has taken full effect, with the adjusted indication. -/
def doneAdjusted (adjusted : Bool) (s : State) : State × Option Answer := (s, some { Answer.done with adjusted := adjusted })
/-- The request has been taken; an event reports its completion. -/
def accept (s : State) : State × Option Answer := (s, some Answer.accepted)

/-- The role of the port is one of the list (section 10.5). -/
def State.roleIn (s : State) (p : Port) (rs : List Role) : Bool := match s.ports[p].role with
  | some r => rs.contains r
  | none => false

/-- Judged for the roles it is taken from; refused NO_RIGHT from any other (section 10.5). -/
def forRoles (rs : List Role) (p : Port) (judge : Judge) : Judge := fun s =>
  if s.roleIn p rs then judge s else refuse .noRight s

/-- Judged for the MOTION station. -/
def forMotion (p : Port) (judge : Judge) : Judge := forRoles [.motion] p judge

end Sys2Proof.Machine
end

