-- ==== Sys2Proof/Machine/Operands.lean ====
section
/-! DEFINITION. The judgement of operands shared by requests: names, lane sets, slots, scales, and the clamps that set the
adjusted indication (R2, R21, R35, R179). -/

namespace Sys2Proof.Machine

open Sys2Proof

/-- The lanes an index list names exist on this crane (R2). -/
def State.namesPresent (s : State) (is : List Nat) : Bool := is.all fun i => (s.namedLane i).isSome

/-- A lane set names only present lanes of index 0 to 11. -/
def State.setPresent (s : State) (ls : LaneSet) : Bool := s.namesPresent (LaneSet.indices ls)

/-- A clamped count and whether the clamp changed it. -/
def clampScale (x : Nat) : Nat × Bool := (clampNat 0 fullScale x, clampNat 0 fullScale x ≠ x)

/-- A carried field clamped, or the value kept (R21); the flag says whether the clamp changed it. -/
def carriedOr (lo hi kept : Nat) (carried : Option Nat) : Nat × Bool :=
  match carried with
  | none => (kept, false)
  | some x => (clampNat lo hi x, clampNat lo hi x ≠ x)

/-- In REFERENCED mode the reference is not trusted while the lock state is SEARCH (R36). -/
def Timebase.untrusted (b : Timebase) : Bool := b.mode = .referenced && b.lock = .search

/-- A start names NEXT, or a frame after the present one (R104, R120). -/
def Timebase.startValid (b : Timebase) (start : Option Nat) : Bool := match start with
  | none => true
  | some f => b.f < f

/-- The start frame a start names (R104, R120). -/
def Timebase.startFrame (b : Timebase) (start : Option Nat) : Nat := start.getD (b.f + 1)

/-- A slot given by number. -/
def slotOf (i : Nat) : Option SlotNo := indexOf 32 i

/-- Intervals name distinct lanes (R138). -/
def distinctLanes : List Interval → Bool
  | [] => true
  | i :: is => (is.all fun j => j.lane ≠ i.lane) && distinctLanes is

end Sys2Proof.Machine
end

