-- ==== Sys2Proof/Machine/GrantRequests.lean ====
section
/-! DEFINITION. The meanings of ACQUIRE, YIELD, DEMAND and TRIM (chapter 3). -/

namespace Sys2Proof.Machine

open Sys2Proof

/-- ACQUIRE (R42). -/
def judgeAcquire (p : Port) (ls : LaneSet) : Judge := fun s =>
  if ls = 0 then refuse .badValue s
  else
    let r := (LaneSet.indices ls).foldl (acquireIndex p) (s, [])
    (r.1, some { Answer.done with results := r.2 })

/-- YIELD (R46); an empty lane set is refused BAD_VALUE. -/
def judgeYield (p : Port) (ls : LaneSet) : Judge := fun s =>
  if ls = 0 then refuse .badValue s
  else
    let r := (LaneSet.indices ls).foldl (yieldIndex p) (s, [])
    (r.1, some { Answer.done with results := r.2 })

/-- The reply to DEMAND and TRIM (R53, R57). -/
def Tally.answer (t : Tally) : Answer :=
  { Answer.done with adjusted := t.adjusted, badValue := t.badValue, lensInvalid := t.lensInvalid, ignored := t.ignored }

/-- DEMAND (R53). -/
def judgeDemand (p : Port) (es : List DemandEntry) : Judge := fun s =>
  let r := es.foldl (demandEntry p) (s, Tally.zero)
  (r.1, some r.2.answer)

/-- TRIM (R57). -/
def judgeTrim (p : Port) (es : List TrimEntry) : Judge := fun s =>
  let r := es.foldl (trimEntry p) (s, Tally.zero)
  (r.1, some r.2.answer)

/-- ACQUIRE (R42 to R44). -/
def execAcquire (rx : Rx) (body : Body LaneSet) (s : State) : Host.Outcome State Fault Refusal :=
  .next (settle (takeRequest rx body (judgeAcquire rx.port) s))

/-- YIELD (R45, R46). -/
def execYield (rx : Rx) (body : Body LaneSet) (s : State) : Host.Outcome State Fault Refusal :=
  .next (settle (takeRequest rx body (judgeYield rx.port) s))

/-- DEMAND (R51, R53 to R56, R128). -/
def execDemand (rx : Rx) (body : Body (List DemandEntry)) (s : State) : Host.Outcome State Fault Refusal :=
  .next (settle (takeRequest rx body (judgeDemand rx.port) s))

/-- TRIM (R57). -/
def execTrim (rx : Rx) (body : Body (List TrimEntry)) (s : State) : Host.Outcome State Fault Refusal :=
  .next (settle (takeRequest rx body (judgeTrim rx.port) s))

end Sys2Proof.Machine
end

