-- ==== Sys2Proof/Machine/LinkCommands.lean ====
section
/-! DEFINITION. The meanings of the link events of chapter 10, and of QUERY, PING, LEAVE and a request of no known kind. -/

namespace Sys2Proof.Machine

open Sys2Proof

/-! ### QUERY (R183) -/

/-- A port's line of the station table. -/
def State.portView (s : State) (p : Port) : PortView :=
  let q := s.ports[p]
  { link := q.link, role := q.role, level := q.level, linkLost := q.linkLost, checkError := q.checkError,
    requestsLost := q.requestsLost, eventDepth := q.events.length, replyDepth := q.replies.length,
    fetchSlot := (s.mem.fetches.find? fun f => f.port = p).map fun f => f.slot, holdsMotion := s.holdsMotion p }

/-- A table as it stands (R25, R60, R74, R102, R156, R169, R183). -/
def State.table (s : State) : TableName → Table
  | .lanes => .lanes s.lanes
  | .grants => .grants s.presentLanes s.grants
  | .stations => .stations (Vector.ofFn s.portView)
  | .zones => .zones s.safety.zones
  | .presence => .presence s.safety.presence
  | .directory => .directory s.mem.slots s.mem.upload s.mem.buffers
  | .profiles => .profiles s.lens.slots s.lens.active s.lensUse
  | .rig => .rig s.rig s.presentLanes s.drives.channels
  | .blocks => .blocks (mapAll s.mem.blocks fun _ b => b.state) s.mem.op s.mem.programFail s.mem.eraseFail s.mem.chunkReject

/-- QUERY changes nothing, but for the station table's latched flags (R178, R183). -/
def judgeQuery (t : TableName) : Judge := fun s =>
  (if t = .stations then clearLatched s else s, some { Answer.done with payload := .table (s.table t) })

/-! ### PING, LEAVE, unknown kinds (R177, R179) -/

def judgePing (_ : Unit) : Judge := fun s => done s

/-- LEAVE is answered DONE; from now on the port's frames are discarded and silence no longer counts (R177). -/
def judgeLeave (rx : Rx) (_ : Unit) : Judge := fun s =>
  (pushReply rx.port (Answer.done.reply rx.tag .leave) (s.setPort rx.port fun q => { q with leaving := true }), none)

def judgeUnknown (_ : Unit) : Judge := fun s => refuse .unknown s

/-! ### Meanings -/

/-- IDLE_FILL (R172): a DOWN port enters OFFER, not during STARTING (R170). -/
def execIdleFill (p : Port) (time : Nat) (s : State) : Host.Outcome State Fault Refusal :=
  .next (if s.starting then s else if s.ports[p].link = .down then enterOffer p time s else s)

/-- ABILITY_OFFER (R172, R174). -/
def execAbilityOffer (due : PortTime) (s : State) : Host.Outcome State Fault Refusal :=
  .next (offerDue due.port due.time s)

/-- ABILITY (R171 to R174). -/
def execAbility (rx : Rx) (body : Body Ability) (s : State) : Host.Outcome State Fault Refusal :=
  .next (pump (takeAbility rx body s))

/-- OTHER_FRAME_IN_OFFER (R175). -/
def execOtherFrameInOffer (rx : Rx) (s : State) : Host.Outcome State Fault Refusal :=
  .next (if s.ports[rx.port].link = .offer then pump (otherInOffer rx.port (noteValid rx s)) else s)

/-- DISCARDED_FRAME (R171, R185): CHECK_ERROR is latched outside DOWN. -/
def execDiscardedFrame (p : Port) (s : State) : Host.Outcome State Fault Refusal :=
  .next (if s.ports[p].link = .down then s else s.setPort p latchCheckError)

/-- NEGOTIATION_DEADLINE (R176). -/
def execNegotiationDeadline (p : Port) (time : Nat) (s : State) : Host.Outcome State Fault Refusal :=
  .next (negotiationFailed p time s)

/-- FAILED_TIMEOUT (R176). -/
def execFailedTimeout (p : Port) (time : Nat) (recognises : Bool) (s : State) : Host.Outcome State Fault Refusal :=
  .next (failedOver p time recognises s)

/-- LINK_SILENCE (R177). -/
def execLinkSilence (p : Port) (time : Nat) (s : State) : Host.Outcome State Fault Refusal :=
  .next (if s.silentAt p time then settle (leaveActive p .silent s) else s)

/-- LEAVE_REPLY_SENT (R177). -/
def execLeaveReplySent (p : Port) (s : State) : Host.Outcome State Fault Refusal :=
  .next (if s.sendingLeave p then settle (leaveActive p .leave s) else s)

/-- FRAME_SENT (R180, R181). -/
def execFrameSent (p : Port) (s : State) : Host.Outcome State Fault Refusal := .next (settle (frameSent p s))

/-- UNKNOWN_REQUEST (R179, R185). -/
def execUnknownRequest (rx : Rx) (s : State) : Host.Outcome State Fault Refusal :=
  .next (settle (takeRequest rx (.fields ()) judgeUnknown s))

/-- QUERY (R183). -/
def execQuery (rx : Rx) (body : Body TableName) (s : State) : Host.Outcome State Fault Refusal :=
  .next (settle (takeRequest rx body judgeQuery s))

/-- PING (R179). -/
def execPing (rx : Rx) (body : Body Unit) (s : State) : Host.Outcome State Fault Refusal :=
  .next (settle (takeRequest rx body judgePing s))

/-- LEAVE (R177). -/
def execLeave (rx : Rx) (body : Body Unit) (s : State) : Host.Outcome State Fault Refusal :=
  .next (settle (takeRequest rx body (judgeLeave rx) s))

end Sys2Proof.Machine
end

