-- ==== Sys2Proof/Machine/MotionRequests.lean ====
section
/-! DEFINITION. The meanings of SHAPE SET and LIMITS SET (R21, R22), TIMEBASE SET (R35), ZONE SET and ZONE DROP (R139) and
PRESENCE SET (R143). -/

namespace Sys2Proof.Machine

open Sys2Proof

/-! ### SHAPE SET (R21) -/

/-- The lane record with the carried fields clamped and Astop raised to A, and whether a clamp or the raise changed a
value. -/
def shapeLane (r : RigLane) (a : ShapeArgs) (x : LaneRec) : LaneRec × Bool :=
  let vmax := carriedOr 1 r.vmaxCeil x.vmax a.vmax
  let acc := carriedOr 1 r.aCeil x.a a.a
  let astop := carriedOr r.astopFloor accMax x.astop a.astop
  let k := carriedOr 1 65536 x.k a.k
  let tol := carriedOr 0 vmaxMax x.trackTol a.trackTol
  let fol := carriedOr 1 r.followCeil x.followLimit a.followLimit
  let raised := astop.1 < acc.1
  ({ x with vmax := vmax.1, a := acc.1, astop := max astop.1 acc.1, k := k.1, trackTol := tol.1, followLimit := fol.1 },
    vmax.2 || acc.2 || astop.2 || k.2 || tol.2 || fol.2 || raised)

/-- R21; a refusal carries no adjusted indication (log 46). -/
def judgeShapeSet (a : ShapeArgs) : Judge := fun s =>
  match s.namedLane a.lane with
  | none => refuse .badValue s
  | some l =>
    let r := shapeLane s.rig.record.lanes[l] a s.lanes[l]
    if r.1.vmax < mag s.lanes[l].v then refuse .busy s
    else doneAdjusted r.2 (s.setLane l fun _ => r.1)

/-! ### LIMITS SET (R22) -/

/-- R22; a refusal carries no adjusted indication (log 46). -/
def judgeLimitsSet (a : LimitsArgs) : Judge := fun s =>
  match s.namedLane a.lane with
  | none => refuse .badValue s
  | some l =>
    if a.max < a.min then refuse .badValue s
    else
      let h := s.rig.record.lanes[l]
      let lo := clampInt h.hardMin h.hardMax a.min
      let hi := clampInt h.hardMin h.hardMax a.max
      let x := s.lanes[l]
      if (x.p < lo ∨ hi < x.p) ∧ x.v ≠ 0 then refuse .busy s
      else doneAdjusted (lo ≠ a.min || hi ≠ a.max) (s.setLane l fun x => { x with softMin := lo, softMax := hi })

/-! ### TIMEBASE SET (R35) -/

/-- The carried fields clamped, and whether a clamp changed one. -/
def clampSettings (a : TimebaseArgs) : TimebaseArgs × Bool :=
  let n := a.n.map (clampNat 8 64)
  let p := a.period.map (clampNat 8000 50000)
  ({ mode := a.mode, n := n, period := p }, n ≠ a.n || p ≠ a.period)

/-- Later values replace earlier ones, field by field. -/
def mergeSettings (old : Option TimebaseArgs) (new : TimebaseArgs) : TimebaseArgs :=
  match old with
  | none => new
  | some o => { mode := new.mode.orElse fun _ => o.mode, n := new.n.orElse fun _ => o.n,
                period := new.period.orElse fun _ => o.period }

def judgeTimebaseSet (a : TimebaseArgs) : Judge := fun s =>
  if s.recActive || s.playActive then refuse .busy s
  else
    let r := clampSettings a
    doneAdjusted r.2 (s.setTb { s.tb with pendingSettings := some (mergeSettings s.tb.pendingSettings r.1) })

/-! ### ZONE SET and ZONE DROP (R139) -/

/-- The checks on a zone record (R138, R139). -/
def State.zoneValid (s : State) (r : ZoneRecord) : Bool :=
  1 ≤ r.intervals.length && r.intervals.length ≤ 12 && distinctLanes r.intervals &&
    s.namesPresent (r.intervals.map fun i => i.lane) &&
    r.intervals.all fun i => i.low ≤ i.high && inPosRange i.low && inPosRange i.high

/-- The entry as ZONE SET leaves it: the record, its evaluation against the committed vector, and the mark it keeps. -/
def replaceZone (m : Motion) (r : ZoneRecord) (e : ZoneEntry) : ZoneEntry :=
  evalZone m
    { record := some r, predicting := false, breached := false,
      exiting := e.exiting && r.enabled && r.kind = .keepOut }

def judgeZoneSet (a : ZoneSetArgs) : Judge := fun s =>
  match indexOf 16 a.entry with
  | none => refuse .badValue s
  | some z =>
    if !s.zoneValid a.record then refuse .badValue s
    else
      let c := clampScale a.record.scale
      let s1 := s.setZone z (replaceZone s.motion { a.record with scale := c.1 })
      let e := s1.safety.zones[z]
      let s2 := if e.armedKeepOut && !e.exiting && e.breached then causeEvents [.zoneBreached z] s1 else s1
      doneAdjusted c.2 s2

def judgeZoneDrop (entry : Nat) : Judge := fun s =>
  match indexOf 16 entry with
  | none => refuse .badValue s
  | some z => done (s.setZone z fun _ => ZoneEntry.empty)

/-! ### PRESENCE SET (R143) -/

def judgePresenceSet (a : PresenceArgs) : Judge := fun s =>
  match indexOf 4 a.line with
  | none => refuse .badValue s
  | some i =>
    if !s.setPresent a.lanes then refuse .badValue s
    else
      let c := clampScale a.scale
      doneAdjusted c.2 (s.setSafety { s.safety with
        presence := updAt s.safety.presence i fun e => { e with lanes := a.lanes, scale := c.1 } })

/-! ### Meanings -/

/-- SHAPE SET (R21). -/
def execShapeSet (rx : Rx) (body : Body ShapeArgs) (s : State) : Host.Outcome State Fault Refusal :=
  .next (settle (takeRequest rx body (fun a => forMotion rx.port (judgeShapeSet a)) s))

/-- LIMITS SET (R22). -/
def execLimitsSet (rx : Rx) (body : Body LimitsArgs) (s : State) : Host.Outcome State Fault Refusal :=
  .next (settle (takeRequest rx body (fun a => forMotion rx.port (judgeLimitsSet a)) s))

/-- TIMEBASE SET (R35). -/
def execTimebaseSet (rx : Rx) (body : Body TimebaseArgs) (s : State) : Host.Outcome State Fault Refusal :=
  .next (settle (takeRequest rx body (fun a => forMotion rx.port (judgeTimebaseSet a)) s))

/-- ZONE SET (R139). -/
def execZoneSet (rx : Rx) (body : Body ZoneSetArgs) (s : State) : Host.Outcome State Fault Refusal :=
  .next (settle (takeRequest rx body (fun a => forMotion rx.port (judgeZoneSet a)) s))

/-- ZONE DROP (R139). -/
def execZoneDrop (rx : Rx) (body : Body Nat) (s : State) : Host.Outcome State Fault Refusal :=
  .next (settle (takeRequest rx body (fun a => forMotion rx.port (judgeZoneDrop a)) s))

/-- PRESENCE SET (R143). -/
def execPresenceSet (rx : Rx) (body : Body PresenceArgs) (s : State) : Host.Outcome State Fault Refusal :=
  .next (settle (takeRequest rx body (fun a => forMotion rx.port (judgePresenceSet a)) s))

end Sys2Proof.Machine
end

