-- ==== Sys2Proof/Machine/PlayRequests.lean ====
section
/-! DEFINITION. The meanings of CUE, ROLL, SEGMENT DONE and UNCUE (chapter 7). -/

namespace Sys2Proof.Machine

open Sys2Proof

/-! ### CUE (R115 to R117) -/

/-- The per-lane result of R116. -/
def State.cueResult (s : State) (h : Header) (i : Nat) : LaneResult :=
  match s.namedLane i with
  | none => .badValue
  | some l =>
    if !LaneSet.has h.lanes l then .notInTake
    else if s.lanes[l].condition = .disabled .driveFault ∨ s.lanes[l].condition = .disabled .followError then .notActive
    else if (6 ≤ l.val ∧ l.val ≤ 8) ∧ h.lensTag ≠ s.lens.activeTag then .lensTag
    else .participates

/-- The results, one per named lane in ascending index. -/
def State.cueResults (s : State) (h : Header) (ls : LaneSet) : List (Nat × LaneResult) :=
  (LaneSet.indices ls).map fun i => (i, s.cueResult h i)

/-- The participation set: the lanes whose result is PARTICIPATES. -/
def State.cueSet (s : State) (h : Header) (ls : LaneSet) : LaneSet :=
  LaneSet.ofPred fun l => LaneSet.has ls l && s.cueResult h l.val = .participates

/-- The length, N, frame period and referenced flag, each marked as matching the Timebase or not (R117). -/
def State.cuePayload (s : State) (h : Header) : Payload :=
  .cue h.length h.n h.period h.referenced (h.n = s.tb.n) (h.period = s.tb.workingPeriod)
    (h.referenced = (s.tb.mode = .referenced))

/-- An accepted CUE (R117). -/
def beginCue (i : SlotNo) (h : Header) (part : LaneSet) (scale : Nat) (endMode : EndMode) (s : State) : State :=
  let s1 := s.setPlay { Playback.reset with
    state := .cueing
    slot := some i
    length := some h.length
    participation := part
    endMode := some endMode
    cueScale := some scale
    k := some 0 }
  suspendErase (forEach (LaneSet.members part) (fun l s => gainLane l .playback playbackLevel s) s1)

/-- R115; a refusal carries no adjusted indication (log 46). -/
def judgeCue (a : CueArgs) : Judge := fun s =>
  let c := carriedOr 0 fullScale 16384 a.scale
  match slotOf a.slot with
  | none => refuse .badValue s
  | some i =>
    if a.lanes = 0 then refuse .badValue s
    else if !s.rig.record.frozen then refuse .unfrozen s
    else if s.playActive then refuse .wrongState s
    else if !s.mem.slots[i].finished then refuse .wrongState s
    else if s.safety.stop ≠ .run then refuse .wrongState s
    else if s.drives.parked then refuse .wrongState s
    else match s.mem.slots[i].header with
      | none => refuse .wrongState s
      | some h =>
        let results := s.cueResults h a.lanes
        let part := s.cueSet h a.lanes
        if part = 0 then (s, some { Answer.refused .wrongState with results := results })
        else
          (beginCue i h part c.1 (a.endMode.getD .yield) s,
            some { Answer.accepted with adjusted := c.2, results := results, payload := s.cuePayload h })

/-! ### ROLL (R120) -/

def judgeRoll (start : Option Nat) : Judge := fun s =>
  if !s.tb.startValid start then refuse .badValue s
  else if s.play.state ≠ .ready ∨ s.tb.untrusted then refuse .wrongState s
  else accept (s.setPlay { s.play with state := .rollArmed, armed := some (s.tb.startFrame start, 0) })

/-! ### SEGMENT DONE (R129, R130) -/

/-- An early acceptance: ROLL_ARMED for the resume frame (R129). -/
def segmentEarly (r : Nat) (s : State) : State :=
  let s1 := raiseMotion (.segmentEnd r false) s
  let s2 := endSegment s1
  s2.setPlay { s2.play with state := .rollArmed, armed := some (s2.play.fRoll.getD 0 + r, r) }

/-- A late acceptance: ROLLING at the present k, or the end of the pass (R130; log 34). -/
def segmentLate (r : Nat) (s : State) : State :=
  let s1 := endSegment (raiseMotion (.segmentEnd r true) s)
  let u := s1.play
  let k := s1.tb.f - u.fRoll.getD 0
  let s2 := s1.setPlay
    { u with state := .rolling, spoiled := true, k := some k, buffer := u.buffer.filter fun x => k ≤ x.index }
  if u.len ≤ k then finishPass s2 else s2

def judgeSegmentDone (_ : Unit) : Judge := fun s =>
  let u := s.play
  match u.resumeIndex with
  | none => refuse .wrongState s
  | some r =>
    if u.state ≠ .deferred ∨ !s.nearSample r then refuse .wrongState s
    else if s.tb.f < u.fRoll.getD 0 + r then done (segmentEarly r s)
    else done (segmentLate r s)

/-! ### UNCUE (R132) -/

def judgeUncue (_ : Unit) : Judge := fun s =>
  match s.play.state with
  | .idle => refuse .wrongState s
  | .holdEnd => done (endPlayback .done s)
  | _ => done (endPlayback .aborted s)

/-! ### Meanings -/

/-- CUE (R115 to R117). -/
def execCue (rx : Rx) (body : Body CueArgs) (s : State) : Host.Outcome State Fault Refusal :=
  .next (settle (takeRequest rx body (fun a => forMotion rx.port (judgeCue a)) s))

/-- ROLL (R120). -/
def execRoll (rx : Rx) (body : Body (Option Nat)) (s : State) : Host.Outcome State Fault Refusal :=
  .next (settle (takeRequest rx body (fun a => forMotion rx.port (judgeRoll a)) s))

/-- SEGMENT DONE (R129, R130). -/
def execSegmentDone (rx : Rx) (body : Body Unit) (s : State) : Host.Outcome State Fault Refusal :=
  .next (settle (takeRequest rx body (fun a => forMotion rx.port (judgeSegmentDone a)) s))

/-- UNCUE (R132). -/
def execUncue (rx : Rx) (body : Body Unit) (s : State) : Host.Outcome State Fault Refusal :=
  .next (settle (takeRequest rx body (fun a => forMotion rx.port (judgeUncue a)) s))

end Sys2Proof.Machine
end

