-- ==== Sys2Proof/Machine/StopCommands.lean ====
section
/-! DEFINITION. The meanings of the stop and release commands (chapter 8): STOP, the STOP line, RELEASE ASK, RELEASE
AGREE, the RELEASE line, the window's expiry, the presence lines; and of PARK and UNPARK (chapter 9). -/

namespace Sys2Proof.Machine

open Sys2Proof

/-! ### Lines (R143, R147, R152, R154) -/

def stopLineAssert (s : State) : State := causeEvents [.stopLine] (s.setSafety { s.safety with stopLine := true })
def stopLineDeassert (s : State) : State := s.setSafety { s.safety with stopLine := false }

def setPresence (i : Fin 4) (on : Bool) (s : State) : State :=
  s.setSafety { s.safety with presence := updAt s.safety.presence i fun e => { e with asserted := on } }

/-- A pulse on the RELEASE line: ignored outside RELEASING (R152). -/
def releasePulse (s : State) : State := if s.safety.stop = .releasing then agree .releaseLine s else s

/-- The window closes with the state still RELEASING (R154). -/
def windowExpiry (time : Nat) (s : State) : State :=
  match s.safety.release with
  | some r => if s.safety.stop = .releasing ∧ r.closes ≤ time then cancelRelease .releaseExpired s else s
  | none => s

/-! ### STOP, RELEASE ASK, RELEASE AGREE (R147, R151, R152) -/

def judgeStop (p : Port) (_ : Unit) : Judge := fun s => done (causeEvents [.stationStop p] s)

/-- An accepted RELEASE ASK (R151). -/
def openWindow (rx : Rx) (s : State) : State :=
  changeStop .releasing (some rx.port) none none
    (s.setSafety { s.safety with release := some { asker := rx.port, closes := rx.time + releaseWindow } })

def judgeReleaseAsk (rx : Rx) (_ : Unit) : Judge := fun s =>
  if s.safety.stop ≠ .stopped ∨ !s.releaseConditions then refuse .wrongState s else accept (openWindow rx s)

/-- The release in progress was asked for by the port. -/
def State.askedBy (s : State) (p : Port) : Bool := match s.safety.release with
  | some r => r.asker = p
  | none => false

def judgeReleaseAgree (p : Port) (_ : Unit) : Judge := fun s =>
  if s.safety.stop ≠ .releasing ∨ s.askedBy p then refuse .wrongState s
  else if s.releaseConditions then done (enterRun (.port p) s)
  else refuse .wrongState (cancelRelease .checkFailed s)

/-! ### PARK (R163) -/

/-- Every lane rests and nothing records or plays (R163). -/
def State.parkable (s : State) : Bool :=
  (allLanes.all fun l => !s.lanePresent l || s.lanes[l].v = 0) && !s.recActive && !s.playActive

/-- A present lane becomes PARKED with V = 0 (R3, R163). -/
def parkLane (x : LaneRec) : LaneRec := if x.present then { x with condition := .parked, v := 0 } else x

/-- An accepted PARK (R163). -/
def park (s : State) : State :=
  let s1 := forEach allLanes (fun l s => if s.lanePresent l then clearLane l s else s) s
  let s2 := s1.setLanes (mapAll s1.lanes fun _ x => parkLane x)
  refreshOutputs (s2.setDrives { s2.drives with parked := true })

def judgePark (_ : Unit) : Judge := fun s =>
  if s.drives.parked then refuse .wrongState s
  else if !s.parkable then refuse .busy s
  else done (park s)

/-! ### UNPARK (R24, R164) -/

/-- The record's starting values from the rig record (R23, R24). -/
def startLane (r : RigLane) (x : LaneRec) : LaneRec :=
  { x with
    softMin := r.hardMin
    softMax := r.hardMax
    vmax := r.defVmax
    a := r.defA
    astop := max r.defAstop r.defA
    k := r.defK
    trackTol := 4096
    followLimit := r.followCeil
    sEff := 0
    limitClip := false
    capped := false }

/-- A drive reports FAULT at UNPARK: its status is FAULT, or its missing count is 2 (R164). -/
def Channel.failing (c : Channel) : Bool := c.status = .fault || c.missing = 2

/-- One present lane at UNPARK (R24, R164). -/
def unparkLane (r : RigLane) (c : Channel) (x : LaneRec) : LaneRec :=
  if !x.present then x
  else
    let y := reloadLane c.latestCount (startLane r x)
    if c.failing then { y with condition := .disabled .driveFault } else y

/-- The lanes disabled at UNPARK, whose causes are taken in ascending lane index (log 28). -/
def State.failingLanes (s : State) : List Lane :=
  allLanes.filter fun l => s.lanePresent l && s.drives.channels[l].failing

/-- An accepted UNPARK (R164). -/
def unpark (s : State) : State :=
  let stop := s.safety.stop
  let failing := s.failingLanes
  let s1 := s.setLanes (mapAll s.lanes fun l x => unparkLane s.rig.record.lanes[l] s.drives.channels[l] x)
  let s2 := s1.setDrives
    { channels := mapAll s1.drives.channels fun l c =>
        if s1.lanePresent l && c.failing then { c with faultReported := true } else c
      parked := false }
  let s3 := causeEvents (failing.map CauseKind.driveFault) s2
  refreshOutputs (match stop with
    | .run => s3
    | .stopping => s3.setSafety { s3.safety with unparkInRamp := true }
    | .stopped => setPower false s3
    | .releasing => setPower false s3)

def judgeUnpark (_ : Unit) : Judge := fun s => if !s.drives.parked then refuse .wrongState s else done (unpark s)

/-! ### Meanings -/

/-- STOP_LINE_ASSERT (R147). -/
def execStopLineAssert (s : State) : Host.Outcome State Fault Refusal := .next (settle (stopLineAssert s))

/-- STOP_LINE_DEASSERT (R147). -/
def execStopLineDeassert (s : State) : Host.Outcome State Fault Refusal := .next (stopLineDeassert s)

/-- RELEASE_PULSE (R152, R153). -/
def execReleasePulse (s : State) : Host.Outcome State Fault Refusal := .next (settle (releasePulse s))

/-- PRESENCE_ASSERT (R143). -/
def execPresenceAssert (i : Fin 4) (s : State) : Host.Outcome State Fault Refusal := .next (setPresence i true s)

/-- PRESENCE_DEASSERT (R143). -/
def execPresenceDeassert (i : Fin 4) (s : State) : Host.Outcome State Fault Refusal := .next (setPresence i false s)

/-- RELEASE_WINDOW_EXPIRY (R154). -/
def execReleaseWindowExpiry (time : Nat) (s : State) : Host.Outcome State Fault Refusal :=
  .next (settle (windowExpiry time s))

/-- STOP (R147). -/
def execStop (rx : Rx) (body : Body Unit) (s : State) : Host.Outcome State Fault Refusal :=
  .next (settle (takeRequest rx body (judgeStop rx.port) s))

/-- RELEASE ASK (R151). -/
def execReleaseAsk (rx : Rx) (body : Body Unit) (s : State) : Host.Outcome State Fault Refusal :=
  .next (settle (takeRequest rx body (fun a => forRoles [.arm, .lens, .motion] rx.port (judgeReleaseAsk rx a)) s))

/-- RELEASE AGREE (R152). -/
def execReleaseAgree (rx : Rx) (body : Body Unit) (s : State) : Host.Outcome State Fault Refusal :=
  .next (settle (takeRequest rx body
    (fun a => forRoles [.arm, .lens, .motion] rx.port (judgeReleaseAgree rx.port a)) s))

/-- PARK (R163). -/
def execPark (rx : Rx) (body : Body Unit) (s : State) : Host.Outcome State Fault Refusal :=
  .next (settle (takeRequest rx body (fun a => forRoles [.motion, .arm] rx.port (judgePark a)) s))

/-- UNPARK (R164). -/
def execUnpark (rx : Rx) (body : Body Unit) (s : State) : Host.Outcome State Fault Refusal :=
  .next (settle (takeRequest rx body (fun a => forRoles [.motion, .arm] rx.port (judgeUnpark a)) s))

end Sys2Proof.Machine
end

