-- ==== Sys2Proof/Machine/Power.lean ====
section
/-! DEFINITION. Power-up (R26, R40, R63, R66, R87, R88, R100, R101, R103, R114, R137, R157, R165, R170) and the end of
STARTING (R100, R161). -/

namespace Sys2Proof.Machine

open Sys2Proof

/-! ### What the power loss leaves in the reserved area (R76) -/

/-- The block a PROGRAM in progress writes. -/
def programBlock : Option ArrayOp → Option BlockNo
  | some (.programSample _ b) => some b
  | some (.chunkPart _ b _ _ _) => some b
  | _ => none

/-- The block states as stored: what an interrupted PROGRAM stores with itself is a free value (R76; log 13). -/
def State.storedBlocks (s : State) : Vector BlockState 64 :=
  match programBlock s.mem.op with
  | some b =>
    if Config.interruptedStoreDone s.powerLosses then updAt s.mem.stored.blocks b fun _ => s.mem.blocks[b].state
    else s.mem.stored.blocks
  | none => s.mem.stored.blocks

/-- The reserved area as the scan reads it, what does not read back whole settled as R66, R100 and R165 give (log 14). -/
def readReserved (d : Damage) (s : State) : Stored where
  blocks := mapAll s.storedBlocks fun b x => if d.blocks.contains b then .dirty else x
  slots := mapAll s.mem.stored.slots fun i x => if d.slots.contains i then { state := .empty, header := none } else x
  profiles := mapAll s.mem.stored.profiles fun k x => if d.profiles.contains k then none else x
  rig := if d.rig then none else s.mem.stored.rig

/-! ### Counting whole samples (R101, R191) -/

/-- How far the count has come: whole samples, the span they leave, and whether the take has ended. -/
structure Tape where
  count : Nat
  spanOpen : Bool
  ended : Bool
  deriving DecidableEq, Repr

/-- The stored check agrees with the sample's bytes (R191). -/
def StoredSample.sound (x : StoredSample) : Bool := x.check = sampleCheck x.offset x.marks x.pos

/-- The marks keep the DEFER and RESUME pairing after a span state. -/
def marksPair (spanOpen : Bool) (m : Marks) : Bool :=
  !(m.defer && m.resume) && (!m.defer || !spanOpen) && (!m.resume || spanOpen)

/-- The count along one block: it stops at the first sample that is not whole; one that breaks the offset sequence ends
the take. -/
def countBlock (c : Tape) : List StoredSample → Tape
  | [] => c
  | x :: xs =>
    if !x.sound then c
    else if x.offset ≠ c.count then { c with ended := true }
    else if !marksPair c.spanOpen x.marks then c
    else countBlock { count := c.count + 1, spanOpen := spanAfter c.spanOpen x.marks, ended := false } xs

/-- The count along a block list. -/
def countBlocks (data : BlockNo → List StoredSample) (bs : List BlockNo) : Tape :=
  bs.foldl (fun c b => if c.ended then c else countBlock c (data b)) { count := 0, spanOpen := false, ended := false }

/-! ### Settling slots and blocks (R100) -/

/-- A block into its place in a list ordered by place, before those of the same place (log 47). -/
def insertPlaced (x : Nat × BlockNo) : List (Nat × BlockNo) → List (Nat × BlockNo)
  | [] => [x]
  | y :: ys => if x.1 ≤ y.1 then x :: y :: ys else y :: insertPlaced x ys

/-- The USED blocks of a slot, ordered by their place in the list. -/
def ownedBlocks (v : Vector BlockState 64) (i : SlotNo) : List BlockNo :=
  ((List.finRange 64).foldl (fun acc b => match v[b] with
    | .used o place _ => if o = i then insertPlaced (place, b) acc else acc
    | _ => acc) []).map fun x => x.2

/-- The blocks up to the one that holds the last of n whole samples. -/
def keepBlocks (data : BlockNo → List StoredSample) (n : Nat) (bs : List BlockNo) : List BlockNo :=
  bs.take (((List.range bs.length).find? fun j => n ≤ (countBlocks data (bs.take j)).count).getD bs.length)

def Slot.empty : Slot := Slot.reset

/-- A finished take after power-up: locked, openLocked, not locked down (R88). -/
def lockedSlot (state : SlotState) (h : Header) (bs : List BlockNo) : Slot :=
  { state := state, header := some h, blocks := bs, locked := true, down := false, openLocked := true, released := [] }

/-- The table of R100 for one slot. A TRUNCATED take, stored so or found RECORDING, keeps no block beyond its last whole
sample; where its blocks hold more whole samples than its stored length, that is the last of its length (log 49). -/
def settleSlot (data : BlockNo → List StoredSample) (owned : List BlockNo) (r : SlotRecord) : Slot :=
  let c := countBlocks data owned
  match r.state, r.header with
  | .complete, some h => if h.length ≤ c.count then lockedSlot .complete h owned else Slot.empty
  | .truncated, some h => if h.length ≤ c.count then lockedSlot .truncated h (keepBlocks data h.length owned) else Slot.empty
  | .recording, some h =>
    if c.count = 0 then Slot.empty
    else
      lockedSlot .truncated { h with length := c.count, interrupted := true, impliedResume := c.spanOpen }
        (keepBlocks data c.count owned)
  | _, _ => Slot.empty

/-- The table of R100 for one block: an ERASING block is DIRTY, and a USED block in no list is released. -/
def settleBlock (slots : Vector Slot 32) (b : BlockNo) (x : BlockState) : BlockState :=
  match x with
  | .erasing _ => .dirty
  | .used o _ _ => if slots[o].blocks.contains b then x else x.released
  | y => y

/-- The Take Memory Controller after the scan. -/
def scanMemory (lines : LineStates) (st : Stored) (m : TakeMemory) : TakeMemory :=
  let data := fun (b : BlockNo) => m.blocks[b].data
  let slots : Vector Slot 32 := mapAll st.slots fun i r => settleSlot data (ownedBlocks st.blocks i) r
  { TakeMemory.reset with
    blocks := mapAll st.blocks fun b x => { state := settleBlock slots b x, data := data b }
    slots := slots
    protectClosed := lines.protectClosed
    stored := st }

/-! ### The other blocks -/

/-- A profile read back: whole and fit, and no lower slot read back whole with its non-zero tag (R66). -/
def readProfile (st : Vector (Option Profile) 4) (k : ProfileNo) : ProfileSlot :=
  let fit := fun (j : ProfileNo) => match st[j] with
    | some p => if profileValid p then some p else none
    | none => none
  match fit k with
  | none => { profile := Profile.empty, store := .failed }
  | some p =>
    let taken := p.tag ≠ 0 && (List.finRange 4).any fun j => j.val < k.val && (match fit j with
      | some q => q.tag = p.tag
      | none => false)
    if taken then { profile := Profile.empty, store := .failed } else { profile := p, store := .stored }

/-- The rig record read back, or the blank record (R165). -/
def readRig (st : Option RigRecord) : Rig :=
  match st with
  | some r => { record := r, store := .stored, freezePending := false }
  | none => Rig.reset

/-- A lane record at power-up (R1, R2, R23). -/
def powerLane (r : RigRecord) (l : Lane) : LaneRec :=
  if LaneSet.has r.presentSet l then { startLane r.lanes[l] LaneRec.reset with present := true } else LaneRec.reset

/-- R137: POWER_UP, followed by STOP_LINE if the line reads asserted. -/
def powerSafety (lines : LineStates) : Safety :=
  { Safety.reset with
    presence := mapAll Safety.reset.presence fun i e => { e with asserted := lines.presence[i] }
    stopLine := lines.stop
    causes := Safety.reset.causes ++ (if lines.stop then [{ kind := .stopLine, f := 0, t := 0 }] else []) }

/-- POWER_UP: every block at its power-up state; the commands waiting outside the part stay. -/
def powerUp (lines : LineStates) (d : Damage) (s : State) : State :=
  let st := readReserved d s
  let rig := readRig st.rig
  { starting := true
    tb := Timebase.reset
    lanes := Vector.ofFn fun l => powerLane rig.record l
    grants := Vector.replicate 12 Grant.reset
    nextArrival := 0
    lens := { slots := Vector.ofFn fun k => readProfile st.profiles k, active := none }
    mem := scanMemory lines st s.mem
    recorder := Recorder.reset
    play := Playback.reset
    safety := powerSafety lines
    drives := DrivePort.reset
    rig := rig
    ports := Vector.replicate 4 StationPort.reset
    powerLosses := s.powerLosses + 1
    pending := s.pending }

/-- The scan's changes are stored before STARTING ends (R100). -/
def storeScan (m : TakeMemory) : TakeMemory :=
  { m with stored := { m.stored with
      blocks := mapAll m.blocks fun _ b => b.state
      slots := mapAll m.slots fun _ x => { state := x.state, header := x.header } } }

/-- STARTING_END: every present lane is settled and the scan is done (R100, R161). -/
def endStarting (s : State) : State :=
  if s.starting && s.allSettled then (s.setMem (storeScan s.mem)).setStarting false else s

/-- POWER_UP (R26). -/
def execPowerUp (lines : LineStates) (damage : Damage) (s : State) : Host.Outcome State Fault Refusal :=
  .next (powerUp lines damage s)

/-- STARTING_END (R161). -/
def execStartingEnd (s : State) : Host.Outcome State Fault Refusal := .next (settle (endStarting s))

end Sys2Proof.Machine
end

