-- ==== Sys2Proof/Machine/TakeRequests.lean ====
section
/-! DEFINITION. The meanings of TAKE PROTECT, TAKE ERASE, TAKE OPEN, STAGE, STAGE COMMIT, TAKE CLOSE, TAKE DISCARD, TAKE
FETCH and TAKE STATUS CLEAR (chapter 5). -/

namespace Sys2Proof.Machine

open Sys2Proof

/-! ### Protection and erasing (R89, R91) -/

def judgeTakeProtect (a : ProtectArgs) : Judge := fun s =>
  match slotOf a.slot with
  | none => refuse .badValue s
  | some i =>
    let x := s.mem.slots[i]
    if !x.finished then refuse .wrongState s
    else match a.action with
      | .lock => done (s.setSlot i fun x => { x with locked := true, openLocked := true })
      | .unlock =>
        if x.down && s.mem.protectClosed then refuse .takeProtected s
        else done (s.setSlot i fun x => { x with locked := false, openLocked := false })
      | .lockDown => done (s.setSlot i fun x => { x with down := true, locked := true, openLocked := true })

/-- A fetch of the slot is in progress (R98). -/
def State.fetched (s : State) (i : SlotNo) : Bool := s.mem.fetches.any fun f => f.slot = i

/-- The slot is the take of an active playback (R91). -/
def State.playing (s : State) (i : SlotNo) : Bool := s.playActive && s.play.slot = some i

def judgeTakeErase (slot : Nat) : Judge := fun s =>
  match slotOf slot with
  | none => refuse .badValue s
  | some i =>
    let x := s.mem.slots[i]
    if !x.finished || s.playing i || s.fetched i then refuse .wrongState s
    else if x.locked then refuse .takeProtected s
    else done (emptySlot i s)

/-! ### Uploading (R92 to R97) -/

/-- The header values TAKE OPEN judges (R92). -/
def openValid (a : OpenArgs) : Bool :=
  nameValid a.name && LaneSet.inRange a.lanes && 1 ≤ LaneSet.count a.lanes &&
    8 ≤ a.n && a.n ≤ 64 && 8000 ≤ a.period && a.period ≤ 50000 && a.lensTag ≤ 65535

def openHeader (a : OpenArgs) : Header where
  name := a.name
  lanes := a.lanes
  n := a.n
  period := a.period
  referenced := a.referenced
  lensTag := a.lensTag
  length := 0
  interrupted := false
  impliedResume := false

/-- The slot is EMPTY and not reserved for an ARMED recording (R92, R104). -/
def State.slotFree (s : State) (i : SlotNo) : Bool :=
  s.mem.slots[i].state = .empty && !(s.recorder.state = .armed && s.recorder.slot = some i)

/-- An accepted TAKE OPEN (R92). -/
def openSlot (i : SlotNo) (a : OpenArgs) (s : State) : State :=
  let s1 := emptyBuffers (s.setSlot i fun x =>
    { x with state := .uploading, header := some (openHeader a), blocks := [], locked := false, down := false,
             openLocked := false })
  queueDir i (s1.setMem { s1.mem with upload := { nextOffset := 0, spanOpen := false } })

def judgeTakeOpen (a : OpenArgs) : Judge := fun s =>
  match slotOf a.slot with
  | none => refuse .badValue s
  | some i =>
    if !openValid a then refuse .badValue s
    else if !s.slotFree i then refuse .wrongState s
    else if s.uploadSlot.isSome then refuse .busy s
    else if s.lowestFree.isNone then refuse .noRoom s
    else done (openSlot i a s)

/-- The buffer a STAGE goes to: the FILLING one; failing that, the EMPTY one, A if both are (R93). -/
def State.stageTarget (s : State) : Option (Fin 2) :=
  if s.mem.buffers[0].state = .filling then some 0
  else if s.mem.buffers[1].state = .filling then some 1
  else if s.mem.buffers[0].state = .empty then some 0
  else if s.mem.buffers[1].state = .empty then some 1
  else none

/-- The samples are appended as sent (R93). -/
def appendStaged (xs : List StagedSample) (b : StageBuffer) : StageBuffer :=
  { b with state := .filling, samples := b.samples ++ xs }

def judgeStage (xs : List StagedSample) : Judge := fun s =>
  if s.uploadSlot.isNone then refuse .wrongState s
  else if xs.isEmpty || xs.any (fun x => x.pos.length < 1 || 12 < x.pos.length) then refuse .badValue s
  else match s.stageTarget with
    | none => refuse .busy s
    | some k =>
      if 65536 < stageBytes (s.mem.buffers[k].samples ++ xs) then refuse .badValue s
      else done (s.setBuffer k (appendStaged xs))

/-- The FILLING buffer (R94). -/
def State.fillingBuffer (s : State) : Option (Fin 2) :=
  if s.mem.buffers[0].state = .filling then some 0
  else if s.mem.buffers[1].state = .filling then some 1
  else none

/-- The lanes of the uploading take. -/
def State.uploadLanes (s : State) (i : SlotNo) : Nat := match s.mem.slots[i].header with
  | some h => h.laneCount
  | none => 0

/-- A valid chunk is QUEUED with its commit order (R94). -/
def queueChunk (k : Fin 2) (u : Upload) (s : State) : State :=
  let s1 := s.setBuffer k fun b =>
    { b with state := .queued s.mem.nextCommit, first := (b.samples.head?.map fun x => x.offset).getD 0, last := none }
  s1.setMem { s1.mem with upload := u, nextCommit := s.mem.nextCommit + 1 }

def judgeStageCommit (_ : Unit) : Judge := fun s =>
  match s.fillingBuffer, s.uploadSlot with
  | some k, some i =>
    match checkChunk (s.uploadLanes i) 0 s.mem.upload s.mem.buffers[k].samples with
    | .ok u => accept (queueChunk k u s)
    | .error j =>
      (setChunkReject (s.setBuffer k fun _ => StageBuffer.reset),
        some { Answer.refused .badValue with payload := .failingSample j })
  | _, _ => refuse .wrongState s

def judgeTakeClose (_ : Unit) : Judge := fun s =>
  match s.uploadSlot with
  | none => refuse .wrongState s
  | some i =>
    if s.mem.slots[i].length = 0 then refuse .wrongState s
    else if s.mem.buffers[0].state ≠ .empty ∨ s.mem.buffers[1].state ≠ .empty then refuse .busy s
    else done (completeSlot i (fun h => { h with impliedResume := s.mem.upload.spanOpen }) s)

def judgeTakeDiscard (_ : Unit) : Judge := fun s =>
  if s.uploadSlot.isNone then refuse .wrongState s else done (discardUpload s)

/-! ### Fetching (R98) and the sticky flags (R87) -/

/-- An accepted fetch; its REPLY follows the reads. -/
def acceptFetch (rx : Rx) (i : SlotNo) (a : FetchArgs) (s : State) : State × Option Answer :=
  let n := min a.count (s.mem.slots[i].length - a.first)
  let f : Fetch :=
    { port := rx.port, tag := rx.tag, slot := i, next := a.first, left := n, samples := [], adjusted := n ≠ a.count }
  (s.setMem { s.mem with fetches := s.mem.fetches ++ [f] }, none)

def judgeTakeFetch (rx : Rx) (a : FetchArgs) : Judge := fun s =>
  match slotOf a.slot with
  | none => refuse .badValue s
  | some i =>
    if a.count = 0 ∨ 64 < a.count then refuse .badValue s
    else if !s.mem.slots[i].finished then refuse .wrongState s
    else if s.mem.slots[i].length ≤ a.first then refuse .badValue s
    else if s.mem.fetches.any fun f => f.port = rx.port then refuse .busy s
    else acceptFetch rx i a s

def judgeStatusClear (_ : Unit) : Judge := fun s => done (clearSticky s)

/-! ### Meanings -/

/-- TAKE PROTECT (R89). -/
def execTakeProtect (rx : Rx) (body : Body ProtectArgs) (s : State) : Host.Outcome State Fault Refusal :=
  .next (settle (takeRequest rx body (fun a => forMotion rx.port (judgeTakeProtect a)) s))

/-- TAKE ERASE (R91). -/
def execTakeErase (rx : Rx) (body : Body Nat) (s : State) : Host.Outcome State Fault Refusal :=
  .next (settle (takeRequest rx body (fun a => forMotion rx.port (judgeTakeErase a)) s))

/-- TAKE OPEN (R92). -/
def execTakeOpen (rx : Rx) (body : Body OpenArgs) (s : State) : Host.Outcome State Fault Refusal :=
  .next (settle (takeRequest rx body (fun a => forMotion rx.port (judgeTakeOpen a)) s))

/-- STAGE (R93). -/
def execStage (rx : Rx) (body : Body (List StagedSample)) (s : State) : Host.Outcome State Fault Refusal :=
  .next (settle (takeRequest rx body (fun a => forMotion rx.port (judgeStage a)) s))

/-- STAGE COMMIT (R94). -/
def execStageCommit (rx : Rx) (body : Body Unit) (s : State) : Host.Outcome State Fault Refusal :=
  .next (settle (takeRequest rx body (fun a => forMotion rx.port (judgeStageCommit a)) s))

/-- TAKE CLOSE (R96). -/
def execTakeClose (rx : Rx) (body : Body Unit) (s : State) : Host.Outcome State Fault Refusal :=
  .next (settle (takeRequest rx body (fun a => forMotion rx.port (judgeTakeClose a)) s))

/-- TAKE DISCARD (R97). -/
def execTakeDiscard (rx : Rx) (body : Body Unit) (s : State) : Host.Outcome State Fault Refusal :=
  .next (settle (takeRequest rx body (fun a => forMotion rx.port (judgeTakeDiscard a)) s))

/-- TAKE FETCH (R98). -/
def execTakeFetch (rx : Rx) (body : Body FetchArgs) (s : State) : Host.Outcome State Fault Refusal :=
  .next (settle (takeRequest rx body (judgeTakeFetch rx) s))

/-- TAKE STATUS CLEAR (R87). -/
def execTakeStatusClear (rx : Rx) (body : Body Unit) (s : State) : Host.Outcome State Fault Refusal :=
  .next (settle (takeRequest rx body (fun a => forMotion rx.port (judgeStatusClear a)) s))

end Sys2Proof.Machine
end

