-- ==== Sys2Proof/Machine/RecordRequests.lean ====
section
/-! DEFINITION. The meanings of RECORD, MARK and RECORD END (chapter 6). -/

namespace Sys2Proof.Machine

open Sys2Proof

/-- The values RECORD judges (R104). -/
def State.recordValid (s : State) (a : RecordArgs) : Bool :=
  nameValid a.name && s.setPresent a.lanes && 1 ≤ LaneSet.count a.lanes && s.tb.startValid a.start

/-- An accepted RECORD (R104). -/
def armRecorder (i : SlotNo) (a : RecordArgs) (s : State) : State :=
  suspendErase (s.setRecorder { Recorder.reset with
    state := .armed
    slot := some i
    lanes := a.lanes
    start := some (match a.start with
      | none => .next
      | some f => .frame f)
    startFrame := some (s.tb.startFrame a.start)
    name := a.name
    lensTag := s.lens.activeTag })

def judgeRecord (a : RecordArgs) : Judge := fun s =>
  match slotOf a.slot with
  | none => refuse .badValue s
  | some i =>
    if !s.recordValid a then refuse .badValue s
    else if !s.rig.record.frozen then refuse .unfrozen s
    else if s.recActive then refuse .wrongState s
    else if s.mem.slots[i].state ≠ .empty then refuse .wrongState s
    else if s.tb.untrusted then refuse .wrongState s
    else if s.lowestFree.isNone then refuse .noRoom s
    else accept (armRecorder i a s)

/-- The span as it will stand after the next sample (R108). -/
def Recorder.nextSpan (r : Recorder) : Bool := spanAfter r.spanOpen r.marks

/-- The table of R108. -/
def Recorder.takesMark (r : Recorder) : MarkKind → Bool
  | .defer => !r.nextSpan && !r.marks.resume
  | .resume => r.nextSpan && !r.marks.defer
  | .cue => true

def addMark (k : MarkKind) (m : Marks) : Marks :=
  match k with
  | .defer => { m with defer := true }
  | .resume => { m with resume := true }
  | .cue => { m with cue := true }

def judgeMark (k : MarkKind) : Judge := fun s =>
  let r := s.recorder
  if r.state = .idle ∨ r.state = .draining ∨ r.endPending then refuse .wrongState s
  else if !r.takesMark k then refuse .wrongState s
  else done (s.setRecorder { r with marks := addMark k r.marks })

/-- RECORD END (R109). -/
def judgeRecordEnd (_ : Unit) : Judge := fun s =>
  match s.recorder.state with
  | .idle => refuse .wrongState s
  | .draining => refuse .wrongState s
  | .armed => done (recordEnds .done s)
  | .recording =>
    if s.recorder.endPending then accept s
    else accept (s.setRecorder { dropMarks s.recorder with endPending := true })

/-- RECORD (R104). -/
def execRecord (rx : Rx) (body : Body RecordArgs) (s : State) : Host.Outcome State Fault Refusal :=
  .next (settle (takeRequest rx body (fun a => forMotion rx.port (judgeRecord a)) s))

/-- MARK (R108). -/
def execMark (rx : Rx) (body : Body MarkKind) (s : State) : Host.Outcome State Fault Refusal :=
  .next (settle (takeRequest rx body (fun a => forMotion rx.port (judgeMark a)) s))

/-- RECORD END (R109). -/
def execRecordEnd (rx : Rx) (body : Body Unit) (s : State) : Host.Outcome State Fault Refusal :=
  .next (settle (takeRequest rx body (fun a => forMotion rx.port (judgeRecordEnd a)) s))

end Sys2Proof.Machine
end

