-- ==== Sys2Proof/Machine/LensRequests.lean ====
section
/-! DEFINITION. The meanings of PROFILE LOAD and PROFILE SELECT (chapter 4). -/

namespace Sys2Proof.Machine

open Sys2Proof

/-- Another loaded slot has the tag (R65). -/
def Lens.tagTaken (x : Lens) (k : ProfileNo) (tag : Nat) : Bool :=
  tag ≠ 0 && (List.finRange 4).any fun j => j ≠ k && x.slots[j].profile.tag = tag

/-- The store state after new content (R66, R165). -/
def storeChanged : StoreState → StoreState
  | .stored => .writeWaiting
  | .failed => .writeWaiting
  | .writeWaiting => .writeWaiting
  | .writing => .writing

/-- An accepted LOAD (R65, R66). -/
def loadProfile (k : ProfileNo) (p : Profile) (s : State) : State :=
  let slots := updAt s.lens.slots k fun x => { profile := p, store := storeChanged x.store }
  let active := if p.tag = 0 ∧ s.lens.active = some k then none else s.lens.active
  queueReserved (.profile k) (s.setLens { slots := slots, active := active })

/-- PROFILE LOAD (R65). -/
def judgeProfileLoad (a : ProfileLoadArgs) : Judge := fun s =>
  match indexOf 4 a.slot with
  | none => refuse .badValue s
  | some k =>
    if !profileValid a.profile || s.lens.tagTaken k a.profile.tag then refuse .badValue s
    else if s.lens.active = some k ∧ s.mapInUse then refuse .busy s
    else if s.lens.slots[k].store = .writing ∧ s.mem.reservedQueue.contains (.profile k) then refuse .busy s
    else done (loadProfile k a.profile s)

/-- The selection changes at once, unless the map is in use (R67). -/
def selectProfile (sel : Option ProfileNo) : Judge := fun s =>
  if s.lens.active = sel then done s
  else if s.mapInUse then refuse .busy s
  else done (s.setLens { s.lens with active := sel })

/-- PROFILE SELECT (R67). -/
def judgeProfileSelect (a : Option Nat) : Judge := fun s =>
  match a with
  | none => selectProfile none s
  | some i => match indexOf 4 i with
    | none => refuse .badValue s
    | some k => if s.lens.slots[k].profile.tag = 0 then refuse .badValue s else selectProfile (some k) s

/-- PROFILE LOAD (R65, R66). -/
def execProfileLoad (rx : Rx) (body : Body ProfileLoadArgs) (s : State) : Host.Outcome State Fault Refusal :=
  .next (settle (takeRequest rx body (fun a => forRoles [.motion, .lens] rx.port (judgeProfileLoad a)) s))

/-- PROFILE SELECT (R67). -/
def execProfileSelect (rx : Rx) (body : Body (Option Nat)) (s : State) : Host.Outcome State Fault Refusal :=
  .next (settle (takeRequest rx body (fun a => forRoles [.motion, .lens] rx.port (judgeProfileSelect a)) s))

end Sys2Proof.Machine
end

