-- ==== Sys2Proof/Machine/RigRequests.lean ====
section
/-! DEFINITION. The meanings of RIG WRITE and RIG FREEZE (chapter 9). -/

namespace Sys2Proof.Machine

open Sys2Proof

/-! ### RIG WRITE (R166) -/

/-- The carried fields of one lane entry taken into the lane's record. -/
def applyEntry (e : RigEntry) (r : RigLane) : RigLane where
  hardMin := e.hardMin.getD r.hardMin
  hardMax := e.hardMax.getD r.hardMax
  vmaxCeil := e.vmaxCeil.getD r.vmaxCeil
  aCeil := e.aCeil.getD r.aCeil
  astopFloor := e.astopFloor.getD r.astopFloor
  followCeil := e.followCeil.getD r.followCeil
  defVmax := e.defVmax.getD r.defVmax
  defA := e.defA.getD r.defA
  defAstop := e.defAstop.getD r.defAstop
  defK := e.defK.getD r.defK

/-- The lane records with one entry taken. -/
def takeEntry (e : RigEntry) (v : Vector RigLane 12) : Vector RigLane 12 :=
  match indexOf 12 e.lane with
  | some l => updAt v l (applyEntry e)
  | none => v

/-- The lane records with every entry taken, in order. -/
def applyEntries (es : List RigEntry) (v : Vector RigLane 12) : Vector RigLane 12 :=
  es.foldl (fun v e => takeEntry e v) v

/-- Each field in the range R165 gives it; a default outside its ceilings is not refused but clamped (R166; log 26). -/
def rigLaneValid (r : RigLane) : Bool :=
  inPosRange r.hardMin && inPosRange r.hardMax && r.hardMin ≤ r.hardMax &&
    1 ≤ r.vmaxCeil && r.vmaxCeil ≤ vmaxMax && 1 ≤ r.aCeil && r.aCeil ≤ accMax &&
    1 ≤ r.astopFloor && r.astopFloor ≤ accMax && 1 ≤ r.followCeil && r.followCeil ≤ followMax &&
    1 ≤ r.defK && r.defK ≤ 65536

/-- Every entry names a lane and carries values in range, with its hard limits in order, judged against the record as the
entries before it leave it (R166; log 26). -/
def entriesValid : List RigEntry → Vector RigLane 12 → Bool
  | [], _ => true
  | e :: es, v =>
    (match indexOf 12 e.lane with
      | some l => rigLaneValid (applyEntry e v[l])
      | none => false) && entriesValid es (takeEntry e v)

/-- The defaults clamped into the resulting ceilings and floor, the default Astop raised to the default A. -/
def clampDefaults (r : RigLane) : RigLane :=
  let a := clampNat 1 r.aCeil r.defA
  { r with defVmax := clampNat 1 r.vmaxCeil r.defVmax, defA := a,
           defAstop := max (clampNat r.astopFloor accMax r.defAstop) a }

/-- The effect on a present lane's record: limits into the hard limits, shaping under the ceilings and over the floor. -/
def rigAdjust (r : RigLane) (x : LaneRec) : LaneRec :=
  if !x.present then x
  else
    let a := min x.a r.aCeil
    { x with
      softMin := clampInt r.hardMin r.hardMax x.softMin
      softMax := clampInt r.hardMin r.hardMax x.softMax
      vmax := min x.vmax r.vmaxCeil
      a := a
      astop := max (max x.astop r.astopFloor) a
      followLimit := min x.followLimit r.followCeil }

/-- The lane blocks the request: it moves outside its new limits, or faster than its new Vmax (R166). -/
def rigBlocked (x : LaneRec) : Bool :=
  x.present && (((x.p < x.softMin || x.softMax < x.p) && x.v ≠ 0) || x.vmax < mag x.v)

/-- The working record waits for a write (R165). -/
def queueRig (s : State) : State := queueReserved .rig (s.setRig { s.rig with store := storeChanged s.rig.store })

/-- R166; a refusal carries no adjusted indication (log 46). -/
def judgeRigWrite (a : RigArgs) : Judge := fun s =>
  let r := s.rig.record
  let raw := applyEntries a.entries r.lanes
  let present := a.presentSet.getD r.presentSet
  let identity := a.identity.getD r.identity
  if r.frozen then refuse .takeProtected s
  else if s.rig.freezePending then refuse .busy s
  else if !(entriesValid a.entries r.lanes && LaneSet.inRange present && identity < 4294967296) then refuse .badValue s
  else
    let v := mapAll raw fun _ x => clampDefaults x
    let lanes := mapAll s.lanes fun l x => rigAdjust v[l] x
    if lanes.toList.any rigBlocked then refuse .busy s
    else
      let s1 := (s.setLanes lanes).setRig
        { s.rig with record := { r with identity := identity, presentSet := present, lanes := v } }
      doneAdjusted (v ≠ raw) (queueRig s1)

/-! ### RIG FREEZE (R167) -/

def judgeRigFreeze (_ : Unit) : Judge := fun s =>
  if s.rig.record.frozen then done s
  else if s.rig.freezePending then refuse .busy s
  else if (LaneSet.members s.rig.record.presentSet).isEmpty then refuse .wrongState s
  else accept (queueRig (s.setRig { s.rig with freezePending := true }))

/-! ### Meanings -/

/-- RIG WRITE (R166). -/
def execRigWrite (rx : Rx) (body : Body RigArgs) (s : State) : Host.Outcome State Fault Refusal :=
  .next (settle (takeRequest rx body (fun a => forMotion rx.port (judgeRigWrite a)) s))

/-- RIG FREEZE (R167). -/
def execRigFreeze (rx : Rx) (body : Body Unit) (s : State) : Host.Outcome State Fault Refusal :=
  .next (settle (takeRequest rx body (fun a => forMotion rx.port (judgeRigFreeze a)) s))

end Sys2Proof.Machine
end

