-- ==== Sys2Proof/Machine/Dispatch.lean ====
section
/-! DEFINITION. The effect of a command on everything but the queue: one arm per row of spec/opcode_table.json. -/

namespace Sys2Proof.Machine

open Sys2Proof

/-- One arm per command, in the table's order; each is the command's meaning. -/
def exec (i : Instr) (s : State) : Host.Outcome State Fault Refusal :=
  match i with
  | .powerUp lines damage => Sys2Proof.Machine.execPowerUp lines damage s
  | .startingEnd => Sys2Proof.Machine.execStartingEnd s
  | .frameStart => Sys2Proof.Machine.execFrameStart s
  | .servoTick => Sys2Proof.Machine.execServoTick s
  | .referencePulse time => Sys2Proof.Machine.execReferencePulse time s
  | .overdueFrameStart => Sys2Proof.Machine.execOverdueFrameStart s
  | .missingPulse => Sys2Proof.Machine.execMissingPulse s
  | .flywheelToSearch => Sys2Proof.Machine.execFlywheelToSearch s
  | .stallLimit => Sys2Proof.Machine.execStallLimit s
  | .deferMissed => Sys2Proof.Machine.execDeferMissed s
  | .driveReply lane f t status count => Sys2Proof.Machine.execDriveReply lane f t status count s
  | .driveReplyMissing lane => Sys2Proof.Machine.execDriveReplyMissing lane s
  | .stopLineAssert => Sys2Proof.Machine.execStopLineAssert s
  | .stopLineDeassert => Sys2Proof.Machine.execStopLineDeassert s
  | .releasePulse => Sys2Proof.Machine.execReleasePulse s
  | .presenceAssert line => Sys2Proof.Machine.execPresenceAssert line s
  | .presenceDeassert line => Sys2Proof.Machine.execPresenceDeassert line s
  | .protectLineChange closed => Sys2Proof.Machine.execProtectLineChange closed s
  | .releaseWindowExpiry time => Sys2Proof.Machine.execReleaseWindowExpiry time s
  | .arrayReadDone => Sys2Proof.Machine.execArrayReadDone s
  | .programSampleDone ok => Sys2Proof.Machine.execProgramSampleDone ok s
  | .chunkPartDone ok => Sys2Proof.Machine.execChunkPartDone ok s
  | .eraseDone verified => Sys2Proof.Machine.execEraseDone verified s
  | .eraseSuspendDone result => Sys2Proof.Machine.execEraseSuspendDone result s
  | .eraseResumeDone => Sys2Proof.Machine.execEraseResumeDone s
  | .reservedWriteDone ok => Sys2Proof.Machine.execReservedWriteDone ok s
  | .idleFill port time => Sys2Proof.Machine.execIdleFill port time s
  | .abilityOffer due => Sys2Proof.Machine.execAbilityOffer due s
  | .ability rx body => Sys2Proof.Machine.execAbility rx body s
  | .otherFrameInOffer rx => Sys2Proof.Machine.execOtherFrameInOffer rx s
  | .discardedFrame port => Sys2Proof.Machine.execDiscardedFrame port s
  | .negotiationDeadline port time => Sys2Proof.Machine.execNegotiationDeadline port time s
  | .failedTimeout port time recognises => Sys2Proof.Machine.execFailedTimeout port time recognises s
  | .linkSilence port time => Sys2Proof.Machine.execLinkSilence port time s
  | .leaveReplySent port => Sys2Proof.Machine.execLeaveReplySent port s
  | .frameSent port => Sys2Proof.Machine.execFrameSent port s
  | .unknownRequest rx => Sys2Proof.Machine.execUnknownRequest rx s
  | .acquire rx body => Sys2Proof.Machine.execAcquire rx body s
  | .yield rx body => Sys2Proof.Machine.execYield rx body s
  | .demand rx body => Sys2Proof.Machine.execDemand rx body s
  | .trim rx body => Sys2Proof.Machine.execTrim rx body s
  | .stop rx body => Sys2Proof.Machine.execStop rx body s
  | .query rx body => Sys2Proof.Machine.execQuery rx body s
  | .takeFetch rx body => Sys2Proof.Machine.execTakeFetch rx body s
  | .ping rx body => Sys2Proof.Machine.execPing rx body s
  | .leave rx body => Sys2Proof.Machine.execLeave rx body s
  | .releaseAsk rx body => Sys2Proof.Machine.execReleaseAsk rx body s
  | .releaseAgree rx body => Sys2Proof.Machine.execReleaseAgree rx body s
  | .park rx body => Sys2Proof.Machine.execPark rx body s
  | .unpark rx body => Sys2Proof.Machine.execUnpark rx body s
  | .profileLoad rx body => Sys2Proof.Machine.execProfileLoad rx body s
  | .profileSelect rx body => Sys2Proof.Machine.execProfileSelect rx body s
  | .shapeSet rx body => Sys2Proof.Machine.execShapeSet rx body s
  | .limitsSet rx body => Sys2Proof.Machine.execLimitsSet rx body s
  | .timebaseSet rx body => Sys2Proof.Machine.execTimebaseSet rx body s
  | .zoneSet rx body => Sys2Proof.Machine.execZoneSet rx body s
  | .zoneDrop rx body => Sys2Proof.Machine.execZoneDrop rx body s
  | .presenceSet rx body => Sys2Proof.Machine.execPresenceSet rx body s
  | .record rx body => Sys2Proof.Machine.execRecord rx body s
  | .mark rx body => Sys2Proof.Machine.execMark rx body s
  | .recordEnd rx body => Sys2Proof.Machine.execRecordEnd rx body s
  | .cue rx body => Sys2Proof.Machine.execCue rx body s
  | .roll rx body => Sys2Proof.Machine.execRoll rx body s
  | .segmentDone rx body => Sys2Proof.Machine.execSegmentDone rx body s
  | .uncue rx body => Sys2Proof.Machine.execUncue rx body s
  | .takeProtect rx body => Sys2Proof.Machine.execTakeProtect rx body s
  | .takeErase rx body => Sys2Proof.Machine.execTakeErase rx body s
  | .takeOpen rx body => Sys2Proof.Machine.execTakeOpen rx body s
  | .stage rx body => Sys2Proof.Machine.execStage rx body s
  | .stageCommit rx body => Sys2Proof.Machine.execStageCommit rx body s
  | .takeClose rx body => Sys2Proof.Machine.execTakeClose rx body s
  | .takeDiscard rx body => Sys2Proof.Machine.execTakeDiscard rx body s
  | .takeStatusClear rx body => Sys2Proof.Machine.execTakeStatusClear rx body s
  | .rigWrite rx body => Sys2Proof.Machine.execRigWrite rx body s
  | .rigFreeze rx body => Sys2Proof.Machine.execRigFreeze rx body s

end Sys2Proof.Machine
end

