-- ==== Sys2Proof/Machine/Receive.lean ====
section
/-! DEFINITION. A port's receiver (R184 to R187): the hunt for frames, the decoding of every request body, and the command
each frame is to the part. Layouts the rules leave open: log 31. -/

namespace Sys2Proof.Machine

open Sys2Proof

/-! ### Fields (R186) -/

/-- Reads a value from the front of a body; none where the body is too short or a field breaks its encoding. -/
abbrev Parse := StateT (List Byte) Option

/-- The next n bytes. -/
def takeBytes (n : Nat) : Parse (List Byte) := fun bs => if n ≤ bs.length then some (bs.take n, bs.drop n) else none

/-- The value of bytes sent most significant first. -/
def natOf (bs : List Byte) : Nat := bs.foldl (fun acc b => acc * 256 + b.toNat) 0

/-- An unsigned field of n bytes. -/
def getNat (n : Nat) : Parse Nat := do return natOf (← takeBytes n)

/-- A signed field of n bytes, two's complement. -/
def getInt (n : Nat) : Parse Int := do
  let x ← getNat n
  return if x < 128 * 256 ^ (n - 1) then (x : Int) else (x : Int) - 256 ^ n

/-- Succeeds only where the condition holds. -/
def ensure (b : Bool) : Parse Unit := if b then pure () else failure

/-- A yes or no field, 1 or 0. -/
def getFlag : Parse Bool := do
  let x ← getNat 1
  ensure (x < 2)
  return x = 1

/-- A choice: its position in a list (R186). -/
def getChoice {α : Type} (xs : List α) : Parse α := do
  let i ← getNat 1
  match xs[i]? with
  | some a => pure a
  | none => failure

def getLaneSet : Parse LaneSet := do return BitVec.ofNat 16 (← getNat 2)

/-- A name: printable characters, ended by the first 0x00, every byte after it 0x00. -/
def getName : Parse Name := do
  let bs ← takeBytes 16
  let n := bs.takeWhile fun b => b ≠ 0
  ensure ((n.all fun b => 0x20 ≤ b.toNat && b.toNat ≤ 0x7E) && (bs.dropWhile fun b => b ≠ 0).all fun b => b = 0)
  return n

/-- n values in a row. -/
def getMany {α : Type} (p : Parse α) : Nat → Parse (List α)
  | 0 => pure []
  | n + 1 => do
    let a ← p
    let as ← getMany p n
    return a :: as

/-- A list: a count and its entries. -/
def getList {α : Type} (p : Parse α) : Parse (List α) := do getMany p (← getNat 1)

/-- The carried mask of m optional fields in n bytes: no bit beyond them (R186, R187). -/
def getMask (n m : Nat) : Parse Nat := do
  let x ← getNat n
  ensure (x < 2 ^ m)
  return x

/-- A field that is carried only where its mask bit is set. -/
def carried {α : Type} (mask i : Nat) (p : Parse α) : Parse (Option α) :=
  if mask.testBit i then do return some (← p) else pure none

/-- The whole body, with nothing left over (R187). -/
def decodeBody {α : Type} (p : Parse α) (bs : List Byte) : Body α :=
  match p.run bs with
  | some (a, []) => .fields a
  | _ => .malformed

/-! ### Bodies -/

def roles : List Role := [.motion, .arm, .lens, .assist, .observer]

def getAbility : Parse Ability := do
  let r ← getChoice roles
  let a ← getFlag
  return { wanted := r, ack := a }

def getDemandEntry : Parse DemandEntry := do
  let l ← getNat 1
  let k ← getChoice [DemandKind.abs, .lens, .step]
  let v ← getInt 8
  return { lane := l, kind := k, value := v }

def getTrimEntry : Parse TrimEntry := do
  let l ← getNat 1
  let v ← getNat 4
  return { lane := l, scale := v }

def getTableName : Parse TableName :=
  getChoice [.lanes, .grants, .stations, .zones, .presence, .directory, .profiles, .rig, .blocks]

def getFetch : Parse FetchArgs := do
  let s ← getNat 1
  let i ← getNat 2
  let n ← getNat 1
  return { slot := s, first := i, count := n }

def getBreakpoint : Parse Breakpoint := do
  let u ← getNat 4
  let p ← getInt 8
  return { u := u, p := p }

/-- A table; count 0 for an absent one (R190). -/
def getTable : Parse (Option (List Breakpoint)) := do
  let t ← getList getBreakpoint
  return if t.isEmpty then none else some t

def getProfileLoad : Parse ProfileLoadArgs := do
  let s ← getNat 1
  let tag ← getNat 2
  let name ← getName
  let fo ← getTable
  let ir ← getTable
  let zo ← getTable
  return { slot := s, profile := { tag := tag, name := name, focus := fo, iris := ir, zoom := zo } }

def getProfileSelect : Parse (Option Nat) := do
  let m ← getMask 1 1
  carried m 0 (getNat 1)

def getShape : Parse ShapeArgs := do
  let m ← getMask 1 6
  let l ← getNat 1
  let vm ← carried m 0 (getNat 4)
  let a ← carried m 1 (getNat 4)
  let st ← carried m 2 (getNat 4)
  let k ← carried m 3 (getNat 4)
  let tol ← carried m 4 (getNat 4)
  let fol ← carried m 5 (getNat 4)
  return { lane := l, vmax := vm, a := a, astop := st, k := k, trackTol := tol, followLimit := fol }

def getLimits : Parse LimitsArgs := do
  let l ← getNat 1
  let lo ← getInt 8
  let hi ← getInt 8
  return { lane := l, min := lo, max := hi }

def getTimebase : Parse TimebaseArgs := do
  let m ← getMask 1 3
  let mode ← carried m 0 (getChoice [Mode.internal, .referenced])
  let n ← carried m 1 (getNat 1)
  let p ← carried m 2 (getNat 4)
  return { mode := mode, n := n, period := p }

def getInterval : Parse Interval := do
  let l ← getNat 1
  let lo ← getInt 8
  let hi ← getInt 8
  return { lane := l, low := lo, high := hi }

def getZoneSet : Parse ZoneSetArgs := do
  let z ← getNat 1
  let k ← getChoice [ZoneKind.keepOut, .slow]
  let en ← getFlag
  let sc ← getNat 4
  let is ← getList getInterval
  return { entry := z, record := { kind := k, enabled := en, scale := sc, intervals := is } }

def getPresence : Parse PresenceArgs := do
  let i ← getNat 1
  let ls ← getLaneSet
  let sc ← getNat 4
  return { line := i, lanes := ls, scale := sc }

/-- A start: 0 for NEXT, else the frame number (R186). -/
def getStart : Parse (Option Nat) := do
  let f ← getNat 8
  return if f = 0 then none else some f

def getRecord : Parse RecordArgs := do
  let s ← getNat 1
  let ls ← getLaneSet
  let n ← getName
  let st ← getStart
  return { slot := s, lanes := ls, name := n, start := st }

def getCue : Parse CueArgs := do
  let m ← getMask 1 2
  let s ← getNat 1
  let ls ← getLaneSet
  let sc ← carried m 0 (getNat 4)
  let e ← carried m 1 (getChoice [EndMode.yield, .holdEnd])
  return { slot := s, lanes := ls, scale := sc, endMode := e }

def getProtect : Parse ProtectArgs := do
  let s ← getNat 1
  let a ← getChoice [ProtectAction.lock, .unlock, .lockDown]
  return { slot := s, action := a }

def getOpen : Parse OpenArgs := do
  let s ← getNat 1
  let name ← getName
  let ls ← getLaneSet
  let n ← getNat 1
  let p ← getNat 4
  let flags ← getNat 1
  let tag ← getNat 2
  return { slot := s, name := name, lanes := ls, n := n, period := p, referenced := flags.testBit 0, lensTag := tag }

/-- A staged sample; the check sent is ignored (R191). -/
def getStaged : Parse StagedSample := do
  let o ← getNat 2
  let m ← getNat 1
  let n ← getNat 1
  let _ ← takeBytes 4
  let ps ← getMany (getInt 8) n
  return { offset := o, marks := byteOf m, pos := ps }

def getRigEntry : Parse RigEntry := do
  let l ← getNat 1
  let m ← getMask 2 10
  let a ← carried m 0 (getInt 8)
  let b ← carried m 1 (getInt 8)
  let c ← carried m 2 (getNat 4)
  let d ← carried m 3 (getNat 4)
  let e ← carried m 4 (getNat 4)
  let f ← carried m 5 (getNat 4)
  let g ← carried m 6 (getNat 4)
  let h ← carried m 7 (getNat 4)
  let i ← carried m 8 (getNat 4)
  let j ← carried m 9 (getNat 4)
  return { lane := l, hardMin := a, hardMax := b, vmaxCeil := c, aCeil := d, astopFloor := e, followCeil := f,
           defVmax := g, defA := h, defAstop := i, defK := j }

def getRig : Parse RigArgs := do
  let m ← getMask 1 2
  let i ← carried m 0 (getNat 4)
  let p ← carried m 1 getLaneSet
  let es ← getList getRigEntry
  return { identity := i, presentSet := p, entries := es }

/-- An empty body. -/
def getNothing : Parse Unit := pure ()

/-! ### The command a valid frame is (R184, R185) -/

def frameCommand (rx : Rx) (kind : Byte) (body : List Byte) : Instr :=
  match kind.toNat with
  | 0x08 => .ability rx (decodeBody getAbility body)
  | 0x10 => .acquire rx (decodeBody getLaneSet body)
  | 0x11 => .yield rx (decodeBody getLaneSet body)
  | 0x12 => .demand rx (decodeBody (getList getDemandEntry) body)
  | 0x13 => .trim rx (decodeBody (getList getTrimEntry) body)
  | 0x14 => .stop rx (decodeBody getNothing body)
  | 0x15 => .query rx (decodeBody getTableName body)
  | 0x16 => .takeFetch rx (decodeBody getFetch body)
  | 0x17 => .ping rx (decodeBody getNothing body)
  | 0x18 => .leave rx (decodeBody getNothing body)
  | 0x19 => .releaseAsk rx (decodeBody getNothing body)
  | 0x1A => .releaseAgree rx (decodeBody getNothing body)
  | 0x1B => .park rx (decodeBody getNothing body)
  | 0x1C => .unpark rx (decodeBody getNothing body)
  | 0x1D => .profileLoad rx (decodeBody getProfileLoad body)
  | 0x1E => .profileSelect rx (decodeBody getProfileSelect body)
  | 0x1F => .shapeSet rx (decodeBody getShape body)
  | 0x20 => .limitsSet rx (decodeBody getLimits body)
  | 0x21 => .timebaseSet rx (decodeBody getTimebase body)
  | 0x22 => .zoneSet rx (decodeBody getZoneSet body)
  | 0x23 => .zoneDrop rx (decodeBody (getNat 1) body)
  | 0x24 => .presenceSet rx (decodeBody getPresence body)
  | 0x25 => .record rx (decodeBody getRecord body)
  | 0x26 => .mark rx (decodeBody (getChoice [MarkKind.defer, .resume, .cue]) body)
  | 0x27 => .recordEnd rx (decodeBody getNothing body)
  | 0x28 => .cue rx (decodeBody getCue body)
  | 0x29 => .roll rx (decodeBody getStart body)
  | 0x2A => .segmentDone rx (decodeBody getNothing body)
  | 0x2B => .uncue rx (decodeBody getNothing body)
  | 0x2C => .takeProtect rx (decodeBody getProtect body)
  | 0x2D => .takeErase rx (decodeBody (getNat 1) body)
  | 0x2E => .takeOpen rx (decodeBody getOpen body)
  | 0x2F => .stage rx (decodeBody (getList getStaged) body)
  | 0x30 => .stageCommit rx (decodeBody getNothing body)
  | 0x31 => .takeClose rx (decodeBody getNothing body)
  | 0x32 => .takeDiscard rx (decodeBody getNothing body)
  | 0x33 => .takeStatusClear rx (decodeBody getNothing body)
  | 0x34 => .rigWrite rx (decodeBody getRig body)
  | 0x35 => .rigFreeze rx (decodeBody getNothing body)
  | _ => .unknownRequest rx

/-! ### The hunt (R185) -/

/-- What the bytes after a start pair hold. -/
inductive Framing where
  | valid (kind : Byte) (tag : Word16) (body rest : List Byte)
  | bad
  | incomplete
  deriving DecidableEq, Repr

/-- The header, body, check and end pair at the places the length gives (R184, R185). -/
def readFrame (bs : List Byte) : Framing :=
  match bs with
  | kind :: t1 :: t0 :: l1 :: l0 :: more =>
    let n := natOf [l1, l0]
    if 2048 < n then .bad
    else if more.length < n + 4 then .incomplete
    else
      let body := more.take n
      match more.drop n with
      | c1 :: c0 :: e1 :: e0 :: rest =>
        if e1 = 0x5A ∧ e0 = 0xA5 ∧ natOf [c1, c0] = (frameCheck (kind :: t1 :: t0 :: l1 :: l0 :: body)).toNat then
          .valid kind (BitVec.ofNat 16 (natOf [t1, t0])) body rest
        else .bad
      | _ => .incomplete
  | _ => .incomplete

/-- What a port's receiver takes from bytes: valid frames as commands, others as DISCARDED_FRAME. -/
def receive (port : Port) (time : Nat) : Nat → List Byte → List Instr
  | 0, _ => []
  | n + 1, 0xA5#8 :: 0x5A#8 :: rest =>
    match readFrame rest with
    | .valid kind tag body more =>
      frameCommand { port := port, tag := tag, time := time } kind body :: receive port time n more
    | .bad => .discardedFrame port :: receive port time n rest
    | .incomplete => []
  | n + 1, _ :: bs => receive port time n bs
  | _ + 1, [] => []

/-- A byte of idle fill taken within the last 10 ms (R185). -/
def idleByte (now : Nat) (x : Nat × Byte) : Bool := x.2 = idleFillByte && now ≤ x.1 + 10000

/-- A run of n idle fill bytes taken within the last 10 ms stands somewhere in the arrivals; `run` counts those that
stand just before. -/
def idleRun (now n : Nat) : Nat → List (Nat × Byte) → Bool
  | run, [] => n ≤ run
  | run, x :: xs => n ≤ run || idleRun now n (if idleByte now x then run + 1 else 0) xs

/-- Idle fill is recognised: 16 consecutive 0x55 bytes, all taken within the last 10 ms, whatever came after them (R185).
The arrivals carry their times, newest first. -/
def idleRecognised (now : Nat) (arrivals : List (Nat × Byte)) : Bool := idleRun now 16 0 arrivals

end Sys2Proof.Machine
end

