-- ==== Sys2Proof/Safety.lean ====
section
/-! DEFINITION. What the manual promises of every state of the part, whatever commands led to it: one predicate per
promise, decidable, for the statements that every step keeps it. -/

namespace Sys2Proof.Machine

open Sys2Proof

/-! ### Lanes (R1, R13, R14, R18, R21) -/

/-- "Every lane's |V| never exceeds its Vmax" (R13). -/
def SpeedBound (s : State) : Prop := ∀ l : Lane, mag s.lanes[l].v ≤ s.lanes[l].vmax

/-- Astop is never below A (R1, R21). -/
def StopAccel (s : State) : Prop := ∀ l : Lane, s.lanes[l].a ≤ s.lanes[l].astop

/-- The effective scale lies in 0 to 65536 (R1, R9). -/
def ScaleBound (s : State) : Prop := ∀ l : Lane, s.lanes[l].sEff ≤ fullScale

/-- "In STOPPED and RELEASING every lane's V is zero" (R18), and so is the V of a lane that is not ACTIVE (R3). -/
def Rest (s : State) : Prop :=
  (∀ l : Lane, s.lanes[l].stepped = false → s.lanes[l].v = 0) ∧
    (s.safety.stop = .stopped ∨ s.safety.stop = .releasing → ∀ l : Lane, s.lanes[l].v = 0)

/-- The record of an absent lane (R1). -/
def AbsentZero (s : State) : Prop :=
  ∀ l : Lane, s.lanes[l].present = false →
    s.lanes[l].p = 0 ∧ s.lanes[l].v = 0 ∧ s.lanes[l].t = 0 ∧ s.lanes[l].softMin = 0 ∧ s.lanes[l].softMax = 0 ∧
      s.lanes[l].limitClip = false ∧ s.lanes[l].capped = false

/-- A rig record's hard limits are ordered on every lane (R165). -/
def RigRecord.ordered (r : RigRecord) : Prop := ∀ l : Lane, r.lanes[l].hardMin ≤ r.lanes[l].hardMax

/-- The hard limits are ordered in the working record, in the stored one and in one being written, and a present lane's
soft limits lie within the hard limits, ordered (R14, R165). -/
def LimitsOrdered (s : State) : Prop :=
  s.rig.record.ordered ∧ (∀ r, s.mem.stored.rig = some r → r.ordered) ∧
    (∀ r, s.mem.op = some (.reserved (.rig r)) → r.ordered) ∧
    ∀ l : Lane, s.lanes[l].present = true →
      s.rig.record.lanes[l].hardMin ≤ s.lanes[l].softMin ∧ s.lanes[l].softMin ≤ s.lanes[l].softMax ∧
        s.lanes[l].softMax ≤ s.rig.record.lanes[l].hardMax

/-! ### Outputs (R149, R162) -/

/-- DRIVE ENABLE and BRAKE RELEASE are asserted exactly while drive power is ON and the lane is ACTIVE (R162). -/
def OutputsFollow (s : State) : Prop :=
  ∀ l : Lane, s.drives.channels[l].enable = s.outputsOn l ∧ s.drives.channels[l].brake = s.outputsOn l

/-! ### Stops (R137, R144, R153, R154) -/

/-- The cause set is empty exactly in RUN (R144, R145), and holds no duplicate. -/
def CausesWf (s : State) : Prop :=
  (s.safety.causes = [] ↔ s.safety.stop = .run) ∧ (s.safety.causes.map fun c => c.kind).Nodup

/-- The release record exists exactly in RELEASING (R137). -/
def ReleaseWf (s : State) : Prop := s.safety.release.isSome = true ↔ s.safety.stop = .releasing

/-- "A playback in any state other than IDLE" finds the rig in RUN (R115, R134). -/
def PlayInRun (s : State) : Prop := s.play.state ≠ .idle → s.safety.stop = .run

/-- In STOPPING drive power stays ON, and in RUN it is ON (R149, R153). -/
def PowerInRun (s : State) : Prop := s.safety.stop = .run ∨ s.safety.stop = .stopping → s.safety.drivePower = true

/-! ### Timebase (R26, R27) -/

/-- The ranges of R26; the lock state is held in REFERENCED mode only. -/
def TimebaseWf (s : State) : Prop :=
  8 ≤ s.tb.n ∧ s.tb.n ≤ 64 ∧ s.tb.t < s.tb.n ∧ 8000 ≤ s.tb.internalPeriod ∧ s.tb.internalPeriod ≤ 50000 ∧
    s.tb.runCount < 4 ∧ s.tb.flywheelCount ≤ 9 ∧ (s.tb.lock = .none ↔ s.tb.mode = .internal) ∧
    (s.tb.lock = .locked → s.tb.lastPulse.isSome = true) ∧
    (s.tb.lock = .flywheel → s.tb.flywheelCount ≤ 8) ∧
    (s.tb.lastChance = true → s.tb.lock = .search) ∧
    (∀ a, s.tb.pendingSettings = some a →
      (∀ n, a.n = some n → 8 ≤ n ∧ n ≤ 64) ∧ (∀ p, a.period = some p → 8000 ≤ p ∧ p ≤ 50000))

/-! ### Queues (R103, R107, R114, R118, R170, R181) -/

/-- The event queue of every port holds at most 16 events (R170, R181). -/
def EventsBound (s : State) : Prop := ∀ p : Port, s.ports[p].events.length ≤ 16

/-- The reply path of every port holds at most 8 REPLYs besides its fetch's (R170, R179). -/
def RepliesBound (s : State) : Prop := ∀ p : Port, countedReplies s.ports[p] ≤ 8

/-- The write queue holds at most 8 samples (R103, R107). -/
def WriteQueueBound (s : State) : Prop := s.recorder.queue.length ≤ 8

/-! ### Ports (R170, R38) -/

/-- An ACTIVE port has a role and the level of that role; a DOWN, OFFER or FAILED one has no role (R170, R174, R177). -/
def PortsWf (s : State) : Prop :=
  ∀ p : Port, (s.ports[p].link = .active → ∃ r, s.ports[p].role = some r ∧ s.ports[p].level = roleLevel r) ∧
    (s.ports[p].link = .down ∨ s.ports[p].link = .offer ∨ s.ports[p].link = .failed → s.ports[p].role = none)

/-- At most one port holds the MOTION role (R38, R170, R173). -/
def OneMotion (s : State) : Prop :=
  ∀ p q : Port, s.holdsMotion p = true → s.holdsMotion q = true → p = q

/-- "The links stay DOWN while the part is STARTING" (R170). -/
def StartingDown (s : State) : Prop := s.starting = true → ∀ p : Port, s.ports[p].link = .down

/-! ### Grants (R40) -/

/-- The stations with a place on a lane: holder, stack, pending. -/
def Grant.places (g : Grant) : List Port :=
  (match g.holder with
    | some h => match h.who with
      | .station p => [p]
      | .playback => []
    | none => []) ++ g.stack.map (fun e => e.port) ++ g.waiting.map fun e => e.port

/-- R40: "A station appears at most once among a lane's holder, stack and pending list. Stack levels strictly increase
from the holder down", and when the pending list is not empty the lane has a holder at no higher a level. -/
def Grant.wf (g : Grant) : Prop :=
  g.places.Nodup ∧ (g.level :: g.stack.map fun e => e.level).Pairwise (· < ·) ∧
    (g.waiting ≠ [] → g.holder ≠ none) ∧ (∀ e ∈ g.waiting, g.level ≤ e.level) ∧
    (g.holder = none → g.stack = [])

/-- The levels of R38 on one lane: PLAYBACK stands at level 1 and a station at 2, 3 or 4. -/
def Grant.levels (g : Grant) : Prop :=
  (∀ h, g.holder = some h → (h.who = .playback → h.level = 1) ∧ (h.who ≠ .playback → 2 ≤ h.level ∧ h.level ≤ 4)) ∧
    (∀ e ∈ g.stack, 2 ≤ e.level ∧ e.level ≤ 4) ∧ (∀ e ∈ g.waiting, 2 ≤ e.level ∧ e.level ≤ 4)

/-- Every lane's grant state is as R38 and R40 promise. -/
def GrantsWf (s : State) : Prop := ∀ l : Lane, s.grants[l].wf ∧ s.grants[l].levels

/-- A station with a place on a lane has an ACTIVE link (R47), and stands at its level. -/
def GrantsActive (s : State) : Prop := ∀ l : Lane, ∀ p ∈ s.grants[l].places, s.isActive p = true

/-! ### Take memory (R75, R77) -/

/-- The blocks that are ERASING. -/
def State.erasingBlocks (s : State) : List BlockNo :=
  (List.finRange 64).filter fun b => s.mem.blocks[b].state = .erasing true ∨ s.mem.blocks[b].state = .erasing false

/-- "At most one block is ERASING at a time" (R77). -/
def OneErasing (s : State) : Prop := s.erasingBlocks.length ≤ 1

/-- "Every USED block belongs to exactly one take's block list, and no other block belongs to any" (R77). -/
def BlocksOwned (s : State) : Prop :=
  (∀ b : BlockNo, ∀ i : SlotNo, b ∈ s.mem.slots[i].blocks ↔
    ∃ place retire, s.mem.blocks[b].state = .used i place retire) ∧
    ∀ i : SlotNo, s.mem.slots[i].blocks.Nodup

/-- The operation in progress agrees with the block it works on: a block is ERASING and not suspended exactly while its
erase, suspend or resume is in progress, and no erase progresses while a recording or a playback is active; the part of a
live upload writes a block of the uploading take from a PROGRAMMING buffer; the part of a discarded one writes a block that
is DIRTY or BAD (R75, R84, R95, R97). -/
def ArrayWf (s : State) : Prop :=
  (∀ b : BlockNo, s.mem.blocks[b].state = .erasing false ↔
    s.mem.op = some (.erase b) ∨ s.mem.op = some (.suspend b) ∨ ∃ again, s.mem.op = some (.resume b again)) ∧
    (∀ b, s.mem.op = some (.erase b) ∨ s.mem.op = some (.resume b false) → s.recActive = false ∧ s.playActive = false) ∧
    (∀ i b k n, s.mem.op = some (.chunkPart i b k n true) →
      s.uploadSlot = some i ∧ b ∈ s.mem.slots[i].blocks ∧ s.mem.buffers[k].state = .programming) ∧
    ∀ i b k n, s.mem.op = some (.chunkPart i b k n false) →
      s.mem.blocks[b].state = .dirty ∨ s.mem.blocks[b].state = .bad

/-- An EMPTY slot has no header and no blocks; the Recorder's slot is EMPTY while it is ARMED and RECORDING while it records
or drains; samples are queued only then (R79, R103, R104, R105). -/
def SlotsWf (s : State) : Prop :=
  (∀ i : SlotNo, s.mem.slots[i].state = .empty → s.mem.slots[i].header = none ∧ s.mem.slots[i].blocks = []) ∧
    (∀ i : SlotNo, s.recorder.slot = some i →
      (s.recorder.state = .armed → s.mem.slots[i].state = .empty) ∧
        (s.recorder.state = .recording ∨ s.recorder.state = .draining → s.mem.slots[i].state = .recording)) ∧
    (s.recorder.queue ≠ [] → s.recorder.state = .recording ∨ s.recorder.state = .draining)

/-- The promises of R75 and R77 on the take memory, and what they rest on. -/
def TakesWf (s : State) : Prop := OneErasing s ∧ BlocksOwned s ∧ ArrayWf s ∧ SlotsWf s

/-! ### Staged samples (R94, R191) -/

/-- Whether a DEFER span is open after staged samples: DEFER opens one and RESUME closes it (R94). -/
def spanThrough (spanOpen : Bool) (xs : List StagedSample) : Bool :=
  xs.foldl (fun o x => if x.marks.getLsbD 0 then true else if x.marks.getLsbD 1 then false else o) spanOpen

/-- The sample x may stand in a chunk after the samples `before`, for a take of so many lanes and the continuity state u: the
next offset, at most 65,534; one position in range for each lane; marks DEFER, RESUME and CUE only, not both of DEFER and
RESUME, a DEFER with no span open and a RESUME with one open (R94, R191). -/
def SampleFollows (lanes : Nat) (u : Upload) (before : List StagedSample) (x : StagedSample) : Prop :=
  x.offset = u.nextOffset + before.length ∧ x.offset ≤ 65534 ∧ x.pos.length = lanes ∧
    (∀ p ∈ x.pos, -274877906944 ≤ p ∧ p ≤ 274877906944) ∧ x.marks.toNat < 8 ∧
    ¬ (x.marks.getLsbD 0 = true ∧ x.marks.getLsbD 1 = true) ∧
    (x.marks.getLsbD 0 = true → spanThrough u.spanOpen before = false) ∧
    (x.marks.getLsbD 1 = true → spanThrough u.spanOpen before = true)

/-! ### The effective scale (R9) -/

/-- The terms of a lane's effective scale besides full speed: the trim of the station that holds it, the cue scale while a
playback that holds it is CUEING or READY, the scale of an asserted presence line that covers it, of an enabled slow zone
that covers it and is predicting or breached, and of an exiting keep-out zone that covers it, and 4096 while the rig record
is not frozen (R9, R143, R168). -/
def ScaleTerm (s : State) (l : Lane) (x : Nat) : Prop :=
  (∃ (h : Hold) (q : Port), s.grants[l].holder = some h ∧ h.who = .station q ∧ x = h.ctx.trim) ∨
  (∃ h : Hold, s.grants[l].holder = some h ∧ h.who = .playback ∧
    (s.play.state = .cueing ∨ s.play.state = .ready) ∧ s.play.cueScale = some x) ∨
  (∃ i : Fin 4, s.safety.presence[i].asserted = true ∧ LaneSet.has s.safety.presence[i].lanes l = true ∧
    x = s.safety.presence[i].scale) ∨
  (∃ (z : ZoneNo) (r : ZoneRecord), s.safety.zones[z].record = some r ∧ (∃ i ∈ r.intervals, i.lane = l.val) ∧
    ((r.kind = .slow ∧ r.enabled = true ∧ (s.safety.zones[z].predicting = true ∨ s.safety.zones[z].breached = true)) ∨
      (r.kind = .keepOut ∧ s.safety.zones[z].exiting = true)) ∧ x = r.scale) ∨
  (s.rig.record.frozen = false ∧ x = 4096)

/-! ### Ticks (R27, R158, R159) -/

/-- The command issues the tick b of the Timebase's own frames: SERVO_TICK the next one of the frame, FRAME_START tick 0 of
the next frame (log 5). -/
def IssuesTick (c : Instr) (b : Timebase) (s : State) : Prop :=
  (c = .servoTick ∧ s.tb.started = true ∧ s.tb.t + 1 < s.tb.n ∧ b = { s.tb with t := s.tb.t + 1 }) ∨
    (c = .frameStart ∧ s.tb.lock ≠ .locked ∧ (s.tb.started = false ∨ s.tb.n ≤ s.tb.t + 1) ∧
      b = openFrame s.tb.ownTime (flywheelFrame (applySettings s.tb)))

/-- No drive's unanswered exchange will raise its DRIVE_FAULT at the next tick (R159). -/
def NoDriveFails (s : State) : Prop := ∀ l : Lane, s.missFaults l = true → s.lanes[l].condition = .parked

/-- Nothing waits for the array, and it is free. -/
def ArrayIdle (s : State) : Prop :=
  s.starting = false ∧ s.mem.op = none ∧ s.mem.reservedQueue = [] ∧ s.recorder.queue = [] ∧ s.playWantsRead = false

/-! ### Requests (sections 10.4 and 10.5) -/

/-- The frame of a request; none for a command that is no request. ABILITY is not one (R171). -/
def requestFrame : Instr → Option Rx
  | .powerUp _ _ | .startingEnd | .frameStart | .servoTick | .referencePulse _ | .overdueFrameStart | .missingPulse
  | .flywheelToSearch | .stallLimit | .deferMissed | .driveReply _ _ _ _ _ | .driveReplyMissing _ | .stopLineAssert
  | .stopLineDeassert | .releasePulse | .presenceAssert _ | .presenceDeassert _ | .protectLineChange _
  | .releaseWindowExpiry _ | .arrayReadDone | .programSampleDone _ | .chunkPartDone _ | .eraseDone _
  | .eraseSuspendDone _ | .eraseResumeDone | .reservedWriteDone _ | .idleFill _ _ | .abilityOffer _ | .ability _ _
  | .otherFrameInOffer _ | .discardedFrame _ | .negotiationDeadline _ _ | .failedTimeout _ _ _ | .linkSilence _ _
  | .leaveReplySent _ | .frameSent _ => none
  | .unknownRequest rx | .acquire rx _ | .yield rx _ | .demand rx _ | .trim rx _ | .stop rx _ | .query rx _
  | .takeFetch rx _ | .ping rx _ | .leave rx _ | .releaseAsk rx _ | .releaseAgree rx _ | .park rx _ | .unpark rx _
  | .profileLoad rx _ | .profileSelect rx _ | .shapeSet rx _ | .limitsSet rx _ | .timebaseSet rx _ | .zoneSet rx _
  | .zoneDrop rx _ | .presenceSet rx _ | .record rx _ | .mark rx _ | .recordEnd rx _ | .cue rx _ | .roll rx _
  | .segmentDone rx _ | .uncue rx _ | .takeProtect rx _ | .takeErase rx _ | .takeOpen rx _ | .stage rx _
  | .stageCommit rx _ | .takeClose rx _ | .takeDiscard rx _ | .takeStatusClear rx _ | .rigWrite rx _
  | .rigFreeze rx _ => some rx

/-- The roles a request is taken from: the table of section 10.5. No command but a request is in it. -/
def takenFrom : Instr → List Role
  | .unknownRequest _ | .acquire _ _ | .yield _ _ | .demand _ _ | .trim _ _ | .stop _ _ | .query _ _ | .takeFetch _ _
  | .ping _ _ | .leave _ _ => [.motion, .arm, .lens, .assist, .observer]
  | .releaseAsk _ _ | .releaseAgree _ _ => [.motion, .arm, .lens]
  | .park _ _ | .unpark _ _ => [.motion, .arm]
  | .profileLoad _ _ | .profileSelect _ _ => [.motion, .lens]
  | .shapeSet _ _ | .limitsSet _ _ | .timebaseSet _ _ | .zoneSet _ _ | .zoneDrop _ _ | .presenceSet _ _ | .record _ _
  | .mark _ _ | .recordEnd _ _ | .cue _ _ | .roll _ _ | .segmentDone _ _ | .uncue _ _ | .takeProtect _ _
  | .takeErase _ _ | .takeOpen _ _ | .stage _ _ | .stageCommit _ _ | .takeClose _ _ | .takeDiscard _ _
  | .takeStatusClear _ _ | .rigWrite _ _ | .rigFreeze _ _ => [.motion]
  | .powerUp _ _ | .startingEnd | .frameStart | .servoTick | .referencePulse _ | .overdueFrameStart | .missingPulse
  | .flywheelToSearch | .stallLimit | .deferMissed | .driveReply _ _ _ _ _ | .driveReplyMissing _ | .stopLineAssert
  | .stopLineDeassert | .releasePulse | .presenceAssert _ | .presenceDeassert _ | .protectLineChange _
  | .releaseWindowExpiry _ | .arrayReadDone | .programSampleDone _ | .chunkPartDone _ | .eraseDone _
  | .eraseSuspendDone _ | .eraseResumeDone | .reservedWriteDone _ | .idleFill _ _ | .abilityOffer _ | .ability _ _
  | .otherFrameInOffer _ | .discardedFrame _ | .negotiationDeadline _ _ | .failedTimeout _ _ _ | .linkSilence _ _
  | .leaveReplySent _ | .frameSent _ => []

/-- A body that decodes (R187). -/
def Decodes {α : Type} : Body α → Prop
  | .fields _ => True
  | .malformed => False

/-- The request's body decodes (R187). -/
def bodyDecodes : Instr → Prop
  | .acquire _ b => Decodes b
  | .yield _ b => Decodes b
  | .demand _ b => Decodes b
  | .trim _ b => Decodes b
  | .stop _ b => Decodes b
  | .query _ b => Decodes b
  | .takeFetch _ b => Decodes b
  | .ping _ b => Decodes b
  | .leave _ b => Decodes b
  | .releaseAsk _ b => Decodes b
  | .releaseAgree _ b => Decodes b
  | .park _ b => Decodes b
  | .unpark _ b => Decodes b
  | .profileLoad _ b => Decodes b
  | .profileSelect _ b => Decodes b
  | .shapeSet _ b => Decodes b
  | .limitsSet _ b => Decodes b
  | .timebaseSet _ b => Decodes b
  | .zoneSet _ b => Decodes b
  | .zoneDrop _ b => Decodes b
  | .presenceSet _ b => Decodes b
  | .record _ b => Decodes b
  | .mark _ b => Decodes b
  | .recordEnd _ b => Decodes b
  | .cue _ b => Decodes b
  | .roll _ b => Decodes b
  | .segmentDone _ b => Decodes b
  | .uncue _ b => Decodes b
  | .takeProtect _ b => Decodes b
  | .takeErase _ b => Decodes b
  | .takeOpen _ b => Decodes b
  | .stage _ b => Decodes b
  | .stageCommit _ b => Decodes b
  | .takeClose _ b => Decodes b
  | .takeDiscard _ b => Decodes b
  | .takeStatusClear _ b => Decodes b
  | .rigWrite _ b => Decodes b
  | .rigFreeze _ b => Decodes b
  | .powerUp _ _ | .startingEnd | .frameStart | .servoTick | .referencePulse _ | .overdueFrameStart | .missingPulse
  | .flywheelToSearch | .stallLimit | .deferMissed | .driveReply _ _ _ _ _ | .driveReplyMissing _ | .stopLineAssert
  | .stopLineDeassert | .releasePulse | .presenceAssert _ | .presenceDeassert _ | .protectLineChange _
  | .releaseWindowExpiry _ | .arrayReadDone | .programSampleDone _ | .chunkPartDone _ | .eraseDone _
  | .eraseSuspendDone _ | .eraseResumeDone | .reservedWriteDone _ | .idleFill _ _ | .abilityOffer _ | .ability _ _
  | .otherFrameInOffer _ | .discardedFrame _ | .negotiationDeadline _ _ | .failedTimeout _ _ _ | .linkSilence _ _
  | .leaveReplySent _ | .frameSent _ | .unknownRequest _ => True

/-- The port judges the frame as a request (R171, R177, R179): its link is ACTIVE, LEAVE has not been taken, and its
reply path has room. -/
def Takes (rx : Rx) (s : State) : Prop :=
  s.isActive rx.port = true ∧ s.ports[rx.port].leaving = false ∧ countedReplies s.ports[rx.port] < 8

/-- The request comes from the MOTION station. -/
def TakesMotion (rx : Rx) (s : State) : Prop := Takes rx s ∧ s.ports[rx.port].role = some .motion

/-- The state with the answer at the end of the port's reply path, after the scheduler and the transmitters have made
their choices (R81, R179, R180). -/
def replied (rx : Rx) (a : Answer) (s : State) : State := settle (pushReply rx.port (a.reply rx.tag .ordinary) s)

end Sys2Proof.Machine
end

