-- ==== Sys2Proof/WellFormed.lean ====
section
/-! DEFINITION. Well-formed commands: every operand a station sends fits the width R186 and R190 give its field, and a
drive's count is in the range of a position (spec/00_scope.md, Units and ranges). -/

namespace Sys2Proof

/-- A value of n unsigned bytes. -/
def fits (n x : Nat) : Bool := x < 256 ^ n
/-- A value of n bytes in two's complement. -/
def fitsInt (n : Nat) (x : Int) : Bool := -(128 * 256 ^ (n - 1) : Nat) ≤ x && x < (128 * 256 ^ (n - 1) : Nat)
/-- An optional value that is absent or satisfies f. -/
def optFits {α : Type} (f : α → Bool) : Option α → Bool
  | none => true
  | some a => f a
/-- A list whose count fits one byte, each entry satisfying f. -/
def listFits {α : Type} (f : α → Bool) (xs : List α) : Bool := xs.length < 256 && xs.all f
/-- At most 16 printable characters (R186). -/
def nameFits (n : Name) : Bool := n.length ≤ 16 && n.all fun c => 0x20 ≤ c.toNat && c.toNat ≤ 0x7E
/-- A start: a frame number that is not 0, which means NEXT (R186). -/
def startFits (st : Option Nat) : Bool := optFits (fun f => 1 ≤ f && fits 8 f) st

def Body.wf {α : Type} (f : α → Bool) : Body α → Bool
  | .fields a => f a
  | .malformed => true

def DemandEntry.wf (e : DemandEntry) : Bool := fits 1 e.lane && fitsInt 8 e.value
def TrimEntry.wf (e : TrimEntry) : Bool := fits 1 e.lane && fits 4 e.scale
def FetchArgs.wf (a : FetchArgs) : Bool := fits 1 a.slot && fits 2 a.first && fits 1 a.count
def Breakpoint.wf (b : Breakpoint) : Bool := fits 4 b.u && fitsInt 8 b.p
def Profile.wf (p : Profile) : Bool :=
  fits 2 p.tag && nameFits p.name && optFits (listFits Breakpoint.wf) p.focus && optFits (listFits Breakpoint.wf) p.iris &&
    optFits (listFits Breakpoint.wf) p.zoom
def ProfileLoadArgs.wf (a : ProfileLoadArgs) : Bool := fits 1 a.slot && a.profile.wf
def ShapeArgs.wf (a : ShapeArgs) : Bool :=
  fits 1 a.lane && optFits (fits 4) a.vmax && optFits (fits 4) a.a && optFits (fits 4) a.astop && optFits (fits 4) a.k &&
    optFits (fits 4) a.trackTol && optFits (fits 4) a.followLimit
def LimitsArgs.wf (a : LimitsArgs) : Bool := fits 1 a.lane && fitsInt 8 a.min && fitsInt 8 a.max
def TimebaseArgs.wf (a : TimebaseArgs) : Bool := optFits (fits 1) a.n && optFits (fits 4) a.period
def Interval.wf (i : Interval) : Bool := fits 1 i.lane && fitsInt 8 i.low && fitsInt 8 i.high
def ZoneSetArgs.wf (a : ZoneSetArgs) : Bool :=
  fits 1 a.entry && fits 4 a.record.scale && listFits Interval.wf a.record.intervals
def PresenceArgs.wf (a : PresenceArgs) : Bool := fits 1 a.line && fits 4 a.scale
def RecordArgs.wf (a : RecordArgs) : Bool := fits 1 a.slot && nameFits a.name && startFits a.start
def CueArgs.wf (a : CueArgs) : Bool := fits 1 a.slot && optFits (fits 4) a.scale
def ProtectArgs.wf (a : ProtectArgs) : Bool := fits 1 a.slot
def OpenArgs.wf (a : OpenArgs) : Bool :=
  fits 1 a.slot && nameFits a.name && fits 1 a.n && fits 4 a.period && fits 2 a.lensTag
def StagedSample.wf (x : StagedSample) : Bool := fits 2 x.offset && listFits (fitsInt 8) x.pos
def RigEntry.wf (e : RigEntry) : Bool :=
  fits 1 e.lane && optFits (fitsInt 8) e.hardMin && optFits (fitsInt 8) e.hardMax && optFits (fits 4) e.vmaxCeil &&
    optFits (fits 4) e.aCeil && optFits (fits 4) e.astopFloor && optFits (fits 4) e.followCeil && optFits (fits 4) e.defVmax &&
    optFits (fits 4) e.defA && optFits (fits 4) e.defAstop && optFits (fits 4) e.defK
def RigArgs.wf (a : RigArgs) : Bool := optFits (fits 4) a.identity && listFits RigEntry.wf a.entries

/-- 2^30: a drive count times 256 is a position (spec/00_scope.md). -/
def countFits (c : Int) : Bool := -(2 ^ 30 : Nat) ≤ c && c ≤ (2 ^ 30 : Nat)

/-- The command's operands fit. -/
def Instr.wf : Instr → Bool
  | .powerUp _ _ => true
  | .startingEnd => true
  | .frameStart => true
  | .servoTick => true
  | .referencePulse _ => true
  | .overdueFrameStart => true
  | .missingPulse => true
  | .flywheelToSearch => true
  | .stallLimit => true
  | .deferMissed => true
  | .driveReply _ _ _ _ count => countFits count
  | .driveReplyMissing _ => true
  | .stopLineAssert => true
  | .stopLineDeassert => true
  | .releasePulse => true
  | .presenceAssert _ => true
  | .presenceDeassert _ => true
  | .protectLineChange _ => true
  | .releaseWindowExpiry _ => true
  | .arrayReadDone => true
  | .programSampleDone _ => true
  | .chunkPartDone _ => true
  | .eraseDone _ => true
  | .eraseSuspendDone _ => true
  | .eraseResumeDone => true
  | .reservedWriteDone _ => true
  | .idleFill _ _ => true
  | .abilityOffer _ => true
  | .ability _ _ => true
  | .otherFrameInOffer _ => true
  | .discardedFrame _ => true
  | .negotiationDeadline _ _ => true
  | .failedTimeout _ _ _ => true
  | .linkSilence _ _ => true
  | .leaveReplySent _ => true
  | .frameSent _ => true
  | .unknownRequest _ => true
  | .acquire _ _ => true
  | .yield _ _ => true
  | .demand _ b => b.wf (listFits DemandEntry.wf)
  | .trim _ b => b.wf (listFits TrimEntry.wf)
  | .stop _ _ => true
  | .query _ _ => true
  | .takeFetch _ b => b.wf FetchArgs.wf
  | .ping _ _ => true
  | .leave _ _ => true
  | .releaseAsk _ _ => true
  | .releaseAgree _ _ => true
  | .park _ _ => true
  | .unpark _ _ => true
  | .profileLoad _ b => b.wf ProfileLoadArgs.wf
  | .profileSelect _ b => b.wf (optFits (fits 1))
  | .shapeSet _ b => b.wf ShapeArgs.wf
  | .limitsSet _ b => b.wf LimitsArgs.wf
  | .timebaseSet _ b => b.wf TimebaseArgs.wf
  | .zoneSet _ b => b.wf ZoneSetArgs.wf
  | .zoneDrop _ b => b.wf (fits 1)
  | .presenceSet _ b => b.wf PresenceArgs.wf
  | .record _ b => b.wf RecordArgs.wf
  | .mark _ _ => true
  | .recordEnd _ _ => true
  | .cue _ b => b.wf CueArgs.wf
  | .roll _ b => b.wf startFits
  | .segmentDone _ _ => true
  | .uncue _ _ => true
  | .takeProtect _ b => b.wf ProtectArgs.wf
  | .takeErase _ b => b.wf (fits 1)
  | .takeOpen _ b => b.wf OpenArgs.wf
  | .stage _ b => b.wf (listFits StagedSample.wf)
  | .stageCommit _ _ => true
  | .takeClose _ _ => true
  | .takeDiscard _ _ => true
  | .takeStatusClear _ _ => true
  | .rigWrite _ b => b.wf RigArgs.wf
  | .rigFreeze _ _ => true

end Sys2Proof
end

