-- ==== Sys2Proof/Certificates/Slice0/Obligations.lean ====
section
/-! DEFINITION. The statements for the provers, from the numbered rules of spec/, family by family. Where a statement ends in
`settle`, the scheduler and the transmitters have made their choices (R81, R180); `SettleTouchesOnlyArrayWork` says what
that can change, and with it each equation is a frame: what the named updates do not write is unchanged. -/

open Sys2Proof Sys2Proof.Machine

/-! ### The machine -/

/-- A step takes the command at the front of the queue and runs it with the queue's rest. The second clause is the model's
choice (log 2): with no command waiting a step changes nothing. -/
def Obligations.StepRunsTheFrontCommand : Prop :=
  (∀ (c : Instr) (rest : List Instr) (s : State), s.pending = c :: rest → step s = exec c (s.setPending rest)) ∧
    ∀ s : State, s.pending = [] → step s = .next s

/-- No command touches the queue of the commands that wait. -/
def Obligations.ExecLeavesTheQueue : Prop :=
  ∀ (c : Instr) (s t : State), exec c s = .next t → t.pending = s.pending

/-- What the end of a command can touch (R81, R180): array work begins, a reserved-area write leaves its queue, a
recording or an upload that finds no FREE block ends, and transmitters choose. The clock, the lanes, the grants, the
playback, the stops, the drives, the contents of the profiles and of the rig record and their stored copies stay; of a port
only its events, its telemetry and what it sends change; the data of every block in use stays; with the array busy or in
STARTING nothing of the take memory changes. -/
def Obligations.SettleTouchesOnlyArrayWork : Prop :=
  ∀ s : State, let t := settle s
    t.starting = s.starting ∧ t.tb = s.tb ∧ t.lanes = s.lanes ∧ t.grants = s.grants ∧ t.nextArrival = s.nextArrival ∧
      t.play = s.play ∧ t.safety = s.safety ∧ t.drives = s.drives ∧ t.powerLosses = s.powerLosses ∧
      t.pending = s.pending ∧ t.lens.active = s.lens.active ∧
      (∀ k : ProfileNo, t.lens.slots[k].profile = s.lens.slots[k].profile) ∧
      t.rig = { s.rig with store := t.rig.store } ∧
      (∀ p : Port, t.ports[p] = { s.ports[p] with
          events := t.ports[p].events
          eventsLost := t.ports[p].eventsLost
          telemetry := t.ports[p].telemetry
          sending := t.ports[p].sending } ∧
        s.ports[p].events <+: t.ports[p].events ∧ (s.ports[p].eventsLost = true → t.ports[p].eventsLost = true) ∧
        (s.ports[p].link ≠ .active ∨ s.ports[p].sending.isSome = true →
          t.ports[p].telemetry = s.ports[p].telemetry ∧ t.ports[p].sending = s.ports[p].sending)) ∧
      (s.recorder.queue = [] → t.recorder = s.recorder) ∧
      (s.uploadSlot = none → t.mem.upload = s.mem.upload ∧ t.mem.buffers = s.mem.buffers) ∧
      t.mem.fetches = s.mem.fetches ∧ t.mem.programFail = s.mem.programFail ∧ t.mem.eraseFail = s.mem.eraseFail ∧
      t.mem.chunkReject = s.mem.chunkReject ∧ t.mem.protectClosed = s.mem.protectClosed ∧
      t.mem.nextCommit = s.mem.nextCommit ∧ t.mem.stored = { s.mem.stored with blocks := t.mem.stored.blocks } ∧
      (∀ b : BlockNo, s.mem.blocks[b].state ≠ .free → t.mem.blocks[b].data = s.mem.blocks[b].data) ∧
      (∀ i : SlotNo, s.recorder.slot ≠ some i → s.mem.slots[i].state ≠ .uploading →
        t.mem.slots[i] = { s.mem.slots[i] with released := t.mem.slots[i].released }) ∧
      (s.starting = true ∨ s.mem.op.isSome = true → t.mem = s.mem ∧ t.recorder = s.recorder)

/-! ### Invariants that every step keeps -/

/-- The invariants below hold right after reset. -/
def Obligations.ResetMeetsTheInvariants : Prop :=
  SpeedBound State.reset ∧ StopAccel State.reset ∧ ScaleBound State.reset ∧ AbsentZero State.reset ∧
    LimitsOrdered State.reset ∧ Rest State.reset ∧ OutputsFollow State.reset ∧ CausesWf State.reset ∧
    ReleaseWf State.reset ∧ PowerInRun State.reset ∧ PlayInRun State.reset ∧ EventsBound State.reset ∧
    RepliesBound State.reset ∧ WriteQueueBound State.reset ∧ TakesWf State.reset ∧ PortsWf State.reset ∧
    OneMotion State.reset ∧ StartingDown State.reset ∧ GrantsWf State.reset ∧ GrantsActive State.reset ∧
    TimebaseWf State.reset

/-- R1, R9, R13, R14, R21, R165: no command makes a lane's |V| exceed its Vmax, takes its Astop below its A or its effective
scale beyond 65536, moves an absent lane's record off zero, or disorders the hard limits or a present lane's soft limits
within them. -/
def Obligations.EveryStepKeepsTheSpeedBound : Prop :=
  ∀ s t : State, step s = .next t →
    (SpeedBound s → SpeedBound t) ∧ (StopAccel s → StopAccel t) ∧ (ScaleBound s → ScaleBound t) ∧
      (AbsentZero s → AbsentZero t) ∧ (LimitsOrdered s → LimitsOrdered t)

/-- R3, R18: a lane that is not stepped has V = 0, and in STOPPED and RELEASING every lane has. -/
def Obligations.EveryStepKeepsStoppedLanesAtRest : Prop :=
  ∀ s t : State, ReleaseWf s → Rest s → step s = .next t → Rest t

/-- R149, R162: both outputs of a lane are asserted exactly while drive power is ON and the lane is ACTIVE. -/
def Obligations.EveryStepKeepsTheOutputs : Prop :=
  ∀ s t : State, OutputsFollow s → step s = .next t → OutputsFollow t

/-- R137, R144 to R149, R153: the cause set is empty exactly in RUN and has no duplicate, the release record exists
exactly in RELEASING, drive power is ON in RUN and STOPPING, and a playback is active only in RUN. -/
def Obligations.EveryStepKeepsTheStopStateConsistent : Prop :=
  ∀ s t : State, CausesWf s → ReleaseWf s → PowerInRun s → PlayInRun s → step s = .next t →
    CausesWf t ∧ ReleaseWf t ∧ PowerInRun t ∧ PlayInRun t

/-- R75, R77, R79, R84, R103 to R105, R107, R179, R181: no command overfills an event queue, a reply path or the write queue.
A USED block stays in exactly one take's block list and no other block in any, at most one block is ERASING, no erase
progresses while a recording or a playback is active, and the operation in progress, the EMPTY slots and the Recorder's slot
stay in agreement with them. -/
def Obligations.EveryStepKeepsTheQueuesBounded : Prop :=
  ∀ s t : State, step s = .next t →
    (EventsBound s → RepliesBound s → WriteQueueBound s → EventsBound t ∧ RepliesBound t ∧ WriteQueueBound t) ∧
      (TakesWf s → TakesWf t)

/-- R38, R170, R173: an ACTIVE port stands at its role's level, a port that is DOWN, in OFFER or FAILED has no role, at
most one port holds the MOTION role, and every port is DOWN while the part is STARTING. -/
def Obligations.EveryStepKeepsOneMotionStation : Prop :=
  ∀ s t : State, step s = .next t →
    (PortsWf s → OneMotion s → PortsWf t ∧ OneMotion t) ∧ (StartingDown s → StartingDown t)

/-- R40, R47: a station stands at most once on a lane, stack levels strictly increase from the holder down, a lane with a
waiting entry has a holder, no waiting entry is stronger than it, and only a station whose link is ACTIVE has a place. -/
def Obligations.EveryStepKeepsTheGrantTable : Prop :=
  ∀ s t : State, PortsWf s → GrantsWf s → GrantsActive s → step s = .next t → GrantsWf t ∧ GrantsActive t

/-- R26, R27, R35: N, the tick index (0 to N - 1), the periods and the counts stay in their ranges, also in a pending
TIMEBASE SET, and a lock state is held in REFERENCED mode only. -/
def Obligations.EveryStepKeepsTheTimebaseRanges : Prop :=
  ∀ s t : State, TimebaseWf s → step s = .next t → TimebaseWf t

/-! ### Frames and records on the wire -/

/-- R184, R185: the receiver reads back every frame of the envelope's layout, and goes on with what follows it. -/
def Obligations.FrameEnvelopeRoundTrip : Prop :=
  ∀ (port : Port) (time n : Nat) (kind : Byte) (tag : Word16) (body rest : List Byte), body.length ≤ 2048 →
    receive port time (n + 1) (encFrame kind tag body ++ rest) =
      frameCommand { port := port, tag := tag, time := time } kind body :: receive port time n rest

/-- R186, R190: the bytes of a zone record, a presence entry and a lens profile decode to what they encode, for every
record whose fields fit their widths. -/
def Obligations.RecordBodiesRoundTrip : Prop :=
  (∀ a : ZoneSetArgs, a.wf = true → decodeBody getZoneSet (encZone a.entry a.record) = .fields a) ∧
    (∀ a : PresenceArgs, a.wf = true →
      decodeBody getPresence (encPresence a.line { lanes := a.lanes, scale := a.scale, asserted := false }) = .fields a) ∧
    (∀ a : ProfileLoadArgs, a.wf = true → a.profile.focus ≠ some [] → a.profile.iris ≠ some [] →
      a.profile.zoom ≠ some [] → decodeBody getProfileLoad (encProfile a.slot a.profile) = .fields a)

/-! ### What a request meets (sections 10.2 and 10.5) -/

/-- Section 10.5: a request from a role it is not taken from is refused NO_RIGHT; nothing but the port changes. -/
def Obligations.RequestFromAnotherRoleIsRefused : Prop :=
  ∀ (c : Instr) (rx : Rx) (r : Role) (s : State), requestFrame c = some rx → bodyDecodes c → Takes rx s →
    s.ports[rx.port].role = some r → r ∉ takenFrom c →
      exec c s = .next (replied rx (Answer.refused .noRight) (noteValid rx s))

/-- R187: a request whose body does not decode is refused BAD_VALUE as a whole. -/
def Obligations.MalformedRequestIsRefused : Prop :=
  ∀ (c : Instr) (rx : Rx) (s : State), requestFrame c = some rx → ¬ bodyDecodes c → Takes rx s →
    exec c s = .next (replied rx (Answer.refused .badValue) (noteValid rx s))

/-- R177, R179: a request after LEAVE is discarded; one that finds 8 REPLYs in the reply path is discarded and latches
REQUESTS_LOST. R171: in DOWN, ACKNOWLEDGE and FAILED it is discarded. Its arrival time is kept in every case. -/
def Obligations.RequestIsDiscarded : Prop :=
  ∀ (c : Instr) (rx : Rx) (s : State), requestFrame c = some rx →
    (s.ports[rx.port].link = .active → s.ports[rx.port].leaving = true →
      exec c s = .next (settle (noteValid rx s))) ∧
    (s.ports[rx.port].link = .active → s.ports[rx.port].leaving = false → 8 ≤ countedReplies s.ports[rx.port] →
      exec c s = .next (settle ((noteValid rx s).setPort rx.port fun q => { q with requestsLost := true }))) ∧
    (s.ports[rx.port].link = .down ∨ s.ports[rx.port].link = .acknowledge ∨ s.ports[rx.port].link = .failed →
      exec c s = .next (settle (noteValid rx s)))

/-- R175: in OFFER the third valid frame in a row that is no ABILITY makes the port ACTIVE as OBSERVER, unanswered; an
earlier one raises the other run and clears the ability run. OTHER_FRAME_IN_OFFER is such a frame of any kind. -/
def Obligations.ThirdOtherFrameAdmitsAnObserver : Prop :=
  ∀ (c : Instr) (rx : Rx) (s : State), requestFrame c = some rx ∨ c = .otherFrameInOffer rx →
    s.ports[rx.port].link = .offer → ∃ t, exec c s = .next t ∧ t.ports[rx.port].lastValid = some rx.time ∧
      t.ports[rx.port].otherRun = s.ports[rx.port].otherRun + 1 ∧ t.ports[rx.port].abilityRole = none ∧
      t.ports[rx.port].abilityCount = 0 ∧
      (2 ≤ s.ports[rx.port].otherRun → t.ports[rx.port].link = .active ∧ t.ports[rx.port].role = some .observer ∧
        t.ports[rx.port].level = none ∧ t.ports[rx.port].replies = [] ∧ t.ports[rx.port].eventsLost = false) ∧
      (s.ports[rx.port].otherRun < 2 → t.ports[rx.port].link = .offer ∧ t.ports[rx.port].replies = s.ports[rx.port].replies)

/-! ### What the ports send -/

/-- R180: a free transmitter of an ACTIVE port takes the telemetry waiting, then the oldest REPLY, then the oldest event; a
busy one changes nothing. That telemetry leaves the waiting place when its sending begins, reporting EVENTS_LOST as it
stands then, is the model's reading (log 31). R98, R177, R180, R181, FRAME_SENT: a sent event leaves its queue, a sent REPLY
of one frame leaves its path, and a sent TELEMETRY frame clears the EVENTS_LOST it reported; a longer REPLY stays until its
last frame. The last frame of a fetch's REPLY ends the fetch; the last frame of the answer to LEAVE takes the link down, as
LEAVE_REPLY_SENT does (log 19). With no frame being sent FRAME_SENT is no event (log 4). R37, R169, R182: a frame start
(with its tick: log 5) leaves every ACTIVE port one TELEMETRY frame waiting, in place of any that waits and with its
EVENTS_LOST carried on. It carries the clock, the committed lanes and the holders whose demands the step followed, and, with
no zone in the table, the stops, the units, the events and the outputs as they then stand. -/
def Obligations.TransmitterTakesAndSends : Prop :=
  (∀ q : StationPort, q.link = .active →
    (q.sending.isSome = true → pumpPort q = q) ∧
      (q.sending = none →
        (∀ x, q.telemetry = some x → pumpPort q = { q with
          telemetry := none
          sending := some (.telemetry { x with eventsLost := x.eventsLost || q.eventsLost }) }) ∧
        (q.telemetry = none → q.replies ≠ [] → pumpPort q = { q with sending := some .reply }) ∧
        (q.telemetry = none → q.replies = [] → q.events ≠ [] → pumpPort q = { q with sending := some .event }) ∧
        (q.telemetry = none → q.replies = [] → q.events = [] → pumpPort q = q))) ∧
  (∀ (time : Nat) (s : State) (p : Port), let t := beginFrame time s
    let g := (playBefore (openWork time s)).grants
    let q := t.ports[p]
    (s.ports[p].link ≠ .active → q.telemetry = s.ports[p].telemetry) ∧
    (s.ports[p].link = .active → ∃ x, q.telemetry = some x ∧ q.sending = s.ports[p].sending ∧
      (s.ports[p].eventsLost = true ∨ (∃ y, s.ports[p].telemetry = some y ∧ y.eventsLost = true) → x.eventsLost = true) ∧
      x.f = t.tb.f ∧ x.mode = t.tb.mode ∧ x.lock = t.tb.lock ∧ x.n = t.tb.n ∧ x.workingPeriod = t.tb.workingPeriod ∧
      x.flywheelCount = t.tb.flywheelCount ∧ x.role = s.ports[p].role ∧ x.stopLine = s.safety.stopLine ∧
      (∀ i : Fin 4, x.presence[i] = s.safety.presence[i].asserted) ∧ x.parked = s.drives.parked ∧
      x.frozen = s.rig.record.frozen ∧ x.freezePending = s.rig.freezePending ∧ x.programFail = s.mem.programFail ∧
      x.eraseFail = s.mem.eraseFail ∧ x.chunkReject = s.mem.chunkReject ∧
      (∀ l : Lane, let v := x.lanes[l]
        v.present = t.lanes[l].present ∧ v.p = t.lanes[l].p ∧ v.v = t.lanes[l].v ∧ v.sEff = t.lanes[l].sEff ∧
          v.condition = t.lanes[l].condition ∧ v.limitClip = t.lanes[l].limitClip ∧ v.capped = t.lanes[l].capped ∧
          v.holder = g[l].holder.map (fun h => h.who) ∧ v.status = t.drives.channels[l].status ∧
          v.lensValue = t.lensValue l ∧ (t.lanes[l].present = false → v.lensValue = none)) ∧
      ((∀ z : ZoneNo, s.safety.zones[z].record = none) →
        x.stop = t.safety.stop ∧ x.causes = t.safety.causes ∧ x.drivePower = t.safety.drivePower ∧
          x.asker = t.safety.release.map (fun r => r.asker) ∧ x.eventDepth = q.events.length ∧
          (x.eventsLost = true → q.eventsLost = true ∨ ∃ y, s.ports[p].telemetry = some y ∧ y.eventsLost = true) ∧
          (∀ l : Lane, x.lanes[l].outputs = (t.drives.channels[l].enable && t.drives.channels[l].brake)) ∧
          x.playState = t.play.state ∧ x.playSlot = t.play.slot ∧ x.spoiled = t.play.spoiled ∧
          x.stallCount = t.play.stallCount ∧ x.readAhead = t.play.buffer.length ∧
          (t.play.state = .rolling → x.k = t.play.k) ∧ (t.play.state = .deferred → x.k = t.play.deferIndex ∧
            x.r = t.play.resumeIndex) ∧ (t.play.state ≠ .deferred → x.r = none) ∧
          x.recState = t.recorder.state ∧ x.recSlot = t.recorder.slot ∧ x.composed = t.recorder.composed ∧
          x.queueDepth = t.recorder.queue.length ∧ x.spanOpen = t.recorder.spanOpen ∧
          x.endPending = t.recorder.endPending))) ∧
  ∀ (p : Port) (s : State),
    (s.ports[p].sending = some .event → exec (.frameSent p) s =
      .next (settle (s.setPort p fun q => { q with sending := none, events := q.events.tail }))) ∧
    (∀ x, s.ports[p].sending = some (.telemetry x) → exec (.frameSent p) s =
      .next (settle (s.setPort p fun q => { q with sending := none, eventsLost := q.eventsLost && !x.eventsLost }))) ∧
    (s.ports[p].sending = none → exec (.frameSent p) s = .next (settle s)) ∧
    ∀ r rest, s.ports[p].sending = some .reply → s.ports[p].replies = r :: rest →
      let sent := s.setPort p fun q => { q with sending := none, replies := rest }
      (replyFrameCount r ≤ r.framesSent + 1 →
        (r.kind = .ordinary → exec (.frameSent p) s = .next (settle sent)) ∧
        (r.kind = .fetch → exec (.frameSent p) s = .next (settle (sent.setMem { s.mem with
          fetches := s.mem.fetches.filter fun f => f.port ≠ p
          op := match s.mem.op with
            | some (.read i n (.fetch q)) => some (.read i n (if q = p then .dropped else .fetch q))
            | o => o }))) ∧
        (r.kind = .leave → exec (.frameSent p) s = exec (.leaveReplySent p) s)) ∧
      (r.framesSent + 1 < replyFrameCount r → exec (.frameSent p) s =
        .next (settle (s.setPort p fun q =>
          { q with sending := none, replies := { r with framesSent := r.framesSent + 1 } :: rest })))

/-- R181: an event raised for an audience is placed once, at the end of the queue, for each ACTIVE port of it; a queue of 16
drops it and sets that port's EVENTS_LOST. Other ports and the rest of the part are untouched. -/
def Obligations.EventIsPlacedForItsAudience : Prop :=
  ∀ (aud : Port → Bool) (body : EventBody) (s : State), let t := raiseFor aud body s
    (∀ p : Port, s.ports[p].link = .active → aud p = true → s.ports[p].events.length < 16 →
      t.ports[p].events = s.ports[p].events ++ [{ f := s.tb.f, t := s.tb.t, body := body }] ∧
        t.ports[p].eventsLost = s.ports[p].eventsLost) ∧
    (∀ p : Port, s.ports[p].link = .active → aud p = true → 16 ≤ s.ports[p].events.length →
      t.ports[p].events = s.ports[p].events ∧ t.ports[p].eventsLost = true) ∧
    (∀ p : Port, s.ports[p].link ≠ .active ∨ aud p = false → t.ports[p] = s.ports[p]) ∧ t.setPorts s.ports = s

/-! ### Power-up and the end of STARTING -/

/-- R1, R23, R26, R40, R63, R66, R87, R103, R114, R137, R157, R165, R170: a power-up starts every block from its power-up
values, the lines as read and the lanes from the rig record that the reserved area holds, or from the blank record. A
profile that reads back whole and valid is kept, but where a lower slot that does has its non-zero tag. The Timebase's clauses
fix fields of the model as well (logs 6, 9 and 12), and what does not read back whole comes with the command (log 14). -/
def Obligations.PowerUpStartsEveryBlock : Prop :=
  ∀ (lines : LineStates) (d : Damage) (s : State), ∃ t, exec (.powerUp lines d) s = .next t ∧
    t.starting = true ∧ t.pending = s.pending ∧
    t.tb = { mode := .internal, lock := .none, n := 20, internalPeriod := 40000, workingPeriod := 40000, f := 0, t := 0,
             runCount := 0, flywheelCount := 0, lastPulse := none, prevInterval := none, pendingSettings := none,
             started := false, lastChance := false, frameTime := 0 } ∧
    (∀ l : Lane, t.grants[l] = { holder := none, stack := [], waiting := [] }) ∧
    t.recorder.state = .idle ∧ t.recorder.slot = none ∧ t.recorder.queue = [] ∧ t.recorder.composed = 0 ∧
    t.play.state = .idle ∧ t.play.participation = 0 ∧ t.play.buffer = [] ∧ t.play.spoiled = false ∧
    t.lens.active = none ∧
    (∀ k : ProfileNo, t.lens.slots[k] = { profile := Profile.empty, store := .failed } ∨
      (k ∉ d.profiles ∧ ∃ p, s.mem.stored.profiles[k] = some p ∧ t.lens.slots[k] = { profile := p, store := .stored })) ∧
    (∀ (k : ProfileNo) (p : Profile), k ∉ d.profiles → s.mem.stored.profiles[k] = some p → profileValid p = true →
      ((p.tag = 0 ∨ ∀ (j : ProfileNo) (q : Profile), j < k → j ∉ d.profiles → s.mem.stored.profiles[j] = some q →
          profileValid q = true → q.tag ≠ p.tag) → t.lens.slots[k] = { profile := p, store := .stored }) ∧
      ((p.tag ≠ 0 ∧ ∃ (j : ProfileNo) (q : Profile), j < k ∧ j ∉ d.profiles ∧ s.mem.stored.profiles[j] = some q ∧
          profileValid q = true ∧ q.tag = p.tag) → t.lens.slots[k] = { profile := Profile.empty, store := .failed })) ∧
    (∀ k : ProfileNo, k ∈ d.profiles ∨ s.mem.stored.profiles[k] = none ∨
        (∃ p, s.mem.stored.profiles[k] = some p ∧ profileValid p = false) →
      t.lens.slots[k] = { profile := Profile.empty, store := .failed }) ∧
    t.mem.op = none ∧ t.mem.fetches = [] ∧ t.mem.reservedQueue = [] ∧ t.mem.programFail = false ∧
    t.mem.eraseFail = false ∧ t.mem.chunkReject = false ∧ t.mem.protectClosed = lines.protectClosed ∧
    t.safety.stop = .stopped ∧ t.safety.drivePower = false ∧ t.safety.release = none ∧ t.safety.stopLine = lines.stop ∧
    t.safety.causes = { kind := .powerUp, f := 0, t := 0 } ::
      (if lines.stop then [{ kind := .stopLine, f := 0, t := 0 }] else []) ∧
    (∀ z : ZoneNo, t.safety.zones[z] = { record := none, predicting := false, breached := false, exiting := false }) ∧
    (∀ i : Fin 4, t.safety.presence[i] = { lanes := 0, scale := 65536, asserted := lines.presence[i] }) ∧
    t.drives.parked = false ∧
    (∀ l : Lane, t.drives.channels[l].lastSent = none ∧ t.drives.channels[l].latestCount = none ∧
      t.drives.channels[l].status = .missing ∧ t.drives.channels[l].missing = 0 ∧
      t.drives.channels[l].faultReported = false ∧ t.drives.channels[l].enable = false ∧
      t.drives.channels[l].brake = false ∧ t.drives.channels[l].settled = false) ∧
    (∀ p : Port, t.ports[p].link = .down ∧ t.ports[p].role = none ∧ t.ports[p].level = none ∧
      t.ports[p].lastValid = none ∧ t.ports[p].linkLost = false ∧ t.ports[p].checkError = false ∧
      t.ports[p].requestsLost = false ∧ t.ports[p].events = [] ∧ t.ports[p].eventsLost = false ∧
      t.ports[p].replies = [] ∧ t.ports[p].telemetry = none) ∧
    (∀ r, d.rig = false → s.mem.stored.rig = some r →
      t.rig = { record := r, store := .stored, freezePending := false }) ∧
    (d.rig = true ∨ s.mem.stored.rig = none →
      t.rig.store = .failed ∧ t.rig.freezePending = false ∧ t.rig.record.frozen = false ∧ t.rig.record.identity = 0 ∧
        t.rig.record.presentSet = 0 ∧ ∀ l : Lane, t.rig.record.lanes[l] =
          { hardMin := 0, hardMax := 0, vmaxCeil := 1, aCeil := 1, astopFloor := 1, followCeil := 1, defVmax := 1,
            defA := 1, defAstop := 1, defK := 1 }) ∧
    (∀ l : Lane, LaneSet.has t.rig.record.presentSet l = true → let r := t.rig.record.lanes[l]
      t.lanes[l] = { present := true, condition := .active, p := 0, v := 0, t := 0, softMin := r.hardMin,
                     softMax := r.hardMax, vmax := r.defVmax, a := r.defA, astop := max r.defAstop r.defA, k := r.defK,
                     trackTol := 4096, followLimit := r.followCeil, sEff := 0, limitClip := false, capped := false }) ∧
    (∀ l : Lane, LaneSet.has t.rig.record.presentSet l = false →
      t.lanes[l].present = false ∧ t.lanes[l].p = 0 ∧ t.lanes[l].v = 0 ∧ t.lanes[l].t = 0 ∧ t.lanes[l].softMin = 0 ∧
        t.lanes[l].softMax = 0)

/-- R76, R77, R88, R100, R101: the power-up scan keeps the data of every block. A block that does not read back whole, an
ERASING one and a USED one that no take keeps are DIRTY, or BAD with a retire mark; every other stays as stored. A stored
COMPLETE or TRUNCATED take whose blocks hold as many whole samples as its header counts is kept, locked and not locked down,
with its blocks in the order of their places: a COMPLETE one with all of them, a TRUNCATED one with none beyond its last
whole sample (the last of its length: log 49); a RECORDING one is TRUNCATED, interrupted, with the whole samples counted and
the blocks that hold them; every other slot is EMPTY. The count takes whole samples in sequence, and the blocks kept are the
fewest that hold a number of them. What does not read back whole comes with the command (log 14), and a sample whose PROGRAM the power
loss interrupted is lost (log 13). -/
def Obligations.PowerUpSettlesTheTakes : Prop :=
  (∀ (lines : LineStates) (d : Damage) (s : State), ∃ t, exec (.powerUp lines d) s = .next t ∧
    let v := (readReserved d s).blocks
    let data := fun (b : BlockNo) => s.mem.blocks[b].data
    (∀ b : BlockNo, (b ∈ d.blocks → v[b] = .dirty) ∧
      (b ∉ d.blocks → programBlock s.mem.op ≠ some b → v[b] = s.mem.stored.blocks[b])) ∧
    (∀ b : BlockNo, t.mem.blocks[b].data = s.mem.blocks[b].data ∧
      ((∃ x, v[b] = .erasing x) → t.mem.blocks[b].state = .dirty) ∧
      (∀ i place retire, v[b] = .used i place retire →
        (b ∈ t.mem.slots[i].blocks → t.mem.blocks[b].state = v[b]) ∧
        (b ∉ t.mem.slots[i].blocks → t.mem.blocks[b].state = if retire then .bad else .dirty)) ∧
      (v[b] = .free ∨ v[b] = .dirty ∨ v[b] = .bad → t.mem.blocks[b].state = v[b])) ∧
    (∀ i : SlotNo, i ∈ d.slots ∨ s.mem.stored.slots[i].state = .empty ∨ s.mem.stored.slots[i].state = .uploading ∨
        s.mem.stored.slots[i].header = none → t.mem.slots[i] = Slot.reset) ∧
    ∀ (i : SlotNo) (h : Header), i ∉ d.slots → s.mem.stored.slots[i].header = some h →
      let own := ownedBlocks v i
      let n := (countBlocks data own).count
      let kept := fun (x : SlotState) (g : Header) (bs : List BlockNo) => t.mem.slots[i] =
        { state := x, header := some g, blocks := bs, locked := true, down := false, openLocked := true, released := [] }
      (∀ b, b ∈ own ↔ ∃ place retire, v[b] = .used i place retire) ∧ own.Nodup ∧
      (∀ (j k : Nat) (b c : BlockNo) (p q : Nat) (x y : Bool), j < k → own[j]? = some b → own[k]? = some c →
        v[b] = .used i p x → v[c] = .used i q y → p ≤ q) ∧
      (s.mem.stored.slots[i].state = .complete ∨ s.mem.stored.slots[i].state = .truncated → n < h.length →
        t.mem.slots[i] = Slot.reset) ∧
      (s.mem.stored.slots[i].state = .complete → h.length ≤ n → kept .complete h own) ∧
      (s.mem.stored.slots[i].state = .truncated → h.length ≤ n → kept .truncated h (keepBlocks data h.length own)) ∧
      (s.mem.stored.slots[i].state = .recording →
        (n = 0 → t.mem.slots[i] = Slot.reset) ∧
        (1 ≤ n → kept .truncated { h with length := n, interrupted := true, impliedResume := (countBlocks data own).spanOpen }
          (keepBlocks data n own)))) ∧
  ∀ (data : BlockNo → List StoredSample) (bs : List BlockNo), let xs := bs.flatMap data
    (countBlocks data bs).count ≤ xs.length ∧
      (∃ ys : List StoredSample, ys.Sublist xs ∧ ys.length = (countBlocks data bs).count ∧
        ∀ (k : Nat) (x : StoredSample), ys[k]? = some x →
          x.check = sampleCheck x.offset x.marks x.pos ∧ x.offset = k) ∧
      ((∀ (k : Nat) (x : StoredSample), xs[k]? = some x → x.check = sampleCheck x.offset x.marks x.pos ∧ x.offset = k ∧
          x.marks.defer = false ∧ x.marks.resume = false) → (countBlocks data bs).count = xs.length) ∧
      (countBlocks data (keepBlocks data (countBlocks data bs).count bs)).count = (countBlocks data bs).count ∧
      ∀ n, n ≤ (countBlocks data bs).count →
        keepBlocks data n bs <+: bs ∧ n ≤ (countBlocks data (keepBlocks data n bs)).count ∧
          ∀ j, j < (keepBlocks data n bs).length → (countBlocks data (bs.take j)).count < n

/-- R100, R161, R170: STARTING ends once every present lane is settled, with the scan's block states and slots stored; it
goes on while one is not. -/
def Obligations.StartingEndStoresTheScan : Prop :=
  (∀ s : State, s.starting = true → (∀ l : Lane, s.lanes[l].present = true → s.drives.channels[l].settled = true) →
    exec .startingEnd s = .next (settle ((s.setMem { s.mem with stored := { s.mem.stored with
      blocks := mapAll s.mem.blocks fun _ b => b.state
      slots := mapAll s.mem.slots fun _ x => { state := x.state, header := x.header } } }).setStarting false))) ∧
    ∀ (s : State) (l : Lane), s.starting = true → s.lanes[l].present = true → s.drives.channels[l].settled = false →
      exec .startingEnd s = .next (settle s)

/-! ### The Timebase -/

/-- R26, R27, R28, R33, R35: a frame start opens the next frame, (0, 0) being the first, applies what a pending TIMEBASE SET
says, raises the count in FLYWHEEL, hands the frame to the Recorder and to the Playback Unit and performs tick (f, 0), all
in one command (log 5). FRAME_START is one working period after the last and acts in every state but LOCKED, once the last
tick of its frame has been issued; SERVO_TICK performs each later tick of the frame. Either is without effect where it is
not due (log 4). Frame times are the model's (log 6), as is the chance of a late pulse (log 9). A pending change to INTERNAL
that falls on the ninth flywheel frame start comes before the return to SEARCH, which then does not happen (log 10). -/
def Obligations.FreeRunningFrameStart : Prop :=
  (∀ (time : Nat) (s : State),
    (s.tb.lock = .flywheel → s.tb.flywheelCount = 8 → s.tb.mode = .referenced ∧
      ∃ a, s.tb.pendingSettings = some a ∧ a.mode = some .internal) →
    ∃ b, beginFrame time s = tickWork (playbackFrame (recorderFrame (s.setTb b))) ∧
      (s.tb.pendingSettings = none → b = { s.tb with
        f := if s.tb.started then s.tb.f + 1 else 0
        t := 0
        started := true
        lastChance := false
        frameTime := time
        flywheelCount := if s.tb.lock = .flywheel then s.tb.flywheelCount + 1 else s.tb.flywheelCount }) ∧
      ∀ a, s.tb.pendingSettings = some a →
        b.pendingSettings = none ∧ b.f = (if s.tb.started then s.tb.f + 1 else 0) ∧ b.t = 0 ∧ b.started = true ∧
          b.lastChance = false ∧ b.frameTime = time ∧
          b.n = a.n.getD s.tb.n ∧ b.internalPeriod = a.period.getD s.tb.internalPeriod ∧ b.mode = a.mode.getD s.tb.mode ∧
          (s.tb.mode = .internal → b.mode = .internal → b.lock = s.tb.lock ∧ b.workingPeriod = b.internalPeriod) ∧
          (s.tb.mode = .internal → b.mode = .referenced →
            b.lock = .search ∧ b.runCount = 0 ∧ b.lastPulse = none ∧ b.workingPeriod = b.internalPeriod) ∧
          (s.tb.mode = .referenced → b.mode = .internal →
            b.lock = .none ∧ b.runCount = 0 ∧ b.flywheelCount = 0 ∧ b.workingPeriod = b.internalPeriod) ∧
          (s.tb.mode = .referenced → b.mode = .referenced →
            b.lock = s.tb.lock ∧ b.workingPeriod = s.tb.workingPeriod ∧ b.lastPulse = s.tb.lastPulse ∧
              b.runCount = s.tb.runCount ∧
              b.flywheelCount = if s.tb.lock = .flywheel then s.tb.flywheelCount + 1 else s.tb.flywheelCount)) ∧
  ∀ s : State, let done := s.tb.started = false ∨ s.tb.n ≤ s.tb.t + 1
    (s.tb.lock ≠ .locked → done → exec .frameStart s =
      .next (settle (beginFrame (if s.tb.started then s.tb.frameTime + s.tb.workingPeriod else 0) s))) ∧
    (s.tb.lock = .locked ∨ ¬ done → exec .frameStart s = .next (settle s)) ∧
    (¬ done → exec .servoTick s = .next (settle (tickWork (s.setTb { s.tb with t := s.tb.t + 1 })))) ∧
    (done → exec .servoTick s = .next (settle s))

/-- R28, R29, R30, R33: a pulse in INTERNAL mode is ignored. In SEARCH the first pulse starts no interval; a later one takes
the run to 0 for an interval outside 8,000 to 50,000 µs, up by one where it is within 0.5 % of the interval before it in a
running run, and to 1 otherwise; the fourth interval of a run enters LOCKED and begins a frame with it, at the pulse's arrival
(logs 5, 6). A pulse within 0.5 % of a working period after the ninth flywheel frame start, which returned to SEARCH, is taken
as the pulse of that frame start instead, and locks (log 9). -/
def Obligations.SearchPulsesLock : Prop :=
  ∀ (time : Nat) (s : State),
    let late := s.tb.lastChance = true ∧ s.tb.frameTime ≤ time ∧
      ((time : Int) - s.tb.frameTime).natAbs * 200 ≤ s.tb.workingPeriod
    (s.tb.mode = .internal → exec (.referencePulse time) s = .next (settle s)) ∧
    (s.tb.mode = .referenced → s.tb.lock = .search → late → exec (.referencePulse time) s = .next (settle (s.setTb
      { s.tb with lock := .locked, flywheelCount := 0, lastPulse := some time, lastChance := false, frameTime := time }))) ∧
    (s.tb.mode = .referenced → s.tb.lock = .search → ¬ late →
      (s.tb.lastPulse = none → exec (.referencePulse time) s =
        .next (settle (s.setTb { s.tb with lastPulse := some time, runCount := 0 }))) ∧
      ∀ p run, s.tb.lastPulse = some p →
        ((time - p < 8000 ∨ 50000 < time - p) ∧ run = 0 ∨
          (8000 ≤ time - p ∧ time - p ≤ 50000) ∧
            ((∃ j, s.tb.prevInterval = some j ∧ s.tb.runCount ≠ 0 ∧
                (((time - p : Nat) : Int) - j).natAbs * 200 ≤ j ∧ run = s.tb.runCount + 1) ∨
              ((∀ j, s.tb.prevInterval = some j → s.tb.runCount = 0 ∨
                j < (((time - p : Nat) : Int) - j).natAbs * 200) ∧ run = 1))) →
        (run ≠ 4 → exec (.referencePulse time) s = .next (settle (s.setTb
          { s.tb with lastPulse := some time, runCount := run, prevInterval := some (time - p) }))) ∧
        (run = 4 → exec (.referencePulse time) s = .next (settle (beginFrame time (s.setTb
          { s.tb with
            lock := .locked
            workingPeriod := time - p
            runCount := 0
            flywheelCount := 0
            lastPulse := some time
            prevInterval := some (time - p) })))))

/-- R31, R32: in LOCKED a pulse within 0.5 % of the working period is accepted: it begins a frame, at its arrival, and gives
the working period. Any other pulse, and any after an overdue frame start, is ignored but for the state, which becomes
FLYWHEEL with count 0. When the acceptance window closes without a pulse, a frame starts then, at 1.005 working periods,
rounded down (log 6). A pulse is missing at 1.5 working periods: after the overdue frame start, once no tick falls due
before that moment (log 3); MISSING_PULSE then enters FLYWHEEL, and before that it is no event, as is an overdue frame start
that is not due (log 4). The tick of a frame start is performed with it (log 5). -/
def Obligations.LockedPulses : Prop :=
  ∀ (time p : Nat) (s : State), s.tb.mode = .referenced → s.tb.lock = .locked → s.tb.lastPulse = some p →
    let off := s.tb.workingPeriod < (((time - p : Nat) : Int) - s.tb.workingPeriod).natAbs * 200
    let done := s.tb.started = false ∨ s.tb.n ≤ s.tb.t + 1
    let missed := p < s.tb.frameTime ∧ (done ∨
      3 * s.tb.workingPeriod ≤ 2 * (s.tb.frameTime + (s.tb.t + 1) * s.tb.workingPeriod / s.tb.n - p))
    (off ∨ p < s.tb.frameTime →
      exec (.referencePulse time) s = .next (settle (s.setTb { s.tb with lock := .flywheel, flywheelCount := 0 }))) ∧
    (¬ off → s.tb.frameTime ≤ p → exec (.referencePulse time) s = .next (settle (beginFrame time (s.setTb
      { s.tb with lastPulse := some time, workingPeriod := time - p })))) ∧
    (missed → exec .missingPulse s = .next (s.setTb { s.tb with lock := .flywheel, flywheelCount := 0 })) ∧
    (¬ missed → exec .missingPulse s = .next s) ∧
    (s.tb.frameTime ≤ p → done → exec .overdueFrameStart s = .next (settle
      (beginFrame (p + s.tb.workingPeriod + s.tb.workingPeriod / 200) s))) ∧
    (p < s.tb.frameTime ∨ ¬ done → exec .overdueFrameStart s = .next (settle s))

/-- R33, R34: in FLYWHEEL a pulse within 0.5 % of a working period of the frame start that falls due locks and begins that
frame, once the last tick of the frame before it has been issued (log 4); one as near after the latest frame start locks
without a frame (log 9), with the ticks timed from it (log 6); any other is ignored. The ninth flywheel frame start returns to
SEARCH (log 8): an active recording and playback end with it, before its own work, and its tick is performed (log 5).
FLYWHEEL_TO_SEARCH is that frame start, once the last tick of the frame before it has been issued, and no event at any other
(logs 4, 7). -/
def Obligations.FlywheelPulses : Prop :=
  ∀ (time : Nat) (s : State), s.tb.mode = .referenced → s.tb.lock = .flywheel → s.tb.started = true →
    let due := s.tb.frameTime + s.tb.workingPeriod
    let early := ((time : Int) - due).natAbs * 200 ≤ s.tb.workingPeriod ∧ s.tb.n ≤ s.tb.t + 1
    let after := s.tb.frameTime ≤ time ∧ ((time : Int) - s.tb.frameTime).natAbs * 200 ≤ s.tb.workingPeriod
    (early → exec (.referencePulse time) s = .next (settle (beginFrame time (s.setTb
      { s.tb with lock := .locked, flywheelCount := 0, lastPulse := some time })))) ∧
    (¬ early → after → exec (.referencePulse time) s = .next (settle (s.setTb { s.tb with
      lock := .locked, flywheelCount := 0, lastPulse := some time, lastChance := false, frameTime := time }))) ∧
    (¬ early → ¬ after → exec (.referencePulse time) s = .next (settle s)) ∧
    (s.tb.flywheelCount ≠ 8 → exec .flywheelToSearch s = .next s) ∧
    (s.tb.flywheelCount = 8 → s.tb.t + 1 < s.tb.n → exec .flywheelToSearch s = .next (settle s)) ∧
    (s.tb.flywheelCount = 8 → exec .flywheelToSearch s = exec .frameStart s ∧
      (s.tb.n ≤ s.tb.t + 1 → exec .flywheelToSearch s = .next (settle (beginFrame due s))) ∧
      (s.tb.pendingSettings = none → ∃ u, beginFrame due s = tickWork u ∧
        (s.tb.n ≤ s.tb.t + 1 → ∃ t, exec .flywheelToSearch s = .next t ∧ t.tb = u.tb ∧ t.play.state = .idle) ∧
        u.tb = { s.tb with
          f := s.tb.f + 1
          t := 0
          frameTime := due
          lock := .search
          flywheelCount := 9
          runCount := 0
          lastPulse := none
          prevInterval := none
          lastChance := true } ∧
        u.play.state = .idle ∧ (u.recorder.state = .idle ∨ u.recorder.state = .draining) ∧
        (s.recorder.state = .armed → u.recorder = Recorder.reset) ∧
        (s.recorder.state = .recording → s.recorder.queue ≠ [] →
          u.recorder.state = .draining ∧ u.recorder.outcome = some .referenceLost) ∧
        (s.play.state = .idle → u.grants = s.grants) ∧ u.lanes = s.lanes ∧ u.safety = s.safety))

/-- R121, R123, R124, R126, R127, R131, R133: what the Playback Unit does at a frame start, ahead of its tick. ROLL_ARMED at
the armed frame it rolls, or ends where the lock state is SEARCH. At a frame k below the length it drops the samples below k
and acts on the marks of sample k: CUE is reported; DEFER, but on the last sample, begins a segment with the lanes' hold
points and the resume sample, where the buffer has it. At k = length it ends in YIELD mode and holds the last sample in
HOLD_END mode. A stall found with the count 8, and the deadline of a segment, end the pass: the unit is IDLE with its
power-up values, every participating lane it held has its next holder, and no other lane's grant changes. STALL_LIMIT and
DEFER_MISSED are those frame starts, the Timebase's own next ones (logs 5, 7), taken also after a deadline that was not
acted on (log 33). -/
def Obligations.FrameStartEndsThePlayback : Prop :=
  (∀ (c : Instr) (first r : Nat) (s : State), s.tb.started = true → s.tb.n ≤ s.tb.t + 1 →
    s.tb.lock = .none ∨ s.tb.lock = .search ∨ (s.tb.lock = .flywheel ∧ s.tb.flywheelCount ≠ 8) ∨
      s.tb.overdueTime.isSome = true →
    s.play.fRoll = some first →
    (c = .stallLimit ∧ s.play.state = .rolling ∧ s.play.stallCount = 8 ∧ s.tb.f + 1 - first < s.play.len ∧
        s.play.lacks (s.tb.f + 1 - first) = true ∧ s.play.defersAt (s.tb.f + 1 - first) = false) ∨
      (c = .deferMissed ∧ s.play.state = .deferred ∧ s.play.resumeIndex = some r ∧ first + r + 8 ≤ s.tb.f + 1) →
    ∃ u, exec c s = .next (settle (tickWork u)) ∧ u.tb.f = s.tb.f + 1 ∧ u.tb.t = 0 ∧ u.play = Playback.reset ∧
      u.lanes = s.lanes ∧ u.safety = s.safety ∧
      (∀ l : Lane, s.participates l = true → s.grants[l].heldByPlayback = true →
        u.grants[l] = chooseNext s.lens l s.lanes[l].p s.grants[l] ∧ u.grants[l].heldByPlayback = false) ∧
      (∀ l : Lane, s.participates l = false ∨ s.grants[l].heldByPlayback = false → u.grants[l] = s.grants[l])) ∧
  ∀ (s : State) (first : Nat), let u := playbackFrame s
    let k := s.tb.f - first
    let len := s.play.len
    let untrusted := s.tb.mode = .referenced ∧ s.tb.lock = .search
    let armed := s.play.state = .rollArmed ∧ ∃ j, s.play.armed = some (s.tb.f, j)
    let rolls := (armed ∧ ¬ untrusted ∧ s.play.fRoll.getD s.tb.f = first) ∨
      (s.play.state = .rolling ∧ s.play.fRoll = some first)
    let ended := u.play = Playback.reset ∧ ∀ l : Lane, u.grants[l] =
      if s.participates l && s.grants[l].heldByPlayback then chooseNext s.lens l s.lanes[l].p s.grants[l] else s.grants[l]
    let begun := if s.play.state = .rollArmed ∧ s.play.fRoll = none then raiseMotion (.rollStart s.play.slot s.tb.f) s else s
    let rolling := fun (due : Bool) => { s.play with
      state := .rolling, armed := if s.play.state = .rollArmed then none else s.play.armed, fRoll := some first, k := some k,
      buffer := s.play.buffer.filter fun x => k ≤ x.index, marksDue := due }
    let resumes := fun (x : BufSample) => x.marks.resume || (s.playImplied && x.index + 1 = len)
    u.tb = s.tb ∧ u.lanes = s.lanes ∧ u.safety = s.safety ∧
    (s.play.state ≠ .rolling → s.play.state ≠ .deferred → ¬ armed → u = s) ∧
    (armed → untrusted → ended) ∧
    (rolls → len ≤ k →
      (s.play.endMode ≠ some .holdEnd → ended) ∧
      (s.play.endMode = some .holdEnd → u.grants = s.grants ∧ u.play.state = .holdEnd ∧ u.play.buffer = [] ∧
        ∃ e, u.play.endHold = some e ∧ ∀ l : Lane, s.participates l = true →
          (∀ a, s.play.posAt (len - 1) l = some a → e[l] = some a) ∧
            (s.play.posAt (len - 1) l = none → e[l] = s.play.lastDemand[l]))) ∧
    (rolls → k < len → (s.play.stallCount ≠ 8 ∨ s.play.lacks k = false) →
      (s.play.sample k = none → u = begun.setPlay (rolling true)) ∧
      ∀ x, s.play.sample k = some x → (x.marks.defer = false ∨ k + 1 = len) →
        u = (if x.marks.cue then raiseMotion (.playMark k s.tb.f) (begun.setPlay (rolling false))
          else begun.setPlay (rolling false))) ∧
    (rolls → k < len → s.play.stallCount = 8 → s.play.lacks k = true → s.play.defersAt k = false → ended) ∧
    (∀ x, rolls → k + 1 < len → s.play.sample k = some x → x.marks.defer = true →
      u.play.state = .deferred ∧ u.play.deferIndex = some k ∧ u.play.k = some k ∧ u.play.fRoll = some first ∧
        u.play.stallCount = 0 ∧ u.play.spoiled = s.play.spoiled ∧
        (∃ h, u.play.holdPoints = some h ∧ ∀ l : Lane, s.participates l = true → h[l] = x.pos[l]) ∧
        (∀ l : Lane, s.participates l = true → u.grants[l] = freshPlaybackCtx s.grants[l]) ∧
        (∀ l : Lane, s.participates l = false → u.grants[l] = s.grants[l]) ∧
        ((∀ y ∈ s.play.buffer, k < y.index → resumes y = false) → u.play.resumeIndex = none ∧ u.play.buffer = []) ∧
        ∀ before y after, (s.play.buffer.filter fun z => k < z.index) = before ++ y :: after →
          (∀ z ∈ before, resumes z = false) → resumes y = true →
          u.play.resumeIndex = some y.index ∧ u.play.buffer = y :: after) ∧
    (s.play.state = .deferred →
      (s.play.resumeIndex = none → u = s) ∧
      ∀ r, s.play.resumeIndex = some r → s.play.fRoll = some first →
        (first + r + 8 ≤ s.tb.f → ended) ∧ (s.tb.f < first + r + 8 → u = s))

/-! ### The lane step -/

/-- R5, R158, R159: the form of an ACTIVE lane's step. In RUN a held lane takes the held step and a lane without a holder the
HOLD step, unless the zone test predicts on the candidates: then every ACTIVE lane takes the stop step, as in STOPPING; in
STOPPED and RELEASING it rests. A lane that a miss judged with this tick disables has its part of the commit dropped: it keeps
P and T, with V = 0 and its step flags clear (log 11). -/
def Obligations.LaneStepForms : Prop :=
  ∀ (s : State) (l : Lane), s.lanes[l].present = true → s.lanes[l].condition = .active →
    let t := laneStep s
    let x := s.lanes[l]
    let predicted := predictedZones s (s.candidateMotion (s.candidates s.runCandidate))
    (s.missFaults l = true → t.lanes[l].condition = .disabled .driveFault ∧ t.lanes[l].p = x.p ∧ t.lanes[l].v = 0 ∧
      t.lanes[l].t = x.t ∧ t.lanes[l].limitClip = false ∧ t.lanes[l].capped = false) ∧
    (s.missFaults l = false → s.safety.stop = .run → predicted = [] →
      (∀ h, s.grants[l].holder = some h →
        let c := heldStep x (s.heldTarget l h) (gainOf x h) (s.effScale l)
        t.lanes[l].p = c.p ∧ t.lanes[l].v = c.v) ∧
      (s.grants[l].holder = none →
        t.lanes[l].p = (holdStep x).p ∧ t.lanes[l].v = (holdStep x).v ∧ t.lanes[l].t = (holdStep x).p)) ∧
    (s.missFaults l = false → s.safety.stop = .stopping ∨ (s.safety.stop = .run ∧ predicted ≠ []) →
      t.lanes[l].p = (stopStep x).p ∧ t.lanes[l].v = (stopStep x).v ∧ t.lanes[l].t = x.t) ∧
    (s.safety.stop = .stopped ∨ s.safety.stop = .releasing →
      t.lanes[l].p = x.p ∧ t.lanes[l].v = 0 ∧ t.lanes[l].t = x.t)

/-- R7: a held step's target T is T0 clamped to the soft limits. The rest of the step reads T alone: the step from T differs
from the step from T0 only in the excess that R8 gives back to a STEP demand. A committed held step stores T in the lane's
record; a discarded one and a step in any other stop state leave the record's T. -/
def Obligations.HeldStepTarget : Prop :=
  (∀ (x : LaneRec) (t0 : Int) (gain sEff : Nat), x.softMin ≤ x.softMax →
    let t := clampInt x.softMin x.softMax t0
    (t = t0 ∨ (t0 < x.softMin ∧ t = x.softMin) ∨ (x.softMax < t0 ∧ t = x.softMax)) ∧
      (heldStep x t0 gain sEff).target = some t ∧
      heldStep x t0 gain sEff = { heldStep x t gain sEff with excess := t0 - t }) ∧
    ∀ (s : State) (l : Lane) (h : Hold), s.lanes[l].present = true → s.lanes[l].condition = .active →
      s.grants[l].holder = some h →
      let predicted := predictedZones s (s.candidateMotion (s.candidates s.runCandidate))
      (s.missFaults l = false → s.safety.stop = .run → predicted = [] →
        (laneStep s).lanes[l].t = clampInt s.lanes[l].softMin s.lanes[l].softMax (s.heldTarget l h)) ∧
      (s.safety.stop ≠ .run ∨ predicted ≠ [] → (laneStep s).lanes[l].t = s.lanes[l].t)

/-- R11: the braking distance is the least whole number not below (V² + |V|·A) / (2A): for V = n·A it is
A + 2A + … + n·A, and it is 0 when V is 0. R12, R13: with E = T − P, a held step that is not clipped slows by at most A
where E has V's sign and the braking distance reaches it, and else takes its velocity by at most A toward
trunc(E × K′ / 65536) within the cap. -/
def Obligations.BrakingDistance : Prop :=
  (∀ (v : Int) (a : Nat), 1 ≤ a →
    2 * a * (brakeDistance v a - 1) < v * v + v.natAbs * a ∧ v * v + v.natAbs * a ≤ 2 * a * brakeDistance v a) ∧
    (∀ n a : Nat, 1 ≤ a → brakeDistance (n * a : Nat) a = (((List.range (n + 1)).map fun i => i * a).sum : Nat) ∧
      brakeDistance (-(n * a : Nat)) a = brakeDistance (n * a : Nat) a) ∧
    (∀ a : Nat, 1 ≤ a → brakeDistance 0 a = 0) ∧
    ∀ (x : LaneRec) (t0 : Int) (gain sEff : Nat), (heldStep x t0 gain sEff).clip = none →
      let e := clampInt x.softMin x.softMax t0 - x.p
      let c := velocityCap x.vmax sEff
      let brake := x.v ≠ 0 ∧ e ≠ 0 ∧ e.sign = x.v.sign ∧ (e.natAbs : Int) ≤ brakeDistance x.v x.a
      (brake → (heldStep x t0 gain sEff).v = x.v - x.v.sign * min (x.v.natAbs : Int) x.a) ∧
        (¬ brake → (heldStep x t0 gain sEff).v =
          x.v + clampInt (-x.a) x.a (clampInt (-c) c (Int.tdiv (e * gain) 65536) - x.v))

/-- R9, R10, R13, R14, R168: a held step keeps |V| within Vmax; it commits either P + V′ with a change of velocity of at most
A, or, clipped, the limit crossed with V = 0; and a lane within its soft limits stays there. The velocity cap is
floor(Vmax × S_eff / 65536). S_eff is the least of 65536 and the terms that apply to the lane: at most each of them, and one
of them; while the rig record is not frozen no cap exceeds floor(Vmax × 4096 / 65536). -/
def Obligations.HeldStepLaws : Prop :=
  (∀ vmax sEff : Nat, velocityCap vmax sEff = ((vmax * sEff / 65536 : Nat) : Int) ∧
    65536 * velocityCap vmax sEff ≤ (vmax : Int) * sEff ∧ (vmax : Int) * sEff < 65536 * (velocityCap vmax sEff + 1)) ∧
  (∀ (s : State) (l : Lane), s.effScale l ≤ 65536 ∧ (∀ x, ScaleTerm s l x → s.effScale l ≤ x) ∧
    (s.effScale l = 65536 ∨ ScaleTerm s l (s.effScale l)) ∧
    (s.rig.record.frozen = false → ∀ vmax : Nat, velocityCap vmax (s.effScale l) ≤ ((vmax * 4096 / 65536 : Nat) : Int))) ∧
  ∀ (x : LaneRec) (t0 : Int) (gain sEff : Nat), x.softMin ≤ x.softMax → sEff ≤ 65536 → x.v.natAbs ≤ x.vmax →
    let c := heldStep x t0 gain sEff
    0 ≤ velocityCap x.vmax sEff ∧ velocityCap x.vmax sEff ≤ x.vmax ∧ c.v.natAbs ≤ x.vmax ∧
      (c.clip = none → c.p = x.p + c.v ∧ (c.v - x.v).natAbs ≤ x.a) ∧
      (c.clip = some .softMax → c.p = x.softMax ∧ c.v = 0) ∧ (c.clip = some .softMin → c.p = x.softMin ∧ c.v = 0) ∧
      (x.softMin ≤ x.p → x.p ≤ x.softMax → x.softMin ≤ c.p ∧ c.p ≤ x.softMax) ∧
      (x.p < x.softMin ∨ x.softMax < x.p → c.clip = none)

/-- R18, R19, R20: a stop ramp from V ends within the braking distance of V: a step of it slows |V| by A, and what it moves
with what is left is within what was left before. A held lane at rest stays at rest while |E| is within
trunc(65535 / K′), and moves once |E| exceeds it. -/
def Obligations.StopRampAndSettlingBand : Prop :=
  (∀ (v : Int) (a : Nat), 1 ≤ a → (slowed v a).natAbs = v.natAbs - a ∧ 0 ≤ slowed v a * v ∧
    ((slowed v a).natAbs : Int) + brakeDistance (slowed v a) a ≤ brakeDistance v a) ∧
    (∀ (v : Int) (a : Nat), 1 ≤ a →
      ((((List.range v.natAbs).map fun i => v.natAbs - (i + 1) * a).sum : Nat) : Int) ≤ brakeDistance v a) ∧
    ∀ (x : LaneRec) (t0 : Int) (gain sEff : Nat), x.softMin ≤ x.softMax → x.v = 0 → 1 ≤ gain → gain ≤ 65536 →
      let e := clampInt x.softMin x.softMax t0 - x.p
      (e.natAbs ≤ 65535 / gain → (heldStep x t0 gain sEff).p = x.p ∧ (heldStep x t0 gain sEff).v = 0) ∧
        (65535 / gain < e.natAbs → 1 ≤ x.a → 1 ≤ velocityCap x.vmax sEff → (heldStep x t0 gain sEff).v ≠ 0)

/-- R4, R6, R8, R16, R17, R56, R158, R159: a tick in RUN with no zone in the table, the tick of a frame start among them
(log 5). A lane held by a station commits its held step from map(D) + O, or from its grant setpoint while D is absent, with
its flags; a STEP demand gives up what its target clamp took away; a lane without a holder commits the HOLD step with T
following it; a lane that is not ACTIVE keeps P with V = 0; each drive is sent the count of its committed position, or a
poll, and one whose exchange was still open is MISSING. The stop state, the causes and drive power stay. R119, R125, R126:
with a playback, a lane it holds follows the supplied demand with K′ 65536; CUEING becomes READY once the lanes rest near
sample 0 with the buffer filled; in ROLLING a lane that strays from its target beyond its trackTol, or whose demand lies
beyond a soft limit (R122; log 48), spoils the pass, and so does a stall, which holds the demands fixed at its first step
until the samples are there. The stall count rises by 1 at each frame start whose step at (f, 0) is stalled, stays at the
other stalled ticks, and returns to 0 at the first step that is not stalled. -/
def Obligations.ServoTickInRun : Prop :=
  (∀ (c : Instr) (b : Timebase) (s : State), IssuesTick c b s → s.safety.stop = .run → s.play.state = .idle →
    NoDriveFails s → (∀ z : ZoneNo, s.safety.zones[z].record = none) →
    ∃ t, exec c s = .next t ∧ t.tb = b ∧ t.safety.stop = .run ∧ t.safety.causes = s.safety.causes ∧
      t.safety.drivePower = s.safety.drivePower ∧
      (∀ l : Lane, s.lanes[l].present = false → t.lanes[l] = s.lanes[l]) ∧
      (∀ l : Lane, s.lanes[l].present = true → s.lanes[l].condition ≠ .active →
        t.lanes[l] = { s.lanes[l] with v := 0, sEff := s.effScale l, limitClip := false, capped := false } ∧
          t.grants[l] = s.grants[l]) ∧
      (∀ (l : Lane) (h : Hold) (q : Port), s.lanes[l].present = true → s.lanes[l].condition = .active →
        s.grants[l].holder = some h → h.who = .station q →
        let t0 := match mapDemand s.lens l h.ctx with
          | some m => m + h.ctx.o
          | none => h.setpoint
        let c := heldStep s.lanes[l] t0 s.lanes[l].k (s.effScale l)
        let cut := t0 - clampInt s.lanes[l].softMin s.lanes[l].softMax t0
        t.lanes[l] = { s.lanes[l] with
          p := c.p, v := c.v, t := clampInt s.lanes[l].softMin s.lanes[l].softMax t0, sEff := s.effScale l,
          limitClip := c.clip.isSome, capped := s.effScale l < 65536 || c.capExceeded } ∧
        (∀ d, h.ctx.kind = .step → h.ctx.d = some d → t.grants[l] =
          { s.grants[l] with holder := some { h with ctx := { h.ctx with d := some (d - cut) } } }) ∧
        (h.ctx.kind ≠ .step ∨ h.ctx.d = none → t.grants[l] = s.grants[l])) ∧
      (∀ l : Lane, s.lanes[l].present = true → s.lanes[l].condition = .active → s.grants[l].holder = none →
        t.grants[l] = s.grants[l] ∧ t.lanes[l] = { s.lanes[l] with
          p := (holdStep s.lanes[l]).p, v := (holdStep s.lanes[l]).v, t := (holdStep s.lanes[l]).p,
          sEff := s.effScale l, limitClip := (holdStep s.lanes[l]).clip.isSome, capped := s.effScale l < 65536 }) ∧
      (∀ l : Lane, s.lanes[l].present = true → t.drives.channels[l].exchange = some
        { f := b.f, t := b.t, sent :=
          if s.safety.drivePower = true ∧ s.lanes[l].condition = .active then some (Int.fdiv t.lanes[l].p 256)
          else none } ∧
        (s.drives.channels[l].exchange.isSome = true → t.drives.channels[l].status = .missing ∧
          t.drives.channels[l].missing = min 2 (s.drives.channels[l].missing + 1)) ∧
        (s.drives.channels[l].exchange = none → t.drives.channels[l].status = s.drives.channels[l].status ∧
          t.drives.channels[l].missing = s.drives.channels[l].missing))) ∧
  (∀ u : State, u.tb.t = 0 → u.safety.stop = .run → u.play.state = .rolling → NoDriveFails u →
    (∀ z : ZoneNo, u.safety.zones[z].record = none) →
    let t := tickWork u
    (u.play.lacks (u.play.k.getD 0) = true → u.play.stallCount ≤ 8 →
      t.play.state = .rolling ∧ t.play.k = u.play.k ∧ t.play.stallCount = u.play.stallCount + 1 ∧ t.play.spoiled = true) ∧
    (u.play.lacks (u.play.k.getD 0) = false → t.play.stallCount = 0 ∧ t.play.stallDemands = none)) ∧
  (∀ (b : Timebase) (first : Nat) (s : State), IssuesTick .frameStart b s →
    (s.tb.lock = .flywheel → s.tb.flywheelCount ≠ 8) → s.safety.stop = .run → NoDriveFails s →
    (∀ z : ZoneNo, s.safety.zones[z].record = none) →
    (s.play.state = .rolling ∧ s.play.fRoll = some first) ∨
      (s.play.state = .rollArmed ∧ (∃ j, s.play.armed = some (b.f, j)) ∧ ¬ (b.mode = .referenced ∧ b.lock = .search) ∧
        s.play.fRoll.getD b.f = first) →
    b.f - first < s.play.len →
    let k := b.f - first
    ∃ t, exec .frameStart s = .next t ∧ t.tb = b ∧
      (s.play.lacks k = true → s.play.defersAt k = false → s.play.stallCount < 8 →
        t.play.state = .rolling ∧ t.play.k = some k ∧ t.play.stallCount = s.play.stallCount + 1 ∧ t.play.spoiled = true ∧
          ∃ d, t.play.stallDemands = some d ∧ (∀ e, s.play.stallDemands = some e → d = e) ∧
            (s.play.stallDemands = none → ∀ l : Lane, s.participates l = true →
              (∀ a, s.play.posAt k l = some a → d[l] = some a) ∧
                (s.play.posAt k l = none → d[l] = s.play.lastDemand[l]))) ∧
      (s.play.lacks k = false ∨ s.play.defersAt k = true →
        t.play.stallCount = 0 ∧ t.play.stallDemands = none ∧ t.play.k = some k ∧
          t.play.state = if s.play.defersAt k = true then .deferred else .rolling)) ∧
  ∀ (b : Timebase) (s : State), IssuesTick .servoTick b s → s.safety.stop = .run → s.play.state ≠ .idle →
    NoDriveFails s → (∀ z : ZoneNo, s.safety.zones[z].record = none) →
    let u := playBefore (s.setTb b)
    let k := s.play.k.getD 0
    ∃ t, exec .servoTick s = .next t ∧ t.tb = b ∧ t.safety.stop = .run ∧ t.safety.causes = s.safety.causes ∧
      (∀ (l : Lane) (h : Hold), s.lanes[l].present = true → s.lanes[l].condition = .active →
        u.grants[l].holder = some h → h.who = .playback →
        let t0 := ((playSupply (stallStep (s.setTb b)))[l]).getD h.setpoint
        let c := heldStep s.lanes[l] t0 65536 (u.effScale l)
        t.lanes[l].p = c.p ∧ t.lanes[l].v = c.v ∧ t.lanes[l].t = clampInt s.lanes[l].softMin s.lanes[l].softMax t0) ∧
      (s.play.state = .cueing →
        let ready := (∀ l : Lane, s.participates l = true → t.lanes[l].v = 0 ∧
            ∃ a, s.play.posAt 0 l = some a ∧ (t.lanes[l].p - a).natAbs ≤ t.lanes[l].trackTol) ∧
          (4 ≤ s.play.buffer.length ∨ (s.play.len < 4 ∧ s.play.buffer.length = s.play.len))
        (ready → t.play.state = .ready) ∧ (¬ ready → t.play.state = .cueing)) ∧
      (s.play.state = .rolling → s.play.lacks k = true →
        t.play.state = .rolling ∧ t.play.spoiled = true ∧ t.play.stallCount = s.play.stallCount ∧
          ∃ d, t.play.stallDemands = some d ∧ (∀ e, s.play.stallDemands = some e → d = e) ∧
            (s.play.stallDemands = none → ∀ l : Lane, s.participates l = true →
              (∀ a, s.play.posAt k l = some a → d[l] = some a) ∧
                (s.play.posAt k l = none → d[l] = s.play.lastDemand[l]))) ∧
      (s.play.state = .rolling → s.play.lacks k = false →
        t.play.stallCount = 0 ∧ t.play.stallDemands = none ∧ t.play.marksDue = false ∧
          (s.play.marksDue = true → s.play.defersAt k = true → t.play.state = .deferred ∧ t.play.deferIndex = some k) ∧
          (s.play.marksDue = false ∨ s.play.defersAt k = false → t.play.state = .rolling)) ∧
      (t.play.state = .rolling →
        let strays := ∃ l : Lane, s.participates l = true ∧ t.lanes[l].condition = .active ∧
          (t.lanes[l].trackTol < (t.lanes[l].t - t.lanes[l].p).natAbs ∨
            ∃ d, (playSupply (stallStep (s.setTb b)))[l] = some d ∧ (d < s.lanes[l].softMin ∨ s.lanes[l].softMax < d))
        (strays → t.play.spoiled = true ∧ t.play.slipReported = true) ∧
          (¬ strays → t.play.slipReported = s.play.slipReported ∧
            (s.play.lacks k = false → t.play.spoiled = s.play.spoiled)))

/-- R3, R18, R148, R149: a tick in a stop. In STOPPED and RELEASING every lane rests and keeps its T. In STOPPING every
ACTIVE lane takes the stop step; once all of them rest the state is STOPPED, and drive power goes OFF where a cause of class
OFF is in the set or an UNPARK was accepted during the ramp. The grants are untouched. The tick of a frame start is among
these ticks (log 5). -/
def Obligations.ServoTickInAStop : Prop :=
  ∀ (c : Instr) (b : Timebase) (s : State), IssuesTick c b s → s.play.state = .idle → NoDriveFails s →
    (s.safety.stop = .stopped ∨ s.safety.stop = .releasing → ∃ t, exec c s = .next t ∧ t.tb = b ∧
      t.grants = s.grants ∧ (∀ l : Lane, s.lanes[l].present = true →
        t.lanes[l].p = s.lanes[l].p ∧ t.lanes[l].v = 0 ∧ t.lanes[l].t = s.lanes[l].t ∧
          t.drives.channels[l].exchange = some
            { f := b.f, t := b.t, sent :=
              if s.safety.drivePower = true ∧ s.lanes[l].condition = .active then some (Int.fdiv s.lanes[l].p 256)
              else none })) ∧
    (s.safety.stop = .stopping → ∃ t, exec c s = .next t ∧ t.tb = b ∧ t.grants = s.grants ∧
      (∀ l : Lane, s.lanes[l].present = true → s.lanes[l].condition = .active →
        let x := s.lanes[l]
        let v := x.v - x.v.sign * min (x.v.natAbs : Int) x.astop
        let c := limitClip x (x.p + v) v
        t.lanes[l].p = c.1 ∧ t.lanes[l].v = c.2.1 ∧ t.lanes[l].t = x.t) ∧
      (∀ l : Lane, s.lanes[l].present = true → s.lanes[l].condition ≠ .active →
        t.lanes[l].p = s.lanes[l].p ∧ t.lanes[l].v = 0) ∧
      ((∃ l : Lane, s.lanes[l].present = true ∧ s.lanes[l].condition = .active ∧ t.lanes[l].v ≠ 0) →
        t.safety.stop = .stopping ∧ t.safety.drivePower = s.safety.drivePower) ∧
      ((∀ l : Lane, s.lanes[l].present = true → s.lanes[l].condition = .active → t.lanes[l].v = 0) →
        t.safety.stop = .stopped ∧ t.safety.unparkInRamp = false ∧
          t.safety.drivePower = (s.safety.drivePower &&
            !((s.safety.causes.any fun c => CauseKind.isOff c.kind) || s.safety.unparkInRamp))))

/-- R15, R140, R144, R145: in RUN, an enabled KEEP_OUT zone without an exiting mark, all of whose intervals the swept
intervals of the candidates meet, stops the motion: every ACTIVE lane commits the stop step instead, the cause joins the
set, the state leaves RUN, and no STEP demand is written back. R141, R142: after the commit of every tick each enabled
zone's results are those of the committed positions; a KEEP_OUT zone without an exiting mark that they breach stops the
motion with its cause, and an exiting mark on one they do not breach is cleared, with EXIT_CLEARED to every ACTIVE port, or
EVENTS_LOST. The tick of a frame start is among these ticks (log 5). -/
def Obligations.KeepOutPredictionStops : Prop :=
  (∀ (c : Instr) (b : Timebase) (z : ZoneNo) (r : ZoneRecord) (s : State), IssuesTick c b s → s.safety.stop = .run →
    s.play.state = .idle → NoDriveFails s → (∀ l : Lane, s.grants[l].heldByPlayback = false) →
    s.safety.zones[z].record = some r → r.enabled = true → r.kind = .keepOut → s.safety.zones[z].exiting = false →
    zonePredicts (s.candidateMotion (s.candidates s.runCandidate)) r = true →
    ∃ t, exec c s = .next t ∧ t.tb = b ∧ t.safety.stop ≠ .run ∧ t.hasCause (.zonePredicted z) = true ∧
      t.grants = s.grants ∧ t.play.state = .idle ∧
      ∀ l : Lane, s.lanes[l].present = true → s.lanes[l].condition = .active →
        let x := s.lanes[l]
        let v := x.v - x.v.sign * min (x.v.natAbs : Int) x.astop
        let c := limitClip x (x.p + v) v
        t.lanes[l].p = c.1 ∧ t.lanes[l].v = c.2.1 ∧ t.lanes[l].t = x.t) ∧
  ∀ (c : Instr) (b : Timebase) (s : State), IssuesTick c b s → ∃ t, exec c s = .next t ∧ t.tb = b ∧
    ∀ z : ZoneNo, let e := s.safety.zones[z]
      t.safety.zones[z].record = e.record ∧
      (e.record = none → t.safety.zones[z] = { e with predicting := false, breached := false }) ∧
      ∀ r, e.record = some r →
        (r.enabled = false → t.safety.zones[z] = { e with predicting := false, breached := false }) ∧
        (r.enabled = true → t.safety.zones[z] = { e with
          predicting := zonePredicts t.motion r
          breached := zoneContains t.motion r
          exiting := e.exiting && (r.kind = .slow || zoneContains t.motion r) }) ∧
        (r.enabled = true → r.kind = .keepOut → e.exiting = false → zoneContains t.motion r = true →
          t.hasCause (.zoneBreached z) = true ∧ t.safety.stop ≠ .run) ∧
        (r.enabled = true → r.kind = .keepOut → e.exiting = true → zoneContains t.motion r = false →
          ∀ p : Port, s.ports[p].link = .active →
            (∃ x ∈ t.ports[p].events, x.body = .exitCleared z b.f b.t) ∨ t.ports[p].eventsLost = true)

/-! ### Drives -/

/-- R158 to R161: a reply belongs to the open exchange of its tick. An OK reply records its count, clears the misses and
closes the exchange; it settles a lane not yet settled in STARTING at its count × 256. Its count may stray from the count
sent by up to followLimit. A reply to another tick, to an exchange no longer open, or of an absent lane's drive, is
discarded. -/
def Obligations.DriveReplyIsJudged : Prop :=
  ∀ (l : Lane) (f tk : Nat) (st : DriveStatus) (n : Int) (s : State),
    (s.lanes[l].present = false ∨ s.drives.channels[l].exchange = none ∨
        (∃ e, s.drives.channels[l].exchange = some e ∧ (e.f ≠ f ∨ e.t ≠ tk)) →
      exec (.driveReply l f tk st n) s = .next (settle s)) ∧
    ∀ e, s.lanes[l].present = true → s.drives.channels[l].exchange = some e → e.f = f → e.t = tk →
      (s.starting = true → s.drives.channels[l].settled = false → exec (.driveReply l f tk .ok n) s =
        .next (settle ((s.setChannel l fun c => { c with
          latestCount := some n, status := .ok, missing := 0, faultReported := false, settled := true,
          exchange := none }).setLane l fun x => { x with p := n * 256, v := 0, t := n * 256 }))) ∧
      (s.starting = false ∨ s.drives.channels[l].settled = true →
        (∀ c, e.sent = some c → s.safety.drivePower = true → s.lanes[l].condition = .active →
          (c - n).natAbs ≤ s.lanes[l].followLimit) →
        exec (.driveReply l f tk .ok n) s = .next (settle (s.setChannel l fun c => { c with
          latestCount := some n, status := .ok, missing := 0, faultReported := false, settled := true,
          exchange := none })))

/-- R3, R150, R158, R159, R160: a FAULT reply, the second miss in a row, and an OK reply whose count strays from the count
sent by more than followLimit disable an ACTIVE lane at once: V = 0, both outputs deasserted, the cause in the set and RUN
left. A first miss is only counted; an unanswered exchange is no event of an absent lane's drive. A tick that finds the
exchange open judges the miss itself: on the second one the lane's part of the tick's commit is dropped, and its exchange is
a poll (logs 5, 11). -/
def Obligations.DriveTroubleDisablesTheLane : Prop :=
  (∀ (l : Lane) (f tk : Nat) (n : Int) (e : Exchange) (s : State), s.drives.channels[l].exchange = some e →
    (s.lanes[l].present = true → s.drives.channels[l].missing = 0 → exec (.driveReplyMissing l) s =
      .next (settle (s.setChannel l fun c => { c with status := .missing, missing := 1, exchange := none }))) ∧
    (s.lanes[l].present = false → exec (.driveReplyMissing l) s = .next (settle s)) ∧
    ∀ (c : Instr) (why : DisableReason), s.lanes[l].present = true → s.lanes[l].condition = .active →
      (c = .driveReply l f tk .fault n ∧ e.f = f ∧ e.t = tk ∧ s.drives.channels[l].faultReported = false ∧
          why = .driveFault) ∨
        (c = .driveReplyMissing l ∧ 1 ≤ s.drives.channels[l].missing ∧ s.drives.channels[l].faultReported = false ∧
          why = .driveFault) ∨
        (c = .driveReply l f tk .ok n ∧ e.f = f ∧ e.t = tk ∧ s.starting = false ∧ s.safety.drivePower = true ∧
          (∃ k, e.sent = some k ∧ s.lanes[l].followLimit < (k - n).natAbs) ∧ why = .followError) →
      ∃ t, exec c s = .next t ∧ t.lanes[l] = { s.lanes[l] with condition := .disabled why, v := 0 } ∧
        (∀ j : Lane, j ≠ l → t.lanes[j] = s.lanes[j]) ∧ t.drives.channels[l].enable = false ∧
        t.drives.channels[l].brake = false ∧ t.safety.stop ≠ .run ∧
        t.hasCause (match why with | .driveFault => .driveFault l | .followError => .followError l) = true ∧
        t.drives.channels[l].exchange = none ∧
        (why = .driveFault → t.drives.channels[l].faultReported = true) ∧
        (∀ st, c = .driveReply l f tk st n → t.drives.channels[l].latestCount = some n ∧
          t.drives.channels[l].missing = 0)) ∧
  (∀ (l : Lane) (s : State), s.drives.channels[l].exchange = none →
    exec (.driveReplyMissing l) s = .next (settle s)) ∧
  ∀ (c : Instr) (b : Timebase) (l : Lane) (s : State), IssuesTick c b s → s.lanes[l].present = true →
    s.drives.channels[l].exchange.isSome = true → ∃ t, exec c s = .next t ∧ t.drives.channels[l].status = .missing ∧
      t.drives.channels[l].missing = min 2 (s.drives.channels[l].missing + 1) ∧
      (s.drives.channels[l].missing = 0 → t.lanes[l].condition = s.lanes[l].condition) ∧
      (1 ≤ s.drives.channels[l].missing → s.drives.channels[l].faultReported = false → s.lanes[l].condition = .active →
        t.lanes[l] = { s.lanes[l] with condition := .disabled .driveFault, v := 0, sEff := t.lanes[l].sEff,
                                       limitClip := false, capped := false } ∧
          t.drives.channels[l].exchange = some { f := b.f, t := b.t, sent := none } ∧
          t.drives.channels[l].faultReported = true ∧ t.drives.channels[l].enable = false ∧
          t.drives.channels[l].brake = false ∧ t.safety.stop ≠ .run ∧ t.hasCause (.driveFault l) = true)

/-! ### Stops and lines -/

/-- R144 to R149, R154: the STOP line's assertion and a STOP from any station add their cause, unless it is in the set
already. RUN becomes STOPPING, with the playback ended, the recording ended or draining and drive power kept; RELEASING
becomes STOPPED; STOPPING and STOPPED stay. Drive power goes OFF at rest where the event, or in RELEASING the set, has class
OFF. The lanes are untouched, and so are the grants where no playback ends. -/
def Obligations.CauseStopsTheMotion : Prop :=
  ∀ (c : Instr) (rx : Rx) (k : CauseKind) (s : State),
    (c = .stopLineAssert ∧ k = .stopLine) ∨ (c = .stop rx (.fields ()) ∧ k = .stationStop rx.port ∧ Takes rx s) →
    ∃ t, exec c s = .next t ∧ t.lanes = s.lanes ∧
      t.safety.stop = (match s.safety.stop with
        | .run => .stopping
        | .stopping => .stopping
        | .stopped => .stopped
        | .releasing => .stopped) ∧
      t.safety.causes = (if s.hasCause k then s.safety.causes
        else s.safety.causes ++ [{ kind := k, f := s.tb.f, t := s.tb.t }]) ∧
      t.safety.stopLine = (s.safety.stopLine || k = .stopLine) ∧
      (s.safety.stop = .run ∨ s.safety.stop = .stopping → t.safety.drivePower = s.safety.drivePower) ∧
      (s.safety.stop = .stopped → t.safety.drivePower = (s.safety.drivePower && k ≠ .stopLine)) ∧
      (s.safety.stop = .releasing → t.safety.release = none ∧ t.safety.drivePower =
        (s.safety.drivePower && !t.safety.causes.any fun c => CauseKind.isOff c.kind)) ∧
      (s.safety.stop = .run → t.play.state = .idle ∧
        (t.recorder.state = .idle ∨ t.recorder.state = .draining)) ∧
      (s.safety.stop ≠ .run → t.play = s.play) ∧ (s.safety.stop ≠ .run ∨ s.play.state = .idle → t.grants = s.grants) ∧
      (c = .stop rx (.fields ()) →
        t.ports[rx.port].replies = s.ports[rx.port].replies ++ [Answer.done.reply rx.tag .ordinary])

/-- R90, R143, R147: the STOP line's deassertion only changes the line; a presence line asserted lowers S_eff of the lanes
its entry covers to at most its scale, and deasserted lowers none; a change of the PROTECT line acts on each finished take
that is locked down: closing locks it, opening gives locked the value of openLocked. No line change does more, and a change
to the state the PROTECT line has already is no event (log 4). -/
def Obligations.LineChanges : Prop :=
  ∀ (i : Fin 4) (closed : Bool) (s : State),
    exec .stopLineDeassert s = .next (s.setSafety { s.safety with stopLine := false }) ∧
    (∃ t, exec (.presenceAssert i) s = .next t ∧ t.setSafety s.safety = s ∧
      t.safety = { s.safety with
        presence := updAt s.safety.presence i fun e => { e with asserted := true } } ∧
      (∀ l : Lane, LaneSet.has s.safety.presence[i].lanes l = true →
        t.effScale l = min (s.effScale l) s.safety.presence[i].scale) ∧
      (∀ l : Lane, LaneSet.has s.safety.presence[i].lanes l = false → t.effScale l = s.effScale l)) ∧
    (∃ t, exec (.presenceDeassert i) s = .next t ∧ t.setSafety s.safety = s ∧
      t.safety = { s.safety with
        presence := updAt s.safety.presence i fun e => { e with asserted := false } } ∧
      (s.safety.presence[i].asserted = true → ∀ l : Lane, LaneSet.has s.safety.presence[i].lanes l = true →
        s.effScale l = min (t.effScale l) s.safety.presence[i].scale) ∧
      (∀ l : Lane, LaneSet.has s.safety.presence[i].lanes l = false → t.effScale l = s.effScale l)) ∧
    (s.mem.protectClosed = closed → exec (.protectLineChange closed) s = .next s) ∧
    (s.mem.protectClosed ≠ closed → ∃ t, exec (.protectLineChange closed) s = .next t ∧ t.setMem s.mem = s ∧
      t.mem = { s.mem with protectClosed := closed, slots := t.mem.slots } ∧
      ∀ n : SlotNo,
        (s.mem.slots[n].finished = true → s.mem.slots[n].down = true →
          t.mem.slots[n] = { s.mem.slots[n] with locked := if closed then true else s.mem.slots[n].openLocked }) ∧
        (s.mem.slots[n].finished = false ∨ s.mem.slots[n].down = false → t.mem.slots[n] = s.mem.slots[n]))

/-- R151, R154: in STOPPED, with the STOP line deasserted and every drive-fault lane's drive OK, RELEASE ASK from a station
that may release opens the window: RELEASING, with the asker and the time 10 s after the request. Otherwise it is refused
WRONG_STATE and changes nothing. A window that closes leaves STOPPED with the causes kept; an expiry before that time, or
with no window open, is no event (logs 3, 4). -/
def Obligations.ReleaseWindow : Prop :=
  (∀ (rx : Rx) (r : Role) (s : State), Takes rx s → s.ports[rx.port].role = some r →
    r = .motion ∨ r = .arm ∨ r = .lens →
    ((s.safety.stop = .stopped ∧ s.safety.stopLine = false ∧
        (∀ l : Lane, s.driveFaultLane l = true → s.drives.channels[l].status = .ok)) →
      ∃ t, exec (.releaseAsk rx (.fields ())) s = .next t ∧ t.lanes = s.lanes ∧ t.grants = s.grants ∧
        t.safety = { s.safety with
          stop := .releasing, release := some { asker := rx.port, closes := rx.time + 10000000 } } ∧
        t.ports[rx.port].replies = s.ports[rx.port].replies ++ [Answer.accepted.reply rx.tag .ordinary]) ∧
    (s.safety.stop ≠ .stopped ∨ s.safety.stopLine = true ∨
        (∃ l : Lane, s.driveFaultLane l = true ∧ s.drives.channels[l].status ≠ .ok) →
      exec (.releaseAsk rx (.fields ())) s = .next (replied rx (Answer.refused .wrongState) (noteValid rx s)))) ∧
  ∀ (time : Nat) (s : State),
    (s.safety.release = none ∨ s.safety.stop ≠ .releasing → exec (.releaseWindowExpiry time) s = .next (settle s)) ∧
    ∀ r, s.safety.release = some r →
      (s.safety.stop = .releasing → r.closes ≤ time → ∃ t, exec (.releaseWindowExpiry time) s = .next t ∧
        t.safety = { s.safety with stop := .stopped, release := none } ∧ t.lanes = s.lanes ∧ t.grants = s.grants) ∧
      (time < r.closes → exec (.releaseWindowExpiry time) s = .next (settle s))

/-- R152, R153, R142, R52: in RELEASING an agreeing RELEASE AGREE from a station other than the asker, or a pulse on the
RELEASE line, enters RUN when the conditions hold: the causes and the release record are cleared and drive power is ON; a
DISABLED lane whose drive is OK, and every ACTIVE lane when power was OFF, is reloaded from its drive's count; a holder's
setpoint becomes P and its context is switched in; an enabled KEEP_OUT zone that the positions breach is marked exiting.
With the STOP line asserted, or the drive of a drive-fault lane not OK, either ends the release in STOPPED, and the AGREE is
refused. The asker's own AGREE is refused, and so is one in another state; a pulse outside RELEASING is ignored. -/
def Obligations.ReleaseEntersRun : Prop :=
  (∀ (rx : Rx) (x : Role) (s : State), Takes rx s → s.ports[rx.port].role = some x →
    x = .motion ∨ x = .arm ∨ x = .lens →
    s.safety.stop ≠ .releasing ∨ (∃ r, s.safety.release = some r ∧ r.asker = rx.port) →
    exec (.releaseAgree rx (.fields ())) s = .next (replied rx (Answer.refused .wrongState) (noteValid rx s))) ∧
  (∀ s : State, s.safety.stop ≠ .releasing → exec .releasePulse s = .next (settle s)) ∧
  ∀ (c : Instr) (rx : Rx) (s : State), s.safety.stop = .releasing →
    c = .releasePulse ∨ (c = .releaseAgree rx (.fields ()) ∧ (∀ r, s.safety.release = some r → r.asker ≠ rx.port) ∧
      Takes rx s ∧ ∃ x, s.ports[rx.port].role = some x ∧ (x = .motion ∨ x = .arm ∨ x = .lens)) →
    let failing := s.safety.stopLine = true ∨
      ∃ l : Lane, s.driveFaultLane l = true ∧ s.drives.channels[l].status ≠ .ok
    let answered := fun (t : State) (a : Answer) => c = .releaseAgree rx (.fields ()) →
      t.ports[rx.port].replies = s.ports[rx.port].replies ++ [a.reply rx.tag .ordinary]
    (¬ failing → ∃ t, exec c s = .next t ∧ answered t Answer.done ∧ t.safety.stop = .run ∧ t.safety.causes = [] ∧
      t.safety.release = none ∧ t.safety.drivePower = true ∧
      (∀ l : Lane, s.lanes[l].present = false ∨ s.lanes[l].condition = .parked ∨
          (s.lanes[l].condition = .active ∧ s.safety.drivePower = true) ∨
          (s.lanes[l].condition ≠ .active ∧ s.drives.channels[l].status ≠ .ok) → t.lanes[l] = s.lanes[l]) ∧
      (∀ (l : Lane) (n : Int), s.lanes[l].present = true → s.drives.channels[l].latestCount = some n →
        (s.lanes[l].condition = .active ∧ s.safety.drivePower = false) ∨
          ((∃ why, s.lanes[l].condition = .disabled why) ∧ s.drives.channels[l].status = .ok) →
        t.lanes[l] = { s.lanes[l] with condition := .active, p := n * 256, v := 0, t := n * 256 }) ∧
      (∀ (l : Lane) (h : Hold) (q : Port), s.grants[l].holder = some h → h.who = .station q → t.grants[l] =
        { s.grants[l] with holder := some { h with
            setpoint := t.lanes[l].p
            ctx := match mapDemand s.lens l h.ctx with
              | some m => { h.ctx with o := clampOff (t.lanes[l].p - m) }
              | none => h.ctx } }) ∧
      (∀ (z : ZoneNo) (x : ZoneRecord), t.safety.zones[z].record = s.safety.zones[z].record ∧
        (s.safety.zones[z].record = some x → x.enabled = true → x.kind = .keepOut →
          t.safety.zones[z].exiting = (s.safety.zones[z].exiting || zoneContains t.motion x)))) ∧
    (failing → ∃ t, exec c s = .next t ∧ answered t (Answer.refused .wrongState) ∧ t.lanes = s.lanes ∧
      t.grants = s.grants ∧ t.safety = { s.safety with stop := .stopped, release := none })

/-! ### Parking and the rig record -/

/-- R24, R48, R149, R163, R164: PARK, with every lane at rest and nothing recorded or played, parks every present lane,
clears its grants and deasserts its outputs; else it is refused BUSY, and WRONG_STATE when parked. UNPARK starts every
present lane's record from the rig record as at power-up, S_eff 0, at its drive's count, or at the P it has where the drive
has reported none, ACTIVE, or DISABLED with a DRIVE_FAULT cause where its drive fails; in RUN drive power stays as it is, at
rest it goes OFF, and in STOPPING it will. -/
def Obligations.ParkAndUnpark : Prop :=
  ∀ (rx : Rx) (r : Role) (s : State), Takes rx s → s.ports[rx.port].role = some r → r = .motion ∨ r = .arm →
    (s.drives.parked = true →
      exec (.park rx (.fields ())) s = .next (replied rx (Answer.refused .wrongState) (noteValid rx s))) ∧
    (s.drives.parked = false → (s.recorder.state ≠ .idle ∨ s.play.state ≠ .idle ∨
        ∃ l : Lane, s.lanes[l].present = true ∧ s.lanes[l].v ≠ 0) →
      exec (.park rx (.fields ())) s = .next (replied rx (Answer.refused .busy) (noteValid rx s))) ∧
    (s.drives.parked = false → s.recorder.state = .idle → s.play.state = .idle →
      (∀ l : Lane, s.lanes[l].present = true → s.lanes[l].v = 0) → ∃ t, exec (.park rx (.fields ())) s = .next t ∧
        t.drives.parked = true ∧ t.safety = s.safety ∧
        (∀ l : Lane, t.drives.channels[l].enable = false ∧ t.drives.channels[l].brake = false) ∧
        (∀ l : Lane, s.lanes[l].present = true → t.lanes[l] = { s.lanes[l] with condition := .parked, v := 0 } ∧
          t.grants[l] = { holder := none, stack := [], waiting := [] }) ∧
        (∀ l : Lane, s.lanes[l].present = false → t.lanes[l] = s.lanes[l] ∧ t.grants[l] = s.grants[l]) ∧
        t.ports[rx.port].replies = s.ports[rx.port].replies ++ [Answer.done.reply rx.tag .ordinary]) ∧
    (s.drives.parked = false →
      exec (.unpark rx (.fields ())) s = .next (replied rx (Answer.refused .wrongState) (noteValid rx s))) ∧
    (s.drives.parked = true → ∃ t, exec (.unpark rx (.fields ())) s = .next t ∧ t.drives.parked = false ∧
      (∀ (l : Lane) (p : Int), s.lanes[l].present = true →
        (∃ n, s.drives.channels[l].latestCount = some n ∧ p = n * 256) ∨
          (s.drives.channels[l].latestCount = none ∧ p = s.lanes[l].p) →
        let g := s.rig.record.lanes[l]
        t.lanes[l] = { present := true,
                       condition := if s.drives.channels[l].status = .fault ∨ s.drives.channels[l].missing = 2
                         then .disabled .driveFault else .active,
                       p := p, v := 0, t := p, softMin := g.hardMin, softMax := g.hardMax,
                       vmax := g.defVmax, a := g.defA, astop := max g.defAstop g.defA, k := g.defK, trackTol := 4096,
                       followLimit := g.followCeil, sEff := 0, limitClip := false, capped := false }) ∧
      (∀ l : Lane, s.lanes[l].present = false → t.lanes[l] = s.lanes[l]) ∧
      (∀ l : Lane, s.lanes[l].present = true →
        s.drives.channels[l].status = .fault ∨ s.drives.channels[l].missing = 2 →
        t.hasCause (.driveFault l) = true ∧ t.drives.channels[l].faultReported = true ∧ t.safety.stop ≠ .run) ∧
      ((∀ l : Lane, s.lanes[l].present = true →
          s.drives.channels[l].status ≠ .fault ∧ s.drives.channels[l].missing ≠ 2) →
        t.safety.stop = s.safety.stop ∧ t.safety.causes = s.safety.causes) ∧
      (s.safety.stop = .run → t.safety.drivePower = s.safety.drivePower ∧
        (t.safety.stop = .run ∨ t.safety.stop = .stopping)) ∧
      (s.safety.stop = .stopped ∨ s.safety.stop = .releasing → t.safety.drivePower = false) ∧
      (s.safety.stop = .stopping → t.safety.unparkInRamp = true ∧ t.safety.drivePower = s.safety.drivePower) ∧
      (∀ l : Lane, t.drives.channels[l].enable = t.outputsOn l ∧ t.drives.channels[l].brake = t.outputsOn l) ∧
      t.ports[rx.port].replies = s.ports[rx.port].replies ++ [Answer.done.reply rx.tag .ordinary])

/-- R165 to R168: RIG WRITE is refused TAKE_PROTECTED on a frozen record and BUSY while a freeze waits. One with a value out
of range, hard limits out of order, or a lane outside 0 to 11 in any of its entries is refused BAD_VALUE as a whole; each
entry is judged against the record as the entries before it leave it (log 26). One that would leave a present lane moving
outside its new limits or faster than its new Vmax is refused BUSY (with no adjusted indication: log 46). Taken, it changes
the carried fields and keeps the record in order: hard limits ordered, defaults within the ceilings and the floor, and every
present lane's limits, shaping and followLimit within them. RIG FREEZE is DONE on a frozen record, BUSY while one waits,
WRONG_STATE with no lane present, and else ACCEPTED with the write waiting. -/
def Obligations.RigRecordRequests : Prop :=
  ∀ (rx : Rx) (a : RigArgs) (s : State), TakesMotion rx s →
    (s.rig.record.frozen = true →
      exec (.rigWrite rx (.fields a)) s = .next (replied rx (Answer.refused .takeProtected) (noteValid rx s)) ∧
        exec (.rigFreeze rx (.fields ())) s = .next (replied rx Answer.done (noteValid rx s))) ∧
    (s.rig.record.frozen = false → s.rig.freezePending = true →
      exec (.rigWrite rx (.fields a)) s = .next (replied rx (Answer.refused .busy) (noteValid rx s)) ∧
        exec (.rigFreeze rx (.fields ())) s = .next (replied rx (Answer.refused .busy) (noteValid rx s))) ∧
    (s.rig.record.frozen = false → s.rig.freezePending = false →
      let bad := fun (e : RigEntry) => 12 ≤ e.lane ∨
        (∃ x : Int, (e.hardMin = some x ∨ e.hardMax = some x) ∧ (x < -274877906944 ∨ 274877906944 < x)) ∨
        (∃ x y : Int, e.hardMin = some x ∧ e.hardMax = some y ∧ y < x) ∨
        (∃ x, e.vmaxCeil = some x ∧ (x < 1 ∨ 16777216 < x)) ∨ (∃ x, e.aCeil = some x ∧ (x < 1 ∨ 1048575 < x)) ∨
        (∃ x, e.astopFloor = some x ∧ (x < 1 ∨ 1048575 < x)) ∨ (∃ x, e.followCeil = some x ∧ (x < 1 ∨ 1048576 < x)) ∨
        (∃ x, e.defK = some x ∧ (x < 1 ∨ 65536 < x))
      let raw := applyEntries a.entries s.rig.record.lanes
      let fits := entriesValid a.entries s.rig.record.lanes = true ∧
        LaneSet.inRange (a.presentSet.getD s.rig.record.presentSet) = true ∧
        a.identity.getD s.rig.record.identity < 4294967296
      let next := fun (l : Lane) => rigAdjust (clampDefaults raw[l]) s.lanes[l]
      let blocked := ∃ l : Lane, s.lanes[l].present = true ∧
        ((((next l).p < (next l).softMin ∨ (next l).softMax < (next l).p) ∧ (next l).v ≠ 0) ∨
          (next l).vmax < (next l).v.natAbs)
      ((∃ e ∈ a.entries, bad e) ∨ (∃ ls, a.presentSet = some ls ∧ LaneSet.inRange ls = false) →
        exec (.rigWrite rx (.fields a)) s = .next (replied rx (Answer.refused .badValue) (noteValid rx s))) ∧
      (¬ fits → exec (.rigWrite rx (.fields a)) s = .next (replied rx (Answer.refused .badValue) (noteValid rx s))) ∧
      (fits → blocked → exec (.rigWrite rx (.fields a)) s = .next (replied rx (Answer.refused .busy) (noteValid rx s))) ∧
      (fits → ¬ blocked →
        ∃ t, exec (.rigWrite rx (.fields a)) s = .next t ∧
          t.rig.record.identity = a.identity.getD s.rig.record.identity ∧
          t.rig.record.presentSet = a.presentSet.getD s.rig.record.presentSet ∧ t.rig.record.frozen = false ∧
          (∀ l : Lane, let g := t.rig.record.lanes[l]
            g.hardMin = raw[l].hardMin ∧ g.hardMax = raw[l].hardMax ∧ g.vmaxCeil = raw[l].vmaxCeil ∧
              g.aCeil = raw[l].aCeil ∧ g.astopFloor = raw[l].astopFloor ∧ g.followCeil = raw[l].followCeil ∧
              g.defVmax = clampNat 1 g.vmaxCeil raw[l].defVmax ∧ g.defA = clampNat 1 g.aCeil raw[l].defA ∧
              g.defAstop = max (clampNat g.astopFloor 1048575 raw[l].defAstop) g.defA ∧ g.defK = raw[l].defK) ∧
          (∀ e, a.entries = [e] → ∀ l : Lane,
            (e.lane ≠ l.val → raw[l] = s.rig.record.lanes[l]) ∧ (e.lane = l.val →
              raw[l].hardMin = e.hardMin.getD s.rig.record.lanes[l].hardMin ∧
              raw[l].hardMax = e.hardMax.getD s.rig.record.lanes[l].hardMax ∧
              raw[l].vmaxCeil = e.vmaxCeil.getD s.rig.record.lanes[l].vmaxCeil ∧
              raw[l].aCeil = e.aCeil.getD s.rig.record.lanes[l].aCeil ∧
              raw[l].astopFloor = e.astopFloor.getD s.rig.record.lanes[l].astopFloor ∧
              raw[l].followCeil = e.followCeil.getD s.rig.record.lanes[l].followCeil ∧
              raw[l].defVmax = e.defVmax.getD s.rig.record.lanes[l].defVmax ∧
              raw[l].defA = e.defA.getD s.rig.record.lanes[l].defA ∧
              raw[l].defAstop = e.defAstop.getD s.rig.record.lanes[l].defAstop ∧
              raw[l].defK = e.defK.getD s.rig.record.lanes[l].defK)) ∧
          (∀ l : Lane, s.lanes[l].present = true → let g := t.rig.record.lanes[l]
            t.lanes[l] = { s.lanes[l] with
              softMin := clampInt g.hardMin g.hardMax s.lanes[l].softMin
              softMax := clampInt g.hardMin g.hardMax s.lanes[l].softMax
              vmax := min s.lanes[l].vmax g.vmaxCeil
              a := min s.lanes[l].a g.aCeil
              astop := max (max s.lanes[l].astop g.astopFloor) (min s.lanes[l].a g.aCeil)
              followLimit := min s.lanes[l].followLimit g.followCeil }) ∧
          (∀ l : Lane, s.lanes[l].present = false → t.lanes[l] = s.lanes[l]) ∧
          (∃ x, t.ports[rx.port].replies = s.ports[rx.port].replies ++
            [({ Answer.done with adjusted := x } : Answer).reply rx.tag .ordinary]) ∧
          (s.mem.op.isSome = true → t.rig.store ≠ .stored ∧ Reserved.rig ∈ t.mem.reservedQueue)) ∧
      ((∀ l : Lane, LaneSet.has s.rig.record.presentSet l = false) →
        exec (.rigFreeze rx (.fields ())) s = .next (replied rx (Answer.refused .wrongState) (noteValid rx s))) ∧
      ((∃ l : Lane, LaneSet.has s.rig.record.presentSet l = true) →
        ∃ t, exec (.rigFreeze rx (.fields ())) s = .next t ∧ t.rig.freezePending = true ∧
          t.rig.record = s.rig.record ∧
          t.ports[rx.port].replies = s.ports[rx.port].replies ++ [Answer.accepted.reply rx.tag .ordinary] ∧
          (s.mem.op.isSome = true → Reserved.rig ∈ t.mem.reservedQueue)))

/-! ### Take memory -/

/-- R98, R99, R118, R127: a READ that completes hands over the take's sample. For the Playback Unit it joins the read-ahead
buffer with the positions of the participating lanes; in a segment whose resume sample is not yet found it is dropped, unless
it carries RESUME or is the last of a take with the implied resume: then it is the resume sample and is kept. For a fetch it
joins the fetch, and with the last one the REPLY joins the port's path; for a reader that is gone it is dropped. -/
def Obligations.ReadCompletes : Prop :=
  ∀ (i : SlotNo) (n : Nat) (h : Header) (x : StoredSample) (s : State), (s.takeSamples i)[n]? = some x →
    s.mem.slots[i].header = some h →
    (∀ k, s.mem.op = some (.read i n (.play k)) →
      let read := fun (y : BufSample) => y.index = k ∧ y.marks = x.marks ∧
        (∀ l : Lane, s.participates l = false → y.pos[l] = none) ∧
        ∀ (l : Lane) (j : Nat), s.participates l = true → (LaneSet.members h.lanes)[j]? = some l → y.pos[l] = x.pos[j]?
      let resumes := x.marks.resume = true ∨ (s.playImplied = true ∧ k + 1 = s.play.len)
      let searching := s.play.state = .deferred ∧ s.play.resumeIndex = none
      (¬ searching → ∃ t y, exec .arrayReadDone s = .next t ∧
        t.play = { s.play with nextRead := k + 1, buffer := s.play.buffer ++ [y] } ∧ read y) ∧
      (searching → resumes → ∃ t y, exec .arrayReadDone s = .next t ∧
        t.play = { s.play with nextRead := k + 1, buffer := s.play.buffer ++ [y], resumeIndex := some k } ∧ read y) ∧
      (searching → ¬ resumes → exec .arrayReadDone s = .next (settle ((s.setMem { s.mem with op := none }).setPlay
        { s.play with nextRead := k + 1 })))) ∧
    (∀ (p : Port) (before after : List Fetch) (f : Fetch), s.mem.op = some (.read i n (.fetch p)) →
      s.mem.fetches = before ++ f :: after → f.port = p → (∀ g ∈ before ++ after, g.port ≠ p) →
      (2 ≤ f.left → exec .arrayReadDone s = .next (settle (s.setMem { s.mem with
        op := none
        fetches := before ++
          { f with next := f.next + 1, left := f.left - 1, samples := f.samples ++ [x] } :: after }))) ∧
      (f.left = 1 → s.ports[p].link = .active → ∃ t, exec .arrayReadDone s = .next t ∧
        t.mem.fetches = before ++
          { f with next := f.next + 1, left := 0, samples := f.samples ++ [x] } :: after ∧
        t.ports[p].replies = s.ports[p].replies ++
          [({ outcome := .done, adjusted := f.adjusted, payload := .samples (f.samples ++ [x]) } : Answer).reply
            f.tag .fetch])) ∧
    (s.mem.op = some (.read i n .dropped) →
      exec .arrayReadDone s = .next (settle (s.setMem { s.mem with op := none })))

/-- R76, R78, R86, R95, R99, R107, R110: a sample PROGRAM that succeeds takes the oldest sample from the write queue into
its block with its check, and the take is one sample longer; the last one of a recording that drains finishes the take:
COMPLETE and locked. One that fails sets PROGRAM_FAIL and the block's retire mark and leaves the sample in the queue. A chunk
part moves its samples from its buffer in the same way (its fill then counts what is left, log 41), the last part of a chunk
empties the buffer, and a part that fails is the part still to program. A part that is not the last leaves the rest in the
buffer while a block is FREE for it. The block's state is stored each time, a discarded upload's DIRTY or BAD block among
them (log 40). -/
def Obligations.ProgramCompletes : Prop :=
  ∀ (i : SlotNo) (b : BlockNo) (s : State),
    (∀ (x : Sample) (rest : List Sample), s.mem.op = some (.programSample i b) → s.recorder.queue = x :: rest →
      (s.recorder.state ≠ .draining ∨ rest ≠ [] → exec (.programSampleDone true) s = .next (settle
        ((storeBlock b ((((s.setMem { s.mem with op := none }).setBlock b fun y =>
          { y with data := y.data ++ [storeSample x.offset x.marks x.pos] })).setSlot i fun y =>
            { y with header := y.header.map fun h => { h with length := h.length + 1 } })).setRecorder
          { s.recorder with queue := rest }))) ∧
      (∀ h, s.recorder.state = .draining → rest = [] → s.recorder.slot = some i → s.mem.slots[i].header = some h →
        ∃ t, exec (.programSampleDone true) s = .next t ∧ t.recorder = Recorder.reset ∧
          t.mem.slots[i].state = .complete ∧ t.mem.slots[i].locked = true ∧ t.mem.slots[i].openLocked = true ∧
          t.mem.slots[i].down = false ∧ t.mem.slots[i].header = some { h with
            length := h.length + 1
            interrupted := s.recorder.outcome.getD .done ≠ .done
            impliedResume := s.recorder.spanOpen })) ∧
    (s.mem.op = some (.programSample i b) → exec (.programSampleDone false) s = .next (settle (storeBlock b
      ((s.setMem { s.mem with op := none, programFail := true }).setBlock b fun y =>
        { y with state := y.state.retire })))) ∧
    (∀ (k : Fin 2) (n : Nat), s.mem.op = some (.chunkPart i b k n true) →
      (exec (.chunkPartDone false) s = .next (settle (storeBlock b
        (((s.setMem { s.mem with op := none, programFail := true }).setBlock b fun y =>
          { y with state := y.state.retire }).setBuffer k fun y => { y with part := some n })))) ∧
      (s.recorder.slot ≠ some i → s.mem.buffers[k].samples.length ≤ n → s.mem.buffers[k].samples ≠ [] →
        ∃ t, exec (.chunkPartDone true) s = .next t ∧ t.mem.buffers[k] = { state := .empty, samples := [], first := 0, last := none, part := none } ∧
        t.mem.slots[i].length = (if s.mem.slots[i].header.isSome
          then s.mem.slots[i].length + s.mem.buffers[k].samples.length else 0) ∧
        (s.mem.blocks[b].state ≠ .free → t.mem.blocks[b].data = s.mem.blocks[b].data ++
          s.mem.buffers[k].samples.map fun x => storeSample x.offset (marksOf x.marks) x.pos)) ∧
      (n < s.mem.buffers[k].samples.length → s.mem.buffers[k].state = .programming → 0 < n →
        ∃ t, exec (.chunkPartDone true) s = .next t ∧
          (s.mem.blocks[b].state ≠ .free → t.mem.blocks[b].data = s.mem.blocks[b].data ++
            (s.mem.buffers[k].samples.take n).map fun x => storeSample x.offset (marksOf x.marks) x.pos) ∧
          (s.uploadSlot = some i → s.mem.slots[i].header.isSome = true →
            (∀ j, s.recorder.queue ≠ [] → s.recorder.slot = some j → s.mem.slots[j].header.isSome = true) →
            (∃ c : BlockNo, s.mem.blocks[c].state = .free) → t.mem.buffers[k].samples = s.mem.buffers[k].samples.drop n) ∧
          (t.mem.buffers[k].samples = s.mem.buffers[k].samples.drop n ∨
            t.mem.buffers[k] = { state := .empty, samples := [], first := 0, last := none, part := none }))) ∧
    (∀ (k : Fin 2) (n : Nat), s.mem.op = some (.chunkPart i b k n false) →
      exec (.chunkPartDone true) s = .next (settle (storeBlock b (s.setMem { s.mem with op := none }))) ∧
        exec (.chunkPartDone false) s = .next (settle (storeBlock b
          ((s.setMem { s.mem with op := none, programFail := true }).setBlock b fun y => { y with state := .bad }))))

/-- R66, R76, R77, R83, R84, R85, R165, R167: an erase that ends verified leaves its block FREE and empty for the next
allocation, one that fails leaves it BAD with ERASE_FAIL and raises BLOCK_BAD to the MOTION station, naming the block and
the cause ERASE; either way the state is stored and the array falls free for the scheduler; a suspend leaves it suspended,
or ends the erase where that was already finished; a resume goes on with the erase, or has it suspended for a recording or a
playback that became active meanwhile. A reserved-area write stores its content, a directory write the states of the
released blocks it carries with it, or sets PROGRAM_FAIL and leaves the stored copy; the profile or the rig record is then
STORED, or FAILED, or still waits where more of it is queued. A freeze write that succeeds freezes the record, and one that
fails does not; either ends the pending freeze and is reported by RIG_FROZEN to the MOTION station. -/
def Obligations.EraseAndReservedWriteComplete : Prop :=
  ∀ (b : BlockNo) (s : State),
    (∀ c, (c = .eraseDone true ∧ s.mem.op = some (.erase b)) ∨
        (c = .eraseSuspendDone (.finished true) ∧ s.mem.op = some (.suspend b)) →
      let u := storeBlock b ((s.setMem { s.mem with op := none }).setBlock b fun _ => { state := .free, data := [] })
      exec c s = .next (settle u) ∧ u.mem.op = none ∧ u.mem.stored.blocks[b] = .free ∧
        ∃ x, u.lowestFree = some x ∧ x ≤ b ∧ (s.lowestFree = none → x = b)) ∧
    (∀ c, (c = .eraseDone false ∧ s.mem.op = some (.erase b)) ∨
        (c = .eraseSuspendDone (.finished false) ∧ s.mem.op = some (.suspend b)) →
      let u := raiseMotion (.blockBad b) (storeBlock b
        ((s.setMem { s.mem with op := none, eraseFail := true }).setBlock b fun x => { x with state := .bad }))
      exec c s = .next (settle u) ∧ u.mem.op = none ∧ u.mem.stored.blocks[b] = .bad ∧
        encEventBody (.blockBad b) = (11, beNat 4 b.val ++ [0]) ∧
        ∀ p : Port, s.ports[p].link = .active → s.ports[p].role = some .motion →
          { f := s.tb.f, t := s.tb.t, body := .blockBad b } ∈ (settle u).ports[p].events ∨
            (settle u).ports[p].eventsLost = true) ∧
    (s.mem.op = some (.suspend b) → exec (.eraseSuspendDone .unfinished) s = .next (settle
      ((s.setBlock b fun x => { x with state := .erasing true }).setMem
        { (s.setBlock b fun x => { x with state := .erasing true }).mem with op := none }))) ∧
    (∀ again, s.mem.op = some (.resume b again) → ∃ t, exec .eraseResumeDone s = .next t ∧
      t.mem = { s.mem with op := some (if again then .suspend b else .erase b) }) ∧
    (∀ w, s.mem.op = some (.reserved w) →
      (∃ t, exec (.reservedWriteDone false) s = .next t ∧ t.mem.programFail = true ∧
        ∀ i : SlotNo, t.mem.stored.slots[i] = s.mem.stored.slots[i]) ∧
      (∀ i content released, w = .dir i content released → ∃ t, exec (.reservedWriteDone true) s = .next t ∧
        t.mem.stored.slots[i] = content ∧ t.mem.programFail = s.mem.programFail) ∧
      (∀ i content released, w = .dir i content released → ∃ x : Stored,
        exec (.reservedWriteDone true) s = .next (settle (s.setMem { s.mem with op := none, stored := x })) ∧
        x.slots[i] = content ∧ (∀ j : SlotNo, j ≠ i → x.slots[j] = s.mem.stored.slots[j]) ∧
        x.profiles = s.mem.stored.profiles ∧ x.rig = s.mem.stored.rig ∧
        ∀ c : BlockNo, ((∀ y, (c, y) ∉ released) → x.blocks[c] = s.mem.stored.blocks[c]) ∧
          ∀ y, (c, y) ∈ released → (∀ z, (c, z) ∈ released → z = y) → x.blocks[c] = y) ∧
      (∀ k content, w = .profile k content → ∃ t, exec (.reservedWriteDone true) s = .next t ∧
        t.mem.stored.profiles[k] = some content ∧ (Reserved.profile k ∉ s.mem.reservedQueue →
          t.lens.slots[k] = { s.lens.slots[k] with store := .stored })) ∧
      (∀ k content, w = .profile k content →
        (∃ t, exec (.reservedWriteDone false) s = .next t ∧ t.mem.stored.profiles[k] = s.mem.stored.profiles[k] ∧
          (Reserved.profile k ∉ s.mem.reservedQueue → t.lens.slots[k] = { s.lens.slots[k] with store := .failed })) ∧
        ∀ ok, Reserved.profile k ∈ s.mem.reservedQueue → ∃ t, exec (.reservedWriteDone ok) s = .next t ∧
          (t.lens.slots[k].store = .writeWaiting ∨ t.lens.slots[k].store = .writing)) ∧
      (∀ content, w = .rig content → ∃ t, exec (.reservedWriteDone true) s = .next t ∧
        t.mem.stored.rig = some content ∧
        (content.frozen = true → s.rig.freezePending = true →
          t.rig.record.frozen = true ∧ t.rig.freezePending = false) ∧
        (content.frozen = false → t.rig.record = s.rig.record ∧ t.rig.freezePending = s.rig.freezePending)) ∧
      ∀ content ok, w = .rig content → ∃ t, exec (.reservedWriteDone ok) s = .next t ∧
        (ok = false → t.mem.stored.rig = s.mem.stored.rig ∧ t.rig.record = s.rig.record) ∧
        (Reserved.rig ∉ s.mem.reservedQueue → t.rig.store = if ok then .stored else .failed) ∧
        (Reserved.rig ∈ s.mem.reservedQueue → t.rig.store = .writeWaiting ∨ t.rig.store = .writing) ∧
        (content.frozen = true → s.rig.freezePending = true → t.rig.freezePending = false ∧
          ∀ p : Port, s.ports[p].link = .active → s.ports[p].role = some .motion →
            (∃ e ∈ t.ports[p].events, e.body = .rigFrozen ok) ∨ t.ports[p].eventsLost = true) ∧
        (content.frozen = false ∨ s.rig.freezePending = false → t.rig.freezePending = s.rig.freezePending))

/-- R66, R76, R78, R81, R86, R95, R111, R165, R167: what a free array starts: the first of the eight positions that is
waiting. A busy array, and one in STARTING, starts nothing. A reserved-area write takes its content as it stands then: a
slot's record with the releases it carries (once, log 38), a profile, or the rig record with frozen set where a freeze
waits. A PROGRAM writes the take's last block, or, where that has no room for it, the lowest FREE block, which it appends to
the take's list (places: log 45); after a failed chunk part the same part is programmed. With no block FREE the work ends
NO_ROOM: a recording with the samples programmed (its span: log 17; with none not interrupted: log 28), or the chunks that
wait, with the continuity of what the take holds. -/
def Obligations.SchedulerOrder : Prop :=
  ∀ s : State,
    (s.starting = true ∨ s.mem.op.isSome = true → schedule s = s) ∧
    (s.starting = false → s.mem.op = none →
      let read := s.playWantsRead
      let queue := s.recorder.queue.length
      (∀ i, read = true → s.play.buffer.length < 4 ∨ queue < 4 → s.play.slot = some i →
        (schedule s).mem.op = some (.read i s.play.nextRead (.play s.play.nextRead))) ∧
      (∀ i b n, (read = true ∧ 4 ≤ s.play.buffer.length ∧ 4 ≤ queue) ∨ (read = false ∧ 1 ≤ queue) →
        s.recorder.slot = some i → s.lastRoom i = some (b, n + 1) →
        (schedule s).mem.op = some (.programSample i b)) ∧
      (∀ i, (read = true ∧ 4 ≤ s.play.buffer.length ∧ 4 ≤ queue) ∨ (read = false ∧ 1 ≤ queue) →
        s.recorder.slot = some i → (∀ b n, s.lastRoom i ≠ some (b, n + 1)) →
        (∀ (h : Header) (c : BlockNo), s.mem.slots[i].header = some h → s.mem.blocks[c].state = .free →
          (∀ d : BlockNo, d < c → s.mem.blocks[d].state ≠ .free) →
          (schedule s).mem.op = some (.programSample i c) ∧
          (schedule s).mem.blocks[c] = { state := .used i s.mem.slots[i].blocks.length false, data := [] } ∧
          (schedule s).mem.slots[i] = { s.mem.slots[i] with blocks := s.mem.slots[i].blocks ++ [c] }) ∧
        ((∀ c : BlockNo, s.mem.blocks[c].state ≠ .free) → s.recorder.state = .recording ∨ s.recorder.state = .draining →
          let n := s.mem.slots[i].length
          let x := (schedule s).mem.slots[i]
          (schedule s).recorder = Recorder.reset ∧
          (n = 0 → x.state = .empty ∧ x.header = none ∧ x.blocks = []) ∧
          (n ≠ 0 → x.state = .complete ∧ x.locked = true ∧ x.openLocked = true ∧ x.down = false ∧
            x.blocks = s.mem.slots[i].blocks ∧ x.header = s.mem.slots[i].header.map fun h =>
              { h with interrupted := true, impliedResume := spanOf (s.takeSamples i) }) ∧
          ∀ p : Port, s.ports[p].link = .active → s.ports[p].role = some .motion →
            (∃ e ∈ (schedule s).ports[p].events, ∃ dropped first last, e.body = .recordEnd (some i) .noRoom n
              (decide (n ≠ 0)) (decide (n ≠ 0) && spanOf (s.takeSamples i)) dropped first last) ∨
              (schedule s).ports[p].eventsLost = true)) ∧
      (read = false → queue = 0 →
        (∀ i rest, s.mem.reservedQueue = .dir i :: rest →
          (schedule s).mem.reservedQueue = rest ∧ (schedule s).mem.op = some (.reserved (.dir i
            { state := s.mem.slots[i].state, header := s.mem.slots[i].header }
            (s.mem.slots[i].released.map fun b => (b, s.mem.blocks[b].state)))) ∧
          (schedule s).mem.slots[i] = { s.mem.slots[i] with released := [] }) ∧
        (∀ k rest, s.mem.reservedQueue = .profile k :: rest →
          (schedule s).mem.reservedQueue = rest ∧
            (schedule s).mem.op = some (.reserved (.profile k s.lens.slots[k].profile)) ∧
            (schedule s).lens.slots[k] = { s.lens.slots[k] with store := .writing }) ∧
        (∀ rest, s.mem.reservedQueue = .rig :: rest →
          (schedule s).mem.reservedQueue = rest ∧ (schedule s).rig = { s.rig with store := .writing } ∧
            (schedule s).mem.op = some (.reserved (.rig
              { s.rig.record with frozen := s.rig.record.frozen || s.rig.freezePending }))) ∧
        (s.mem.reservedQueue = [] →
          (∀ i k b n, s.uploadSlot = some i → s.chunkBuffer = some k → s.lastRoom i = some (b, n + 1) →
            (schedule s).mem.op = some (.chunkPart i b k
              (min (n + 1) (s.mem.buffers[k].part.getD s.mem.buffers[k].samples.length)) true)) ∧
          (∀ i k, s.uploadSlot = some i → s.chunkBuffer = some k → (∀ b n, s.lastRoom i ≠ some (b, n + 1)) →
            (∀ (h : Header) (c : BlockNo), s.mem.slots[i].header = some h → s.mem.blocks[c].state = .free →
              (∀ d : BlockNo, d < c → s.mem.blocks[d].state ≠ .free) →
              (schedule s).mem.op = some (.chunkPart i c k (min (524288 / (8 + 8 * h.laneCount))
                (s.mem.buffers[k].part.getD s.mem.buffers[k].samples.length)) true) ∧
              (schedule s).mem.blocks[c] = { state := .used i s.mem.slots[i].blocks.length false, data := [] } ∧
              (schedule s).mem.slots[i] = { s.mem.slots[i] with blocks := s.mem.slots[i].blocks ++ [c] }) ∧
            ((∀ c : BlockNo, s.mem.blocks[c].state ≠ .free) →
              (∀ j : Fin 2, j ≠ k → s.mem.buffers[j].state ≠ .programming) →
              let empty : StageBuffer := { state := .empty, samples := [], first := 0, last := none, part := none }
              let ended := fun (j : Fin 2) => ∀ p : Port, s.ports[p].link = .active → s.ports[p].role = some .motion →
                (∃ e ∈ (schedule s).ports[p].events, e.body = .chunkDone true s.mem.buffers[j].first s.mem.buffers[j].last) ∨
                  (schedule s).ports[p].eventsLost = true
              (schedule s).mem.slots = s.mem.slots ∧ (schedule s).mem.buffers[k] = empty ∧ ended k ∧
              (schedule s).mem.upload =
                { nextOffset := s.mem.slots[i].length, spanOpen := spanOf (s.takeSamples i) } ∧
              ∀ j : Fin 2, j ≠ k →
                ((∃ n, s.mem.buffers[j].state = .queued n) → (schedule s).mem.buffers[j] = empty ∧ ended j) ∧
                ((∀ n, s.mem.buffers[j].state ≠ .queued n) → (schedule s).mem.buffers[j] = s.mem.buffers[j]))) ∧
          (s.uploadSlot = none ∨ s.chunkBuffer = none →
            (∀ f, s.nextFetch = some f → (schedule s).mem.op = some (.read f.slot f.next (.fetch f.port))) ∧
            (s.nextFetch = none →
              (s.recActive = true ∨ s.playActive = true → schedule s = s) ∧
              (s.recActive = false → s.playActive = false →
                (∀ b, s.suspendedErase = some b → (schedule s).mem.op = some (.resume b false)) ∧
                (∀ b, s.suspendedErase = none → s.lowestDirty = some b → (schedule s).mem.op = some (.erase b)) ∧
                (s.suspendedErase = none → s.lowestDirty = none → schedule s = s)))))))

/-! ### The station links -/

/-- R172 to R176, R180, R185: a DOWN port that sees idle fill offers; the third ABILITY of one role in a row obtains it,
MOTION only while it is free and OBSERVER else; the acknowledgement that names it makes the port ACTIVE at its level, any
other ABILITY takes the port back to OFFER; in OFFER an acknowledging or malformed ABILITY clears both runs (and an ACTIVE
port that is free to send goes on with what waits there); a port not ACTIVE at its deadline FAILS, and after 1 s it offers
again where it recognises the pattern, or is DOWN. An ABILITY OFFER goes out at entry to OFFER and ACKNOWLEDGE, at the
return from there (log 50), and every 10 ms after it, carrying what stands; one that is not due is no event (log 4). A
discarded frame latches CHECK_ERROR outside DOWN. -/
def Obligations.LinkNegotiation : Prop :=
  ∀ (p : Port) (time : Nat) (s : State),
    (s.starting = true ∨ s.ports[p].link ≠ .down → exec (.idleFill p time) s = .next s) ∧
    (∀ c, (c = .idleFill p time ∧ s.starting = false ∧ s.ports[p].link = .down) ∨
        (∃ d, c = .failedTimeout p time true ∧ s.ports[p].link = .failed ∧ s.ports[p].failedSince = some d ∧
          d + 1000000 ≤ time) → ∃ t, exec c s = .next t ∧ t.setPorts s.ports = s ∧
      (∀ q, q ≠ p → t.ports[q] = s.ports[q]) ∧ t.ports[p] = { s.ports[p] with
        link := .offer, role := none, abilityRole := none, abilityCount := 0, otherRun := 0,
        deadline := some (time + 1000000), failedSince := none, nextOffer := some (time + 10000),
        offer := some { presentSet := s.presentLanes, motionFree := s.motionFree, ack := false, granted := none } }) ∧
    (∀ d, s.ports[p].link = .failed → s.ports[p].failedSince = some d → d + 1000000 ≤ time →
      exec (.failedTimeout p time false) s =
        .next (s.setPort p fun q => { q with link := .down, failedSince := none })) ∧
    (∀ d, s.ports[p].deadline = some d → s.ports[p].link = .offer ∨ s.ports[p].link = .acknowledge → d ≤ time →
      exec (.negotiationDeadline p time) s = .next (s.setPort p fun q =>
        { q with link := .failed, role := none, deadline := none, nextOffer := none, failedSince := some d })) ∧
    (∀ d, s.ports[p].nextOffer = some d →
      (s.ports[p].link = .offer → d ≤ time → exec (.abilityOffer { port := p, time := time }) s = .next (s.setPort p fun q => { q with
        offer := some { presentSet := s.presentLanes, motionFree := s.motionFree, ack := false, granted := none }
        nextOffer := some (d + 10000) })) ∧
      (s.ports[p].link = .acknowledge → d ≤ time → exec (.abilityOffer { port := p, time := time }) s = .next (s.setPort p fun q => { q with
        offer := some { presentSet := s.presentLanes, motionFree := s.motionFree, ack := true, granted := s.ports[p].role }
        nextOffer := some (d + 10000) })) ∧
      (time < d → exec (.abilityOffer { port := p, time := time }) s = .next s)) ∧
    (s.ports[p].nextOffer = none ∨ (s.ports[p].link ≠ .offer ∧ s.ports[p].link ≠ .acknowledge) →
      exec (.abilityOffer { port := p, time := time }) s = .next s) ∧
    (s.ports[p].link ≠ .down → exec (.discardedFrame p) s =
      .next (s.setPort p fun q => { q with checkError := true })) ∧
    (s.ports[p].link = .down → exec (.discardedFrame p) s = .next s) ∧
    ∀ (rx : Rx) (a : Ability), rx.port = p →
      (∀ body, s.ports[p].link = .offer → body = .malformed ∨ (body = .fields a ∧ a.ack = true) →
        exec (.ability rx body) s = .next (pump (s.setPort p fun q =>
          { q with lastValid := some rx.time, abilityRole := none, abilityCount := 0, otherRun := 0 }))) ∧
      (s.ports[p].link = .offer → a.ack = false → ∃ t, exec (.ability rx (.fields a)) s = .next t ∧
        t.ports[p].lastValid = some rx.time ∧ t.ports[p].otherRun = 0 ∧ t.ports[p].abilityRole = some a.wanted ∧
        (s.ports[p].abilityRole ≠ some a.wanted → t.ports[p].abilityCount = 1 ∧ t.ports[p].link = .offer) ∧
        (s.ports[p].abilityRole = some a.wanted → t.ports[p].abilityCount = s.ports[p].abilityCount + 1 ∧
          (s.ports[p].abilityCount < 2 → t.ports[p].link = .offer) ∧
          (2 ≤ s.ports[p].abilityCount → t.ports[p].link = .acknowledge ∧
            t.ports[p].nextOffer = some (rx.time + 10000) ∧ (∃ o, t.ports[p].offer = some o ∧ o.ack = true ∧
              o.presentSet = s.presentLanes ∧ o.granted = t.ports[p].role) ∧ t.ports[p].role =
            some (if a.wanted = .motion ∧ s.motionFree = false then .observer else a.wanted)))) ∧
      (∀ r, s.ports[p].link = .acknowledge → s.ports[p].role = some r →
        (a.ack = true → a.wanted = r → ∃ t, exec (.ability rx (.fields a)) s = .next t ∧ t.ports[p].link = .active ∧
          t.ports[p].role = some r ∧ t.ports[p].level = roleLevel r ∧ t.ports[p].replies = [] ∧
          t.ports[p].leaving = false ∧ t.ports[p].deadline = none ∧ t.ports[p].nextOffer = none) ∧
        (∀ body, body = .malformed ∨ (body = .fields a ∧ (a.ack = false ∨ a.wanted ≠ r)) →
          ∃ t, exec (.ability rx body) s = .next t ∧ t.ports[p].link = .offer ∧ t.ports[p].role = none ∧
            t.ports[p].abilityRole = none ∧ t.ports[p].abilityCount = 0 ∧ t.ports[p].otherRun = 0 ∧
            t.ports[p].deadline = s.ports[p].deadline ∧ t.ports[p].nextOffer = some (rx.time + 10000)))

/-- R177, R47, R98, R133, R154: 100 ms of silence, or the last frame of the answer to LEAVE, takes an ACTIVE link DOWN with
LINK_LOST latched and its queues empty, a frame being sent cut off (log 51): it has no place left on any lane and no fetch,
and a release it asked for ends in STOPPED. With the MOTION station the playback ends, a recording ends or drains and an
upload is discarded. -/
def Obligations.LinkLossClearsTheStation : Prop :=
  ∀ (c : Instr) (p : Port) (s : State), s.ports[p].link = .active →
    (∃ time v, c = .linkSilence p time ∧ s.ports[p].leaving = false ∧ s.ports[p].lastValid = some v ∧
        v + 100000 ≤ time) ∨
      (∃ r rest, c = .leaveReplySent p ∧ s.ports[p].sending = some .reply ∧ s.ports[p].replies = r :: rest ∧
        r.kind = .leave ∧ replyFrameCount r ≤ r.framesSent + 1) →
    ∃ t, exec c s = .next t ∧ t.ports[p].link = .down ∧ t.ports[p].role = none ∧ t.ports[p].level = none ∧
      t.ports[p].linkLost = true ∧ t.ports[p].events = [] ∧ t.ports[p].replies = [] ∧ t.ports[p].telemetry = none ∧
      t.ports[p].sending = none ∧ t.lanes = s.lanes ∧
      (∀ q, q ≠ p → t.ports[q].link = s.ports[q].link ∧ t.ports[q].role = s.ports[q].role) ∧
      (∀ l : Lane, p ∉ t.grants[l].places) ∧ (∀ f ∈ t.mem.fetches, f.port ≠ p) ∧
      (∀ r, s.safety.release = some r → r.asker = p →
        t.safety = { s.safety with stop := .stopped, release := none }) ∧
      ((∀ r, s.safety.release = some r → r.asker ≠ p) → t.safety = s.safety) ∧
      (s.ports[p].role = some .motion → t.play.state = .idle ∧
        (t.recorder.state = .idle ∨ t.recorder.state = .draining) ∧
        ∀ i, s.uploadSlot = some i → s.recorder.slot ≠ some i → t.mem.slots[i].state = .empty) ∧
      (s.ports[p].role ≠ some .motion → t.play = s.play)

/-! ### Requests: the link and the grants -/

/-- R87, R177, R178, R179, R183: PING is answered DONE; a request of no known kind is refused UNKNOWN; QUERY answers with
the named table as it stands, and one of the stations clears every port's latched flags; LEAVE is answered and from then on
the port's requests are discarded; TAKE STATUS CLEAR clears the three sticky flags. Nothing else changes. -/
def Obligations.PlainRequests : Prop :=
  ∀ (rx : Rx) (s : State), Takes rx s →
    exec (.ping rx (.fields ())) s = .next (replied rx Answer.done (noteValid rx s)) ∧
    exec (.unknownRequest rx) s = .next (replied rx (Answer.refused .unknown) (noteValid rx s)) ∧
    (∀ n, n ≠ .stations → exec (.query rx (.fields n)) s =
      .next (replied rx { Answer.done with payload := .table (s.table n) } (noteValid rx s))) ∧
    exec (.query rx (.fields .stations)) s = .next (replied rx { Answer.done with payload := .table (s.table .stations) }
      ((noteValid rx s).setPorts (mapAll (noteValid rx s).ports fun _ q =>
        { q with linkLost := false, checkError := false, requestsLost := false }))) ∧
    exec (.leave rx (.fields ())) s = .next (settle (pushReply rx.port (Answer.done.reply rx.tag .leave)
      ((noteValid rx s).setPort rx.port fun q => { q with leaving := true }))) ∧
    (s.ports[rx.port].role = some .motion → exec (.takeStatusClear rx (.fields ())) s = .next (replied rx Answer.done
      ((noteValid rx s).setMem { s.mem with programFail := false, eraseFail := false, chunkReject := false })))

/-- R38, R39, R42 to R46, R50, R51: ACQUIRE and YIELD of one lane. ACQUIRE judges presence, right, parking and the station's
own places in that order (its table's: log 39); a stronger station gains the lane at once, its holder going on the stack
with its context, and any other waits with the next arrival number. When a station yields a lane it holds, the top of the
stack is restored, switched in at P, unless a stronger entry waits; then, or with no stack, the best waiting entry gains it;
else the lane has no holder. Nothing of the other lanes changes. With several lanes each fares as alone, in ascending index
and with the arrival numbers that the lanes before it left, and the REPLY has one result per index named; an empty set is
refused BAD_VALUE. -/
def Obligations.AcquireAndYieldOneLane : Prop :=
  (∀ (rx : Rx) (s : State), Takes rx s →
    exec (.acquire rx (.fields 0)) s = .next (replied rx (Answer.refused .badValue) (noteValid rx s)) ∧
      exec (.yield rx (.fields 0)) s = .next (replied rx (Answer.refused .badValue) (noteValid rx s))) ∧
  (∀ (rx : Rx) (ls : LaneSet) (s : State), Takes rx s → ls ≠ 0 →
    ∀ c : LaneSet → Instr, (c = fun x => .acquire rx (.fields x)) ∨ (c = fun x => .yield rx (.fields x)) →
    ∃ t rs, exec (c ls) s = .next t ∧ rs.map (fun x : Nat × LaneResult => x.1) = LaneSet.indices ls ∧
      t.ports[rx.port].replies = s.ports[rx.port].replies ++
        [({ Answer.done with results := rs } : Answer).reply rx.tag .ordinary] ∧
      t.nextArrival = s.nextArrival + (rs.filter fun x => x.2 = .pending).length ∧
      (∀ (i : Nat) (x : LaneResult), (i, x) ∈ rs → 12 ≤ i → x = .badValue) ∧
      (∀ l : Lane, LaneSet.has ls l = false → t.grants[l] = s.grants[l]) ∧
      ∀ (l : Lane) (before after : List (Nat × LaneResult)) (x : LaneResult), rs = before ++ (l.val, x) :: after →
        ∃ u, exec (c (1#16 <<< l.val))
            (s.setNextArrival (s.nextArrival + (before.filter fun y => y.2 = .pending).length)) = .next u ∧
          t.grants[l] = u.grants[l] ∧ t.lanes[l] = u.lanes[l] ∧
          u.ports[rx.port].replies = s.ports[rx.port].replies ++
            [({ Answer.done with results := [(l.val, x)] } : Answer).reply rx.tag .ordinary]) ∧
  ∀ (rx : Rx) (l : Lane) (r : Role) (s : State), Takes rx s → s.ports[rx.port].role = some r →
    s.ports[rx.port].level = (match r with
      | .motion => some 2
      | .arm => some 3
      | .lens => some 3
      | .assist => some 4
      | .observer => none) →
    let acquire := exec (.acquire rx (.fields (1#16 <<< l.val))) s
    let yield_ := exec (.yield rx (.fields (1#16 <<< l.val))) s
    let answer := fun (x : LaneResult) => ({ Answer.done with results := [(l.val, x)] } : Answer)
    let unchanged := fun (x : LaneResult) =>
      (Host.Outcome.next (replied rx (answer x) (noteValid rx s)) : Host.Outcome State Fault Refusal)
    let g := s.grants[l]
    let right := r = .motion ∨ r = .assist ∨ (r = .arm ∧ (l.val ≤ 5 ∨ 9 ≤ l.val)) ∨
      (r = .lens ∧ 6 ≤ l.val ∧ l.val ≤ 8)
    let holds := ∃ h, g.holder = some h ∧ h.who = .station rx.port
    let waits := ∃ e ∈ g.waiting, e.port = rx.port
    let stacked := ∃ e ∈ g.stack, e.port = rx.port
    let others := fun (t : State) (x : LaneResult) => (∀ j : Lane, j ≠ l → t.grants[j] = s.grants[j]) ∧ t.lanes = s.lanes ∧
      t.ports[rx.port].replies = s.ports[rx.port].replies ++ [(answer x).reply rx.tag .ordinary]
    (s.lanes[l].present = false → acquire = unchanged .badValue ∧ yield_ = unchanged .badValue) ∧
    (s.lanes[l].present = true →
      (¬ right → acquire = unchanged .noRight) ∧
      (right → s.lanes[l].condition = .parked → acquire = unchanged .wrongState) ∧
      (right → s.lanes[l].condition ≠ .parked →
        (holds → acquire = unchanged .holding) ∧
        (¬ holds → waits → acquire = unchanged .waiting) ∧
        (¬ holds → ¬ waits → stacked → acquire = unchanged .suspended) ∧
        (∀ q, ¬ holds → ¬ waits → ¬ stacked → s.ports[rx.port].level = some q →
          (q < g.level → ∃ t, acquire = .next t ∧ others t .gained ∧ t.nextArrival = s.nextArrival ∧ t.grants[l] =
            { holder := some { who := .station rx.port, level := q, setpoint := s.lanes[l].p,
                               ctx := { kind := .abs, d := none, o := 0, trim := 65536 } },
              stack := (match g.holder with
                | some ⟨.station o, lv, _, c⟩ => { port := o, level := lv, ctx := c } :: g.stack
                | _ => g.stack),
              waiting := g.waiting }) ∧
          (g.level ≤ q → ∃ t, acquire = .next t ∧ others t .pending ∧ t.nextArrival = s.nextArrival + 1 ∧ t.grants[l] =
            { g with waiting := g.waiting ++ [{ port := rx.port, level := q, arrival := s.nextArrival }] }))) ∧
      (¬ holds → ¬ waits → ¬ stacked → yield_ = unchanged .notHeld) ∧
      (¬ holds → waits ∨ stacked → ∃ t, yield_ = .next t ∧ others t .released ∧ t.grants[l] =
        { g with stack := g.stack.filter fun e => e.port ≠ rx.port,
                 waiting := g.waiting.filter fun e => e.port ≠ rx.port }) ∧
      (holds →
        (g.stack = [] → g.waiting = [] → ∃ t, yield_ = .next t ∧ others t .released ∧
          t.grants[l] = { holder := none, stack := [], waiting := [] }) ∧
        (∀ top rest, g.stack = top :: rest → (∀ e ∈ g.waiting, top.level ≤ e.level) →
          ∃ t, yield_ = .next t ∧ others t .released ∧ t.grants[l] =
            { holder := some { who := .station top.port, level := top.level, setpoint := s.lanes[l].p,
                               ctx := match mapDemand s.lens l top.ctx with
                                 | some m => { top.ctx with o := clampOff (s.lanes[l].p - m) }
                                 | none => top.ctx },
              stack := rest, waiting := g.waiting }) ∧
        (∀ e, e ∈ g.waiting →
          (∀ x ∈ g.waiting, x = e ∨ e.level < x.level ∨ (e.level = x.level ∧ e.arrival < x.arrival)) →
          (∀ top, g.stack.head? = some top → e.level < top.level) →
          ∃ t, yield_ = .next t ∧ others t .released ∧ t.grants[l] =
            { holder := some { who := .station e.port, level := e.level, setpoint := s.lanes[l].p,
                               ctx := { kind := .abs, d := none, o := 0, trim := 65536 } },
              stack := g.stack, waiting := g.waiting.filter fun x => x ≠ e })))

/-- R2, R51, R53 to R57: DEMAND and TRIM, entry by entry: the entries of a list act in order, each on the state the one
before left, with the ignored counts summed and the indications joined. Of one entry: the holder's ABS entry is clamped to the position range and its LENS entry
to 0 to 1,000,000; one of the kind in use sets D, and one of another kind, or the first, is switched in so that the target
is P. STEP entries add up from 0 at P. TRIM is clamped to 0 to 65536 and taken by the holder's or the suspended context.
Entries for an absent lane, a LENS entry without a table and entries of a station that does not hold the lane are ignored
and counted; they are judged in that order, and a clamp that changes the value of an ignored entry sets the adjusted
indication too (log 32). An index outside 0 to 11 is answered as an absent lane is. -/
def Obligations.DemandAndTrimEntries : Prop :=
  ∀ (rx : Rx) (l : Lane) (value : Int) (scale : Nat) (s : State), Takes rx s →
    let demand := fun (k : DemandKind) => exec (.demand rx (.fields [{ lane := l.val, kind := k, value := value }])) s
    let trim := exec (.trim rx (.fields [{ lane := l.val, scale := scale }])) s
    let p := s.lanes[l].p
    let v := clampInt (-274877906944) 274877906944 value
    let u := clampInt 0 1000000 value
    let w := clampNat 0 65536 scale
    let ignored := fun (adjusted : Bool) => ({ Answer.done with ignored := 1, adjusted := adjusted } : Answer)
    let out := fun (a : Answer) => (Host.Outcome.next (replied rx a (noteValid rx s)) : Host.Outcome State Fault Refusal)
    let joined := fun (x y : Tally) => ({ Answer.done with
      ignored := x.ignored + y.ignored, adjusted := x.adjusted || y.adjusted, badValue := x.badValue || y.badValue,
      lensInvalid := x.lensInvalid || y.lensInvalid } : Answer)
    (∀ es fs : List DemandEntry,
      let x := es.foldl (demandEntry rx.port) (noteValid rx s, Tally.zero)
      let y := fs.foldl (demandEntry rx.port) (x.1, Tally.zero)
      exec (.demand rx (.fields (es ++ fs))) s = .next (replied rx (joined x.2 y.2) y.1)) ∧
    (∀ es fs : List TrimEntry,
      let x := es.foldl (trimEntry rx.port) (noteValid rx s, Tally.zero)
      let y := fs.foldl (trimEntry rx.port) (x.1, Tally.zero)
      exec (.trim rx (.fields (es ++ fs))) s = .next (replied rx (joined x.2 y.2) y.1)) ∧
    (∀ i : Nat, 12 ≤ i →
      (∀ k : DemandKind, exec (.demand rx (.fields [{ lane := i, kind := k, value := value }])) s =
        out { ignored ((if k = .lens then u else v) ≠ value) with badValue := true }) ∧
      exec (.trim rx (.fields [{ lane := i, scale := scale }])) s = out { ignored (w ≠ scale) with badValue := true }) ∧
    (s.lanes[l].present = false →
      demand .abs = out { ignored (v ≠ value) with badValue := true } ∧
        demand .step = out { ignored (v ≠ value) with badValue := true } ∧
        demand .lens = out { ignored (u ≠ value) with badValue := true } ∧
        trim = out { ignored (w ≠ scale) with badValue := true }) ∧
    (s.lanes[l].present = true →
      (s.lens.table l = none →
        demand .lens = out { ignored (u ≠ value) with lensInvalid := true }) ∧
      (s.grants[l].holder = none → demand .abs = out (ignored (v ≠ value)) ∧ demand .step = out (ignored (v ≠ value)) ∧
        (s.lens.table l ≠ none → demand .lens = out (ignored (u ≠ value)))) ∧
      (s.grants[l].heldBy rx.port = false → s.grants[l].stacks rx.port = false →
        trim = out (ignored (w ≠ scale))) ∧
      (s.grants[l].heldBy rx.port = false → s.grants[l].heldByPlayback = false → s.grants[l].stacks rx.port = true →
        trim = .next (replied rx { Answer.done with adjusted := w ≠ scale } ((noteValid rx s).setGrant l fun g =>
          { g with stack := g.stack.map fun e =>
              if e.port = rx.port then { e with ctx := { e.ctx with trim := w } } else e }))) ∧
      ∀ h, s.grants[l].holder = some h →
        (h.who ≠ .station rx.port → h.who ≠ .playback ∨ s.ports[rx.port].role ≠ some .motion ∨
            s.play.state ≠ .deferred ∨ s.participates l = false →
          demand .abs = out (ignored (v ≠ value)) ∧ demand .step = out (ignored (v ≠ value)) ∧
            (s.lens.table l ≠ none → demand .lens = out (ignored (u ≠ value)))) ∧
        (h.who = .playback → trim = out (ignored (w ≠ scale))) ∧
        (h.who = .station rx.port ∨ (h.who = .playback ∧ s.ports[rx.port].role = some .motion ∧
            s.play.state = .deferred ∧ s.participates l = true) →
          let taken := fun (c : Context) (adjusted : Bool) =>
            (Host.Outcome.next (replied rx { Answer.done with adjusted := adjusted } ((noteValid rx s).setGrant l fun g =>
              { g with holder := some { h with ctx := c } })) : Host.Outcome State Fault Refusal)
          let d := h.ctx.d.getD 0
          (h.ctx.kind = .abs → h.ctx.d ≠ none → demand .abs = taken { h.ctx with d := some v } (v ≠ value)) ∧
          (h.ctx.kind ≠ .abs ∨ h.ctx.d = none →
            demand .abs = taken { h.ctx with kind := .abs, d := some v, o := clampOff (p - v) } (v ≠ value) ∧
              (p.natAbs ≤ 274877906944 → v + clampOff (p - v) = p)) ∧
          (∀ tab, s.lens.table l = some tab → h.ctx.kind = .lens → h.ctx.d ≠ none →
            demand .lens = taken { h.ctx with d := some u } (u ≠ value)) ∧
          (∀ tab, s.lens.table l = some tab → h.ctx.kind ≠ .lens ∨ h.ctx.d = none →
            demand .lens = taken { h.ctx with kind := .lens, d := some u, o := clampOff (p - forwardMap tab u) }
              (u ≠ value)) ∧
          (h.ctx.kind = .step → h.ctx.d ≠ none → demand .step =
            taken { h.ctx with d := some (clampInt (-274877906944) 274877906944 (d + v)) }
              (v ≠ value || clampInt (-274877906944) 274877906944 (d + v) ≠ d + v)) ∧
          (h.ctx.kind ≠ .step ∨ h.ctx.d = none → demand .step =
            taken { h.ctx with kind := .step, d := some v, o := clampOff p } (v ≠ value))) ∧
        (h.who = .station rx.port → trim = .next (replied rx { Answer.done with adjusted := w ≠ scale }
          ((noteValid rx s).setGrant l fun g => { g with holder := some { h with ctx := { h.ctx with trim := w } } }))))

/-! ### Requests: motion settings -/

/-- R21, R22, R35: SHAPE SET and LIMITS SET of a present lane take the carried fields, each clamped into the rig record's
ceilings and limits, Astop raised to A; they are refused BUSY where the lane moves faster than its new Vmax, or moves
outside its new limits (with no adjusted indication: log 46), and BAD_VALUE for an absent lane or limits out of order.
TIMEBASE SET is refused BUSY while a recording or a playback is active, and else waits for the next frame start. -/
def Obligations.ShapeLimitsAndTimebase : Prop :=
  ∀ (rx : Rx) (s : State), TakesMotion rx s →
    (∀ (l : Lane) (a : ShapeArgs), a.lane = l.val → s.lanes[l].present = true →
      let g := s.rig.record.lanes[l]
      let x := s.lanes[l]
      let vmax := (a.vmax.map (clampNat 1 g.vmaxCeil)).getD x.vmax
      let acc := (a.a.map (clampNat 1 g.aCeil)).getD x.a
      let astop := (a.astop.map (clampNat g.astopFloor 1048575)).getD x.astop
      (vmax < x.v.natAbs →
        exec (.shapeSet rx (.fields a)) s = .next (replied rx (Answer.refused .busy) (noteValid rx s))) ∧
      (x.v.natAbs ≤ vmax → ∃ adjusted, exec (.shapeSet rx (.fields a)) s =
          .next (replied rx { Answer.done with adjusted := adjusted } ((noteValid rx s).setLane l fun x => { x with
            vmax := vmax
            a := acc
            astop := max astop acc
            k := (a.k.map (clampNat 1 65536)).getD x.k
            trackTol := (a.trackTol.map (clampNat 0 16777216)).getD x.trackTol
            followLimit := (a.followLimit.map (clampNat 1 g.followCeil)).getD x.followLimit })) ∧
        (adjusted = true ↔ (∃ y, a.vmax = some y ∧ clampNat 1 g.vmaxCeil y ≠ y) ∨
          (∃ y, a.a = some y ∧ clampNat 1 g.aCeil y ≠ y) ∨ (∃ y, a.astop = some y ∧ clampNat g.astopFloor 1048575 y ≠ y) ∨
          (∃ y, a.k = some y ∧ clampNat 1 65536 y ≠ y) ∨ (∃ y, a.trackTol = some y ∧ clampNat 0 16777216 y ≠ y) ∨
          (∃ y, a.followLimit = some y ∧ clampNat 1 g.followCeil y ≠ y) ∨ astop < acc))) ∧
    (∀ (l : Lane) (a : LimitsArgs), a.lane = l.val → s.lanes[l].present = true →
      let lo := clampInt s.rig.record.lanes[l].hardMin s.rig.record.lanes[l].hardMax a.min
      let hi := clampInt s.rig.record.lanes[l].hardMin s.rig.record.lanes[l].hardMax a.max
      (a.max < a.min →
        exec (.limitsSet rx (.fields a)) s = .next (replied rx (Answer.refused .badValue) (noteValid rx s))) ∧
      (a.min ≤ a.max → (s.lanes[l].p < lo ∨ hi < s.lanes[l].p) → s.lanes[l].v ≠ 0 →
        exec (.limitsSet rx (.fields a)) s = .next (replied rx (Answer.refused .busy) (noteValid rx s))) ∧
      (a.min ≤ a.max → (lo ≤ s.lanes[l].p ∧ s.lanes[l].p ≤ hi) ∨ s.lanes[l].v = 0 →
        exec (.limitsSet rx (.fields a)) s = .next (replied rx
          { Answer.done with adjusted := lo ≠ a.min || hi ≠ a.max }
          ((noteValid rx s).setLane l fun x => { x with softMin := lo, softMax := hi })))) ∧
    (∀ (a : ShapeArgs) (b : LimitsArgs), s.namedLane a.lane = none → s.namedLane b.lane = none →
      exec (.shapeSet rx (.fields a)) s = .next (replied rx (Answer.refused .badValue) (noteValid rx s)) ∧
        exec (.limitsSet rx (.fields b)) s = .next (replied rx (Answer.refused .badValue) (noteValid rx s))) ∧
    ∀ a : TimebaseArgs,
      (s.recorder.state ≠ .idle ∨ s.play.state ≠ .idle →
        exec (.timebaseSet rx (.fields a)) s = .next (replied rx (Answer.refused .busy) (noteValid rx s))) ∧
      (s.recorder.state = .idle → s.play.state = .idle →
        let old : TimebaseArgs := s.tb.pendingSettings.getD { mode := none, n := none, period := none }
        ∃ adjusted, exec (.timebaseSet rx (.fields a)) s =
          .next (replied rx { Answer.done with adjusted := adjusted } ((noteValid rx s).setTb { s.tb with
            pendingSettings := some { mode := a.mode.or old.mode, n := (a.n.map (clampNat 8 64)).or old.n,
                                      period := (a.period.map (clampNat 8000 50000)).or old.period } })) ∧
          (adjusted = true ↔ (∃ y, a.n = some y ∧ (y < 8 ∨ 64 < y)) ∨
            ∃ y, a.period = some y ∧ (y < 8000 ∨ 50000 < y)))

/-- R138, R139, R141, R143: ZONE SET of a well-formed record replaces its entry, with the scale clamped and the results
found on the committed positions; an enabled KEEP_OUT record that contains them, with no exiting mark kept, stops the motion
with its cause, and any other leaves the stops alone. ZONE DROP empties its entry. PRESENCE SET replaces its entry's lanes
and scale. A number out of range, no interval or more than 12, a lane absent or named twice, and an interval out of order or
range are refused BAD_VALUE. -/
def Obligations.ZonesAndPresence : Prop :=
  ∀ (rx : Rx) (s : State), TakesMotion rx s →
    (∀ (z : ZoneNo) (r : ZoneRecord), 1 ≤ r.intervals.length → r.intervals.length ≤ 12 →
      (r.intervals.map fun i => i.lane).Nodup → (∀ i ∈ r.intervals, (s.namedLane i.lane).isSome = true ∧ i.low ≤ i.high ∧
        -274877906944 ≤ i.low ∧ i.low ≤ 274877906944 ∧ -274877906944 ≤ i.high ∧ i.high ≤ 274877906944) →
      let x : ZoneRecord := { r with scale := clampNat 0 65536 r.scale }
      let marked := s.safety.zones[z].exiting && r.enabled && r.kind = .keepOut
      ∃ t, exec (.zoneSet rx (.fields { entry := z.val, record := r })) s = .next t ∧ t.lanes = s.lanes ∧
        t.safety.zones[z] = { record := some x
                              predicting := r.enabled && zonePredicts s.motion x
                              breached := r.enabled && zoneContains s.motion x
                              exiting := marked } ∧
        (∀ y : ZoneNo, y ≠ z → t.safety.zones[y] = s.safety.zones[y]) ∧
        t.ports[rx.port].replies = s.ports[rx.port].replies ++
          [({ Answer.done with adjusted := 65536 < r.scale } : Answer).reply rx.tag .ordinary] ∧
        (r.enabled = true → r.kind = .keepOut → marked = false → zoneContains s.motion x = true →
          t.hasCause (.zoneBreached z) = true ∧ t.safety.stop ≠ .run) ∧
        (r.enabled = false ∨ r.kind = .slow ∨ marked = true ∨ zoneContains s.motion x = false →
          t.safety.stop = s.safety.stop ∧ t.safety.causes = s.safety.causes ∧ t.grants = s.grants)) ∧
    (∀ a : ZoneSetArgs, (16 ≤ a.entry ∨ a.record.intervals = [] ∨ 12 < a.record.intervals.length ∨
        ¬ (a.record.intervals.map fun i => i.lane).Nodup ∨
        (∃ i ∈ a.record.intervals, s.namedLane i.lane = none ∨ i.high < i.low ∨ i.low < -274877906944 ∨
          274877906944 < i.low ∨ i.high < -274877906944 ∨ 274877906944 < i.high)) →
      exec (.zoneSet rx (.fields a)) s = .next (replied rx (Answer.refused .badValue) (noteValid rx s))) ∧
    (∀ z : ZoneNo, exec (.zoneDrop rx (.fields z.val)) s = .next (replied rx Answer.done ((noteValid rx s).setZone z
      fun _ => { record := none, predicting := false, breached := false, exiting := false }))) ∧
    (∀ n, 16 ≤ n → exec (.zoneDrop rx (.fields n)) s = .next (replied rx (Answer.refused .badValue) (noteValid rx s))) ∧
    (∀ (i : Fin 4) (ls : LaneSet) (scale : Nat), (∀ j : Nat, j < 16 → ls.getLsbD j = true → (s.namedLane j).isSome = true) →
      exec (.presenceSet rx (.fields { line := i.val, lanes := ls, scale := scale })) s = .next (replied rx
        { Answer.done with adjusted := 65536 < scale } ((noteValid rx s).setSafety { s.safety with
          presence := updAt s.safety.presence i fun e =>
            { e with lanes := ls, scale := clampNat 0 65536 scale } }))) ∧
    ∀ a : PresenceArgs, 4 ≤ a.line ∨ (∃ j : Nat, j < 16 ∧ a.lanes.getLsbD j = true ∧ s.namedLane j = none) →
      exec (.presenceSet rx (.fields a)) s = .next (replied rx (Answer.refused .badValue) (noteValid rx s))

/-! ### Lens maps and profiles -/

/-- R62, R69, R70: a valid table maps its breakpoints onto each other, interpolates between neighbours with truncation
toward the lower breakpoint, and holds its ends in both directions; the reverse map of a forward map never exceeds what went
in. R65 to R67: an accepted PROFILE LOAD replaces the slot's content, ends the selection of a slot it empties, and waits to
be stored, behind a write in progress where there is one; PROFILE SELECT selects a loaded slot at once; a LOAD of the active
slot and a SELECT that changes the selection are refused BUSY where the map is in use, a LOAD also while one write is in
progress and another waits, and either is refused BAD_VALUE for a bad slot. -/
def Obligations.LensMapsAndProfiles : Prop :=
  (∀ t : List Breakpoint, tableValid t = true →
    (∀ b ∈ t, forwardMap t b.u = b.p ∧ reverseMap t b.p = b.u) ∧
    (∀ before after b c, t = before ++ b :: c :: after →
      (∀ u : Int, b.u ≤ u → u < c.u →
        forwardMap t u = b.p + Int.tdiv ((c.p - b.p) * (u - b.u)) ((c.u : Int) - b.u)) ∧
      ∀ p : Int, (b.p ≤ p ∧ p < c.p) ∨ (c.p < p ∧ p ≤ b.p) →
        reverseMap t p = b.u + Int.tdiv (((c.u : Int) - b.u) * (p - b.p)) (c.p - b.p)) ∧
    ∀ b c, t.head? = some b → t.getLast? = some c →
      (∀ u : Int, u ≤ b.u → forwardMap t u = b.p) ∧ (∀ u : Int, c.u ≤ u → forwardMap t u = c.p) ∧
        (b.p ≤ c.p → ∀ p : Int, (p ≤ b.p → reverseMap t p = b.u) ∧ (c.p ≤ p → reverseMap t p = c.u)) ∧
        (c.p ≤ b.p → ∀ p : Int, (b.p ≤ p → reverseMap t p = b.u) ∧ (p ≤ c.p → reverseMap t p = c.u)) ∧
        (∀ u : Int, min b.p c.p ≤ forwardMap t u ∧ forwardMap t u ≤ max b.p c.p) ∧
        ∀ u : Int, b.u ≤ u → reverseMap t (forwardMap t u) ≤ u) ∧
  ∀ (rx : Rx) (r : Role) (k : ProfileNo) (s : State), Takes rx s → s.ports[rx.port].role = some r →
    r = .motion ∨ r = .lens →
    (∀ p : Profile, profileValid p = false ∨
        (p.tag ≠ 0 ∧ ∃ j : ProfileNo, j ≠ k ∧ s.lens.slots[j].profile.tag = p.tag) →
      exec (.profileLoad rx (.fields { slot := k.val, profile := p })) s =
        .next (replied rx (Answer.refused .badValue) (noteValid rx s))) ∧
    (∀ p : Profile, profileValid p = true →
      (p.tag = 0 ∨ ∀ j : ProfileNo, j ≠ k → s.lens.slots[j].profile.tag ≠ p.tag) →
      (s.lens.active = some k → s.mapInUse = true →
        exec (.profileLoad rx (.fields { slot := k.val, profile := p })) s =
          .next (replied rx (Answer.refused .busy) (noteValid rx s))) ∧
      ((s.lens.active ≠ some k ∨ s.mapInUse = false) → s.lens.slots[k].store = .writing →
        Reserved.profile k ∈ s.mem.reservedQueue →
        exec (.profileLoad rx (.fields { slot := k.val, profile := p })) s =
          .next (replied rx (Answer.refused .busy) (noteValid rx s))) ∧
      ((s.lens.active ≠ some k ∨ s.mapInUse = false) →
        s.lens.slots[k].store ≠ .writing ∨ Reserved.profile k ∉ s.mem.reservedQueue →
        ∃ t, exec (.profileLoad rx (.fields { slot := k.val, profile := p })) s = .next t ∧
          t.lens.slots[k].profile = p ∧ t.lens.slots[k].store ≠ .stored ∧ t.lens.slots[k].store ≠ .failed ∧
          (∀ j : ProfileNo, j ≠ k → t.lens.slots[j].profile = s.lens.slots[j].profile) ∧
          t.lens.active = (if p.tag = 0 ∧ s.lens.active = some k then none else s.lens.active) ∧
          t.ports[rx.port].replies = s.ports[rx.port].replies ++ [Answer.done.reply rx.tag .ordinary] ∧
          (s.mem.op.isSome = true → Reserved.profile k ∈ t.mem.reservedQueue ∧ t.lens.slots[k].store =
            if s.lens.slots[k].store = .writing then .writing else .writeWaiting))) ∧
    (∀ (n : Nat) (p : Profile), 4 ≤ n → exec (.profileLoad rx (.fields { slot := n, profile := p })) s =
      .next (replied rx (Answer.refused .badValue) (noteValid rx s))) ∧
    (∀ n, 4 ≤ n → exec (.profileSelect rx (.fields (some n))) s =
      .next (replied rx (Answer.refused .badValue) (noteValid rx s))) ∧
    (s.lens.slots[k].profile.tag = 0 → exec (.profileSelect rx (.fields (some k.val))) s =
      .next (replied rx (Answer.refused .badValue) (noteValid rx s))) ∧
    (s.lens.slots[k].profile.tag ≠ 0 → s.lens.active ≠ some k →
      (s.mapInUse = true → exec (.profileSelect rx (.fields (some k.val))) s =
        .next (replied rx (Answer.refused .busy) (noteValid rx s))) ∧
      (s.mapInUse = false → exec (.profileSelect rx (.fields (some k.val))) s =
        .next (replied rx Answer.done ((noteValid rx s).setLens { s.lens with active := some k })))) ∧
    (s.lens.slots[k].profile.tag ≠ 0 → s.lens.active = some k → exec (.profileSelect rx (.fields (some k.val))) s =
      .next (replied rx Answer.done (noteValid rx s))) ∧
    (s.lens.active = none → exec (.profileSelect rx (.fields none)) s =
      .next (replied rx Answer.done (noteValid rx s))) ∧
    (s.lens.active ≠ none → s.mapInUse = true → exec (.profileSelect rx (.fields none)) s =
      .next (replied rx (Answer.refused .busy) (noteValid rx s))) ∧
    (s.mapInUse = false → exec (.profileSelect rx (.fields none)) s =
      .next (replied rx Answer.done ((noteValid rx s).setLens { s.lens with active := none })))

/-! ### Requests: recording -/

/-- R104 to R111: RECORD arms the Recorder for an EMPTY slot of a frozen rig with a FREE block, at NEXT or at a later frame,
and has a running erase suspended, at the end of its resume where that is in progress; MARK keeps DEFER and RESUME in turn;
RECORD END ends an armed recording with no take and sets end pending in a running one. At its start frame the recording
starts, or ends where the lock state is SEARCH; with end pending it drains from the next frame start, which clears end
pending (the model's choice: log 54), or is finished there.
The tick (f, 0) that a frame start performs (log 5) composes the committed positions of its lanes with the marks that wait;
the 65,535th sample ends the recording LENGTH, and a write queue of 8 ends it OVERRUN without the sample, the span unchanged
and the marks that wait dropped (log 16). -/
def Obligations.RecorderRequests : Prop :=
  (∀ (rx : Rx) (s : State), TakesMotion rx s →
    (∀ (i : SlotNo) (a : RecordArgs), a.slot = i.val → s.recordValid a = true →
      (s.rig.record.frozen = false →
        exec (.record rx (.fields a)) s = .next (replied rx (Answer.refused .unfrozen) (noteValid rx s))) ∧
      (s.rig.record.frozen = true →
        s.recorder.state ≠ .idle ∨ s.mem.slots[i].state ≠ .empty ∨
          (s.tb.mode = .referenced ∧ s.tb.lock = .search) →
        exec (.record rx (.fields a)) s = .next (replied rx (Answer.refused .wrongState) (noteValid rx s))) ∧
      (s.rig.record.frozen = true → s.recorder.state = .idle → s.mem.slots[i].state = .empty →
        s.tb.mode ≠ .referenced ∨ s.tb.lock ≠ .search →
        ((∀ b : BlockNo, s.mem.blocks[b].state ≠ .free) →
          exec (.record rx (.fields a)) s = .next (replied rx (Answer.refused .noRoom) (noteValid rx s))) ∧
        ((∃ b : BlockNo, s.mem.blocks[b].state = .free) → ∃ t, exec (.record rx (.fields a)) s = .next t ∧
          t.recorder = { Recorder.reset with
            state := .armed
            slot := some i
            lanes := a.lanes
            start := some (match a.start with
              | none => .next
              | some f => .frame f)
            startFrame := some (a.start.getD (s.tb.f + 1))
            name := a.name
            lensTag := s.lens.activeTag } ∧
          t.mem.slots[i].state = .empty ∧ (∀ b, s.mem.op = some (.erase b) → t.mem.op = some (.suspend b)) ∧
          (∀ b again, s.mem.op = some (.resume b again) → t.mem.op = some (.resume b true)) ∧
          t.ports[rx.port].replies = s.ports[rx.port].replies ++ [Answer.accepted.reply rx.tag .ordinary]))) ∧
    (∀ a : RecordArgs, 32 ≤ a.slot ∨ (∃ f, a.start = some f ∧ f ≤ s.tb.f) →
      exec (.record rx (.fields a)) s = .next (replied rx (Answer.refused .badValue) (noteValid rx s))) ∧
    (∀ k, s.recorder.state = .idle ∨ s.recorder.state = .draining ∨ s.recorder.endPending = true →
      exec (.mark rx (.fields k)) s = .next (replied rx (Answer.refused .wrongState) (noteValid rx s))) ∧
    (s.recorder.state ≠ .idle → s.recorder.state ≠ .draining → s.recorder.endPending = false →
      let m := s.recorder.marks
      let spanNext := if m.defer then true else if m.resume then false else s.recorder.spanOpen
      exec (.mark rx (.fields .cue)) s =
        .next (replied rx Answer.done ((noteValid rx s).setRecorder { s.recorder with marks := { m with cue := true } })) ∧
      (spanNext = false → m.resume = false → exec (.mark rx (.fields .defer)) s =
        .next (replied rx Answer.done ((noteValid rx s).setRecorder { s.recorder with marks := { m with defer := true } }))) ∧
      (spanNext = true ∨ m.resume = true → exec (.mark rx (.fields .defer)) s =
        .next (replied rx (Answer.refused .wrongState) (noteValid rx s))) ∧
      (spanNext = true → m.defer = false → exec (.mark rx (.fields .resume)) s =
        .next (replied rx Answer.done ((noteValid rx s).setRecorder { s.recorder with marks := { m with resume := true } }))) ∧
      (spanNext = false ∨ m.defer = true → exec (.mark rx (.fields .resume)) s =
        .next (replied rx (Answer.refused .wrongState) (noteValid rx s)))) ∧
    (s.recorder.state = .idle ∨ s.recorder.state = .draining →
      exec (.recordEnd rx (.fields ())) s = .next (replied rx (Answer.refused .wrongState) (noteValid rx s))) ∧
    (s.recorder.state = .armed → ∃ t, exec (.recordEnd rx (.fields ())) s = .next t ∧ t.recorder = Recorder.reset ∧
      (s.mem.op.isSome = true → t.mem = s.mem)) ∧
    (s.recorder.state = .recording →
      (s.recorder.endPending = true → exec (.recordEnd rx (.fields ())) s =
        .next (replied rx Answer.accepted (noteValid rx s))) ∧
      (s.recorder.endPending = false → exec (.recordEnd rx (.fields ())) s =
        .next (replied rx Answer.accepted ((noteValid rx s).setRecorder { s.recorder with
          endPending := true
          marks := Marks.none
          marksDropped := s.recorder.marksDropped || s.recorder.marks.any }))))) ∧
  (∀ s : State, s.recorder.state = .recording → s.recorder.queue.length < 8 → s.recorder.composed + 1 ≠ 65535 →
    composeSample s = s.setRecorder { s.recorder with
      composed := s.recorder.composed + 1
      marks := Marks.none
      spanOpen := if s.recorder.marks.defer then true else if s.recorder.marks.resume then false else s.recorder.spanOpen
      queue := s.recorder.queue ++
        [{ offset := s.recorder.composed, marks := s.recorder.marks,
           pos := (LaneSet.members s.recorder.lanes).map fun l => s.lanes[l].p }] }) ∧
  (∀ (b : Timebase) (s : State), IssuesTick .frameStart b s → (s.tb.lock = .flywheel → s.tb.flywheelCount ≠ 8) →
    s.recorder.state = .recording → s.recorder.endPending = false → NoDriveFails s →
    (∀ z : ZoneNo, s.safety.zones[z].record = none) → s.mem.op.isSome = true →
    ∃ t, exec .frameStart s = .next t ∧ t.tb = b ∧
      let r := s.recorder
      let after : Recorder := { r with
        composed := r.composed + 1
        marks := Marks.none
        spanOpen := if r.marks.defer then true else if r.marks.resume then false else r.spanOpen
        queue := r.queue ++
          [{ offset := r.composed, marks := r.marks, pos := (LaneSet.members r.lanes).map fun l => t.lanes[l].p }] }
      (r.queue.length < 8 → r.composed + 1 ≠ 65535 → t.recorder = after) ∧
      (r.queue.length < 8 → r.composed + 1 = 65535 → t.recorder = { after with
        state := .draining, outcome := some .length }) ∧
      (8 ≤ r.queue.length → t.recorder = { r with
        state := .draining, outcome := some .overrun, marks := Marks.none, marksDropped := r.marksDropped || r.marks.any })) ∧
  ∀ s : State, let t := recorderFrame s
    (s.recorder.state = .idle ∨ s.recorder.state = .draining ∨
        (s.recorder.state = .recording ∧ s.recorder.endPending = false) ∨
        (s.recorder.state = .armed ∧ s.recorder.startFrame ≠ some s.tb.f) → t = s) ∧
    (∀ i : SlotNo, s.recorder.state = .armed → s.recorder.startFrame = some s.tb.f → s.recorder.slot = some i →
      (s.tb.mode = .referenced → s.tb.lock = .search → t.recorder = Recorder.reset ∧ t.mem = s.mem) ∧
      (s.tb.mode ≠ .referenced ∨ s.tb.lock ≠ .search →
        t.recorder = { s.recorder with state := .recording, fStart := some s.tb.f } ∧
          Reserved.dir i ∈ t.mem.reservedQueue ∧ (∀ j : SlotNo, j ≠ i → t.mem.slots[j] = s.mem.slots[j]) ∧
          t.mem.slots[i] = { s.mem.slots[i] with
            state := .recording
            header := some { name := s.recorder.name, lanes := s.recorder.lanes, n := s.tb.n, period := s.tb.workingPeriod,
                             referenced := s.tb.mode = .referenced, lensTag := s.recorder.lensTag, length := 0,
                             interrupted := false, impliedResume := false }
            blocks := []
            locked := false
            down := false
            openLocked := false })) ∧
    (∀ i : SlotNo, s.recorder.state = .recording → s.recorder.endPending = true → s.recorder.slot = some i →
      (s.recorder.queue ≠ [] → t = s.setRecorder { s.recorder with
        state := .draining, outcome := some .done, endPending := false }) ∧
      (∀ h, s.recorder.queue = [] → s.mem.slots[i].header = some h →
        t.recorder = Recorder.reset ∧ Reserved.dir i ∈ t.mem.reservedQueue ∧
        (h.length ≠ 0 → t.mem.slots[i] = { s.mem.slots[i] with
          state := .complete
          header := some { h with interrupted := false, impliedResume := s.recorder.spanOpen }
          locked := true
          down := false
          openLocked := true }) ∧
        (h.length = 0 → t.mem.slots[i].state = .empty ∧ t.mem.slots[i].header = none ∧ t.mem.slots[i].blocks = [] ∧
          t.mem.slots[i].locked = false)))

/-! ### Requests: playback -/

/-- R43, R49, R84, R115 to R117, R119, R120, R122, R124, R128 to R130, R132: CUE of a finished take takes every
participating lane at P, whoever holds it, a station it displaces going on the stack with its context (the playback
context's own trim by log 36), and has a running erase suspended; it is refused BAD_VALUE, UNFROZEN or WRONG_STATE in the
table's order, with the lanes' results where no lane participates (no adjusted indication: log 46); ROLL of a READY unit
arms the start frame; SEGMENT DONE with the lanes on the resume sample ends the segment, arming the resume frame before it
and rolling on, spoiled, after it, or finishing the pass by its end mode where the take is over (log 34); UNCUE gives every
participating lane it holds to its next holder. The unit supplies sample 0 while cueing, the armed sample before a roll, the
hold point or the MOTION station's demand in a segment, and the end hold in HOLD_END. While it rolls, its demand goes from
each sample to the next in N steps, rounded toward the sample it left. -/
def Obligations.PlaybackRequests : Prop :=
  (∀ (rx : Rx) (s : State), TakesMotion rx s →
    (∀ (i : SlotNo) (h : Header) (a : CueArgs), a.slot = i.val → s.mem.slots[i].finished = true →
      s.mem.slots[i].header = some h → a.lanes ≠ 0 → s.rig.record.frozen = true →
      (s.play.state ≠ .idle ∨ s.safety.stop ≠ .run ∨ s.drives.parked = true →
        exec (.cue rx (.fields a)) s = .next (replied rx (Answer.refused .wrongState) (noteValid rx s))) ∧
      (s.play.state = .idle → s.safety.stop = .run → s.drives.parked = false →
        (∀ l : Lane, LaneSet.has a.lanes l = true → s.lanes[l].present = false ∨ LaneSet.has h.lanes l = false ∨
          (∃ why, s.lanes[l].condition = .disabled why) ∨ (6 ≤ l.val ∧ l.val ≤ 8 ∧ h.lensTag ≠ s.lens.activeTag)) →
        ∃ rs, rs.map (fun x : Nat × LaneResult => x.1) = LaneSet.indices a.lanes ∧ (∀ x ∈ rs, x.2 ≠ .participates) ∧
          exec (.cue rx (.fields a)) s =
            .next (replied rx { Answer.refused .wrongState with results := rs } (noteValid rx s))) ∧
      (s.play.state = .idle → s.safety.stop = .run → s.drives.parked = false →
        let takes := fun (l : Lane) => LaneSet.has a.lanes l = true ∧ s.lanes[l].present = true ∧
          LaneSet.has h.lanes l = true ∧ (∀ why, s.lanes[l].condition ≠ .disabled why) ∧
          (6 ≤ l.val → l.val ≤ 8 → h.lensTag = s.lens.activeTag)
        (∃ l, takes l) → ∃ t, exec (.cue rx (.fields a)) s = .next t ∧ t.play.state = .cueing ∧ t.play.slot = some i ∧
          t.play.length = some h.length ∧ t.play.k = some 0 ∧ t.play.nextRead = 0 ∧ t.play.buffer = [] ∧
          t.play.endMode = some (a.endMode.getD .yield) ∧
          t.play.cueScale = some (clampNat 0 65536 (a.scale.getD 16384)) ∧
          (∀ l : Lane, LaneSet.has t.play.participation l = true ↔ takes l) ∧
          (∀ l : Lane, takes l → t.grants[l].holder = some
            { who := .playback, level := 1, setpoint := s.lanes[l].p,
              ctx := { kind := .abs, d := none, o := 0, trim := 65536 } } ∧ t.grants[l].waiting = s.grants[l].waiting ∧
            t.grants[l].stack = (match s.grants[l].holder with
              | some ⟨.station o, lv, _, c⟩ => { port := o, level := lv, ctx := c } :: s.grants[l].stack
              | _ => s.grants[l].stack)) ∧
          (∀ l : Lane, ¬ takes l → t.grants[l] = s.grants[l]) ∧ t.lanes = s.lanes ∧
          (∀ b, s.mem.op = some (.erase b) → t.mem.op = some (.suspend b)) ∧
          (∀ b again, s.mem.op = some (.resume b again) → t.mem.op = some (.resume b true)))) ∧
    (∀ a : CueArgs,
      (32 ≤ a.slot ∨ a.lanes = 0 →
        exec (.cue rx (.fields a)) s = .next (replied rx (Answer.refused .badValue) (noteValid rx s))) ∧
      (a.slot < 32 → a.lanes ≠ 0 → s.rig.record.frozen = false →
        exec (.cue rx (.fields a)) s = .next (replied rx (Answer.refused .unfrozen) (noteValid rx s))) ∧
      (∀ i : SlotNo, a.slot = i.val → a.lanes ≠ 0 → s.rig.record.frozen = true → s.mem.slots[i].finished = false →
        exec (.cue rx (.fields a)) s = .next (replied rx (Answer.refused .wrongState) (noteValid rx s)))) ∧
    (∀ start : Option Nat,
      ((∃ f, start = some f ∧ f ≤ s.tb.f) →
        exec (.roll rx (.fields start)) s = .next (replied rx (Answer.refused .badValue) (noteValid rx s))) ∧
      (start = none ∨ (∃ f, start = some f ∧ s.tb.f < f) →
        (s.play.state ≠ .ready ∨ (s.tb.mode = .referenced ∧ s.tb.lock = .search) →
          exec (.roll rx (.fields start)) s = .next (replied rx (Answer.refused .wrongState) (noteValid rx s))) ∧
        (s.play.state = .ready → s.tb.mode ≠ .referenced ∨ s.tb.lock ≠ .search →
          exec (.roll rx (.fields start)) s = .next (replied rx Answer.accepted ((noteValid rx s).setPlay
            { s.play with state := .rollArmed, armed := some (start.getD (s.tb.f + 1), 0) }))))) ∧
    (s.play.state ≠ .deferred ∨ s.play.resumeIndex = none →
      exec (.segmentDone rx (.fields ())) s = .next (replied rx (Answer.refused .wrongState) (noteValid rx s))) ∧
    (∀ r first, s.play.state = .deferred → s.play.resumeIndex = some r → s.play.fRoll = some first →
      (s.nearSample r = false →
        exec (.segmentDone rx (.fields ())) s = .next (replied rx (Answer.refused .wrongState) (noteValid rx s))) ∧
      (s.nearSample r = true → s.tb.f - first < s.play.len →
        ∃ t, exec (.segmentDone rx (.fields ())) s = .next t ∧ t.play.deferIndex = none ∧ t.play.resumeIndex = none ∧
          (s.tb.f < first + r → t.play.state = .rollArmed ∧ t.play.armed = some (first + r, r) ∧
            t.play.spoiled = s.play.spoiled ∧ t.play.buffer = s.play.buffer) ∧
          (first + r ≤ s.tb.f → t.play.state = .rolling ∧ t.play.k = some (s.tb.f - first) ∧ t.play.spoiled = true) ∧
          (∀ l : Lane, s.participates l = true → s.grants[l].heldByPlayback = true →
            t.grants[l] = { s.grants[l] with
              holder := s.grants[l].holder.map fun h =>
                { h with ctx := { kind := .abs, d := none, o := 0, trim := 65536 } } }) ∧ t.lanes = s.lanes)) ∧
    (∀ r first, s.play.state = .deferred → s.play.resumeIndex = some r → s.play.fRoll = some first →
      s.nearSample r = true → first + r ≤ s.tb.f → s.play.len ≤ s.tb.f - first →
      ∃ t, exec (.segmentDone rx (.fields ())) s = .next t ∧ t.lanes = s.lanes ∧ t.safety = s.safety ∧
        t.ports[rx.port].replies = s.ports[rx.port].replies ++ [Answer.done.reply rx.tag .ordinary] ∧
        (s.play.endMode ≠ some .holdEnd → t.play = Playback.reset ∧ ∀ l : Lane, t.grants[l] =
          if s.participates l && s.grants[l].heldByPlayback then chooseNext s.lens l s.lanes[l].p s.grants[l]
          else s.grants[l]) ∧
        (s.play.endMode = some .holdEnd → t.play.state = .holdEnd ∧ t.play.spoiled = true ∧ t.play.buffer = [] ∧
          t.play.deferIndex = none ∧ t.play.resumeIndex = none ∧
          ∀ l : Lane, s.participates l = false → t.grants[l] = s.grants[l])) ∧
    (s.play.state = .idle →
      exec (.uncue rx (.fields ())) s = .next (replied rx (Answer.refused .wrongState) (noteValid rx s))) ∧
    (s.play.state ≠ .idle → ∃ t, exec (.uncue rx (.fields ())) s = .next t ∧ t.play = Playback.reset ∧
      t.lanes = s.lanes ∧ (∀ l : Lane, s.participates l = true → s.grants[l].heldByPlayback = true →
        t.grants[l] = chooseNext s.lens l s.lanes[l].p s.grants[l]) ∧
      (∀ l : Lane, s.participates l = false ∨ s.grants[l].heldByPlayback = false → t.grants[l] = s.grants[l]))) ∧
  (∀ (s : State) (l : Lane) (a : Int),
    (s.play.state = .cueing ∨ s.play.state = .ready → s.play.posAt 0 l = some a → playDemand s l = some a) ∧
    (∀ f j, s.play.state = .rollArmed → s.play.armed = some (f, j) → s.play.posAt j l = some a →
      playDemand s l = some a) ∧
    (∀ e, s.play.state = .holdEnd → s.play.endHold = some e → e[l] = some a → playDemand s l = some a) ∧
    ∀ h, s.play.state = .deferred → s.grants[l].holder = some h →
      (∀ p, h.ctx.d = none → s.play.holdPoints = some p → p[l] = some a → playDemand s l = some a) ∧
      (mapDemand s.lens l h.ctx = some a → playDemand s l = some (a + h.ctx.o))) ∧
  ∀ (s : State) (l : Lane) (k : Nat) (a : Int), s.play.state = .rolling → s.play.stallDemands = none →
    s.play.k = some k → s.play.posAt k l = some a → s.tb.t ≤ s.tb.n → 1 ≤ s.tb.n →
    (s.play.len ≤ k + 1 → playDemand s l = some a) ∧
    ∀ b, k + 1 < s.play.len → s.play.posAt (k + 1) l = some b → ∃ d,
      playDemand s l = some d ∧ d = a + Int.tdiv ((b - a) * s.tb.t) s.tb.n ∧ (s.tb.t = 0 → d = a) ∧
        (a ≤ b → a ≤ d ∧ d ≤ b) ∧ (b ≤ a → b ≤ d ∧ d ≤ a)

/-! ### Requests: take memory -/

/-- R88, R89, R91, R98: TAKE PROTECT locks, unlocks or locks down a finished take, and an UNLOCK of one locked down is
refused while the PROTECT line is CLOSED; TAKE ERASE of an unlocked take that is neither played nor fetched empties its slot
and releases its blocks, its directory write beginning at once where the array is idle, and a locked one is refused; TAKE
FETCH of a finished take is taken with at most the samples the take holds from its first, and a second fetch of a port is
refused BUSY. -/
def Obligations.TakeDirectoryRequests : Prop :=
  ∀ (rx : Rx) (i : SlotNo) (s : State), Takes rx s →
    (s.ports[rx.port].role = some .motion →
      (∀ n act, 32 ≤ n → exec (.takeProtect rx (.fields { slot := n, action := act })) s =
          .next (replied rx (Answer.refused .badValue) (noteValid rx s)) ∧
        exec (.takeErase rx (.fields n)) s = .next (replied rx (Answer.refused .badValue) (noteValid rx s))) ∧
      (s.mem.slots[i].finished = false →
        (∀ act, exec (.takeProtect rx (.fields { slot := i.val, action := act })) s =
          .next (replied rx (Answer.refused .wrongState) (noteValid rx s))) ∧
        exec (.takeErase rx (.fields i.val)) s = .next (replied rx (Answer.refused .wrongState) (noteValid rx s))) ∧
      (s.mem.slots[i].finished = true →
        exec (.takeProtect rx (.fields { slot := i.val, action := .lock })) s = .next (replied rx Answer.done
          ((noteValid rx s).setSlot i fun x => { x with locked := true, openLocked := true })) ∧
        exec (.takeProtect rx (.fields { slot := i.val, action := .lockDown })) s = .next (replied rx Answer.done
          ((noteValid rx s).setSlot i fun x => { x with down := true, locked := true, openLocked := true })) ∧
        (s.mem.slots[i].down = true → s.mem.protectClosed = true →
          exec (.takeProtect rx (.fields { slot := i.val, action := .unlock })) s =
            .next (replied rx (Answer.refused .takeProtected) (noteValid rx s))) ∧
        (s.mem.slots[i].down = false ∨ s.mem.protectClosed = false →
          exec (.takeProtect rx (.fields { slot := i.val, action := .unlock })) s = .next (replied rx Answer.done
            ((noteValid rx s).setSlot i fun x => { x with locked := false, openLocked := false }))) ∧
        ((s.play.state ≠ .idle ∧ s.play.slot = some i) ∨ (∃ f ∈ s.mem.fetches, f.slot = i) →
          exec (.takeErase rx (.fields i.val)) s = .next (replied rx (Answer.refused .wrongState) (noteValid rx s))) ∧
        (s.play.state = .idle ∨ s.play.slot ≠ some i → (∀ f ∈ s.mem.fetches, f.slot ≠ i) →
          (s.mem.slots[i].locked = true → exec (.takeErase rx (.fields i.val)) s =
            .next (replied rx (Answer.refused .takeProtected) (noteValid rx s))) ∧
          (s.mem.slots[i].locked = false → s.mem.slots[i].blocks.Nodup → s.mem.op.isSome = true ∨ ArrayIdle s →
            ∃ t, exec (.takeErase rx (.fields i.val)) s = .next t ∧ t.mem.slots[i].state = .empty ∧
              t.mem.slots[i].header = none ∧ t.mem.slots[i].blocks = [] ∧
              (s.mem.op.isSome = true → Reserved.dir i ∈ t.mem.reservedQueue) ∧
              (ArrayIdle s → t.mem.reservedQueue = [] ∧ t.mem.op = some (.reserved (.dir i
                { state := .empty, header := none }
                ((s.mem.slots[i].released ++ s.mem.slots[i].blocks).map fun b => (b, t.mem.blocks[b].state))))) ∧
              (∀ b ∈ s.mem.slots[i].blocks, ∀ place retire, s.mem.blocks[b].state = .used i place retire →
                t.mem.blocks[b].state = if retire then .bad else .dirty) ∧
              (∀ b : BlockNo, b ∉ s.mem.slots[i].blocks → t.mem.blocks[b] = s.mem.blocks[b]) ∧
              ∀ j : SlotNo, j ≠ i → t.mem.slots[j] = s.mem.slots[j])))) ∧
    ∀ a : FetchArgs, a.slot = i.val →
      (a.count = 0 ∨ s.mem.slots[i].finished = true ∧ s.mem.slots[i].length ≤ a.first →
        exec (.takeFetch rx (.fields a)) s = .next (replied rx (Answer.refused .badValue) (noteValid rx s))) ∧
      (1 ≤ a.count → a.count ≤ 64 →
        (s.mem.slots[i].finished = false →
          exec (.takeFetch rx (.fields a)) s = .next (replied rx (Answer.refused .wrongState) (noteValid rx s))) ∧
        (s.mem.slots[i].finished = true → a.first < s.mem.slots[i].length →
          ((∃ f ∈ s.mem.fetches, f.port = rx.port) →
            exec (.takeFetch rx (.fields a)) s = .next (replied rx (Answer.refused .busy) (noteValid rx s))) ∧
          ((∀ f ∈ s.mem.fetches, f.port ≠ rx.port) →
            exec (.takeFetch rx (.fields a)) s = .next (settle ((noteValid rx s).setMem { s.mem with
              fetches := s.mem.fetches ++ [
                { port := rx.port, tag := rx.tag, slot := i, next := a.first,
                  left := min a.count (s.mem.slots[i].length - a.first), samples := [],
                  adjusted := min a.count (s.mem.slots[i].length - a.first) ≠ a.count }] })))))

/-- R92 to R97, R87, R191: TAKE OPEN makes an EMPTY slot UPLOADING with its header; STAGE appends to the FILLING buffer, or to an
EMPTY one; STAGE COMMIT queues a chunk whose samples follow on, and drops one that does not, with CHUNK_REJECT and the index
of the first sample that fails. A sample follows on with the next expected offset, at most 65,534, one position in range for
each lane of the take, no mark but DEFER, RESUME and CUE, and DEFER and RESUME in turn. TAKE CLOSE of an upload with samples and empty buffers completes the take, locked; TAKE
DISCARD empties its slot and both buffers, and a part in progress loses its take. Each is refused where there is no upload.
The write or the PROGRAM each calls for begins at once where the array is idle. -/
def Obligations.UploadRequests : Prop :=
  (∀ (lanes : Nat) (u : Upload) (xs : List StagedSample),
    (∀ v, checkChunk lanes 0 u xs = .ok v ↔
      (∀ before x rest, xs = before ++ x :: rest → SampleFollows lanes u before x) ∧
        v = { nextOffset := u.nextOffset + xs.length, spanOpen := spanThrough u.spanOpen xs }) ∧
    ∀ n, checkChunk lanes 0 u xs = .error n ↔ ∃ before x rest, xs = before ++ x :: rest ∧ before.length = n ∧
      ¬ SampleFollows lanes u before x ∧
        ∀ front y back, before = front ++ y :: back → SampleFollows lanes u front y) ∧
  (∀ (i : SlotNo) (h : Header) (s : State), s.mem.slots[i].header = some h →
    s.uploadLanes i = ((List.range 12).filter fun j => h.lanes.getLsbD j).length) ∧
  ∀ (rx : Rx) (i : SlotNo) (s : State), TakesMotion rx s →
    (∀ a : OpenArgs, a.slot = i.val → openValid a = true →
      (s.mem.slots[i].state ≠ .empty ∨ (s.recorder.state = .armed ∧ s.recorder.slot = some i) →
        exec (.takeOpen rx (.fields a)) s = .next (replied rx (Answer.refused .wrongState) (noteValid rx s))) ∧
      (s.mem.slots[i].state = .empty → s.recorder.state ≠ .armed ∨ s.recorder.slot ≠ some i →
        (s.uploadSlot ≠ none → exec (.takeOpen rx (.fields a)) s =
          .next (replied rx (Answer.refused .busy) (noteValid rx s))) ∧
        (s.uploadSlot = none → (∀ b : BlockNo, s.mem.blocks[b].state ≠ .free) →
          exec (.takeOpen rx (.fields a)) s = .next (replied rx (Answer.refused .noRoom) (noteValid rx s))) ∧
        (s.uploadSlot = none → (∃ b : BlockNo, s.mem.blocks[b].state = .free) → s.mem.op.isSome = true ∨ ArrayIdle s →
          ∃ t, exec (.takeOpen rx (.fields a)) s = .next t ∧ t.mem.slots[i].state = .uploading ∧
            t.mem.slots[i].header = some { name := a.name, lanes := a.lanes, n := a.n, period := a.period,
                                           referenced := a.referenced, lensTag := a.lensTag, length := 0,
                                           interrupted := false, impliedResume := false } ∧
            t.mem.slots[i].blocks = [] ∧ t.mem.slots[i].locked = false ∧
            t.mem.upload = { nextOffset := 0, spanOpen := false } ∧ (∀ k : Fin 2, t.mem.buffers[k].state = .empty) ∧
            (s.mem.op.isSome = true → Reserved.dir i ∈ t.mem.reservedQueue) ∧
            (ArrayIdle s → t.mem.reservedQueue = [] ∧ t.mem.op = some (.reserved (.dir i
              { state := .uploading, header := t.mem.slots[i].header }
              (s.mem.slots[i].released.map fun b => (b, s.mem.blocks[b].state)))))))) ∧
    (s.uploadSlot = none →
      (∀ xs, exec (.stage rx (.fields xs)) s = .next (replied rx (Answer.refused .wrongState) (noteValid rx s))) ∧
      exec (.stageCommit rx (.fields ())) s = .next (replied rx (Answer.refused .wrongState) (noteValid rx s)) ∧
      exec (.takeClose rx (.fields ())) s = .next (replied rx (Answer.refused .wrongState) (noteValid rx s)) ∧
      exec (.takeDiscard rx (.fields ())) s = .next (replied rx (Answer.refused .wrongState) (noteValid rx s))) ∧
    (s.uploadSlot = some i →
      (∀ xs, xs ≠ [] → (∀ x ∈ xs, 1 ≤ x.pos.length ∧ x.pos.length ≤ 12) →
        (s.stageTarget = none → exec (.stage rx (.fields xs)) s =
          .next (replied rx (Answer.refused .busy) (noteValid rx s))) ∧
        (∀ k, s.stageTarget = some k →
          (65536 < stageBytes (s.mem.buffers[k].samples ++ xs) → exec (.stage rx (.fields xs)) s =
            .next (replied rx (Answer.refused .badValue) (noteValid rx s))) ∧
          (stageBytes (s.mem.buffers[k].samples ++ xs) ≤ 65536 → exec (.stage rx (.fields xs)) s =
            .next (replied rx Answer.done ((noteValid rx s).setBuffer k fun b =>
              { b with state := .filling, samples := b.samples ++ xs }))))) ∧
      (s.fillingBuffer = none → exec (.stageCommit rx (.fields ())) s =
        .next (replied rx (Answer.refused .wrongState) (noteValid rx s))) ∧
      (∀ k, s.fillingBuffer = some k →
        (∀ n, checkChunk (s.uploadLanes i) 0 s.mem.upload s.mem.buffers[k].samples = .error n →
          exec (.stageCommit rx (.fields ())) s = .next (replied rx
            { Answer.refused .badValue with payload := .failingSample n }
            (((noteValid rx s).setMem { s.mem with chunkReject := true }).setBuffer k fun _ =>
              { state := .empty, samples := [], first := 0, last := none, part := none }))) ∧
        (∀ u, checkChunk (s.uploadLanes i) 0 s.mem.upload s.mem.buffers[k].samples = .ok u → s.mem.op.isSome = true →
          u.nextOffset = s.mem.upload.nextOffset + s.mem.buffers[k].samples.length ∧
          ∃ t, exec (.stageCommit rx (.fields ())) s = .next t ∧ t.mem.upload = u ∧
            t.mem.buffers[k].state = .queued s.mem.nextCommit ∧
            t.mem.buffers[k].samples = s.mem.buffers[k].samples ∧ t.mem.nextCommit = s.mem.nextCommit + 1) ∧
        (∀ u b n, checkChunk (s.uploadLanes i) 0 s.mem.upload s.mem.buffers[k].samples = .ok u → ArrayIdle s →
          s.mem.buffers[otherBuffer k].state = .empty → s.lastRoom i = some (b, n + 1) →
          ∃ t, exec (.stageCommit rx (.fields ())) s = .next t ∧ t.mem.upload = u ∧
            t.mem.buffers[k].state = .programming ∧ t.mem.buffers[k].samples = s.mem.buffers[k].samples ∧
            t.mem.op = some (.chunkPart i b k
              (min (n + 1) (s.mem.buffers[k].part.getD s.mem.buffers[k].samples.length)) true))) ∧
      (s.mem.slots[i].length = 0 → exec (.takeClose rx (.fields ())) s =
        .next (replied rx (Answer.refused .wrongState) (noteValid rx s))) ∧
      (s.mem.slots[i].length ≠ 0 → (∃ k : Fin 2, s.mem.buffers[k].state ≠ .empty) →
        exec (.takeClose rx (.fields ())) s = .next (replied rx (Answer.refused .busy) (noteValid rx s))) ∧
      (∀ h, s.mem.slots[i].length ≠ 0 → (∀ k : Fin 2, s.mem.buffers[k].state = .empty) →
        s.mem.slots[i].header = some h → s.mem.op.isSome = true ∨ ArrayIdle s →
        ∃ t, exec (.takeClose rx (.fields ())) s = .next t ∧ t.mem.slots[i].state = .complete ∧
          t.mem.slots[i].header = some { h with impliedResume := s.mem.upload.spanOpen } ∧
          t.mem.slots[i].locked = true ∧ t.mem.slots[i].openLocked = true ∧ t.mem.slots[i].down = false ∧
          (s.mem.op.isSome = true → Reserved.dir i ∈ t.mem.reservedQueue) ∧
          (ArrayIdle s → t.mem.reservedQueue = [] ∧ t.mem.op = some (.reserved (.dir i
            { state := .complete, header := t.mem.slots[i].header }
            (s.mem.slots[i].released.map fun b => (b, s.mem.blocks[b].state)))))) ∧
      (s.mem.op.isSome = true ∨ ArrayIdle s → ∃ t, exec (.takeDiscard rx (.fields ())) s = .next t ∧
        t.mem.slots[i].state = .empty ∧ t.mem.slots[i].header = none ∧ t.mem.slots[i].blocks = [] ∧
        (s.mem.op.isSome = true → Reserved.dir i ∈ t.mem.reservedQueue) ∧
        (∀ b k n live, s.mem.op = some (.chunkPart i b k n live) → t.mem.op = some (.chunkPart i b k n false)) ∧
        (ArrayIdle s → t.mem.reservedQueue = [] ∧ t.mem.op = some (.reserved (.dir i { state := .empty, header := none }
          ((s.mem.slots[i].released ++ s.mem.slots[i].blocks).map fun b => (b, t.mem.blocks[b].state))))) ∧
        (s.mem.slots[i].blocks.Nodup → ∀ b ∈ s.mem.slots[i].blocks, ∀ place retire,
          s.mem.blocks[b].state = .used i place retire → t.mem.blocks[b].state = if retire then .bad else .dirty) ∧
        ∀ k : Fin 2, t.mem.buffers[k].state = .empty ∧ t.mem.buffers[k].samples = []))
end

