-- ==== Sys2Proof/Laws/State.lean ====
section
/-! SUPPORT. What each update of one field of `State` leaves in every field. -/

namespace Sys2Proof.Machine

open Sys2Proof

section SetStarting

variable (s : State) (x : Bool)

@[simp] theorem State.setStarting_starting : (s.setStarting x).starting = x := rfl
@[simp] theorem State.setStarting_tb : (s.setStarting x).tb = s.tb := rfl
@[simp] theorem State.setStarting_lanes : (s.setStarting x).lanes = s.lanes := rfl
@[simp] theorem State.setStarting_grants : (s.setStarting x).grants = s.grants := rfl
@[simp] theorem State.setStarting_nextArrival : (s.setStarting x).nextArrival = s.nextArrival := rfl
@[simp] theorem State.setStarting_lens : (s.setStarting x).lens = s.lens := rfl
@[simp] theorem State.setStarting_mem : (s.setStarting x).mem = s.mem := rfl
@[simp] theorem State.setStarting_recorder : (s.setStarting x).recorder = s.recorder := rfl
@[simp] theorem State.setStarting_play : (s.setStarting x).play = s.play := rfl
@[simp] theorem State.setStarting_safety : (s.setStarting x).safety = s.safety := rfl
@[simp] theorem State.setStarting_drives : (s.setStarting x).drives = s.drives := rfl
@[simp] theorem State.setStarting_rig : (s.setStarting x).rig = s.rig := rfl
@[simp] theorem State.setStarting_ports : (s.setStarting x).ports = s.ports := rfl
@[simp] theorem State.setStarting_powerLosses : (s.setStarting x).powerLosses = s.powerLosses := rfl
@[simp] theorem State.setStarting_pending : (s.setStarting x).pending = s.pending := rfl
@[simp] theorem State.setStarting_setStarting (y : Bool) : (s.setStarting x).setStarting y = s.setStarting y := rfl
@[simp] theorem State.setStarting_same : s.setStarting s.starting = s := rfl

end SetStarting

section SetTb

variable (s : State) (x : Timebase)

@[simp] theorem State.setTb_starting : (s.setTb x).starting = s.starting := rfl
@[simp] theorem State.setTb_tb : (s.setTb x).tb = x := rfl
@[simp] theorem State.setTb_lanes : (s.setTb x).lanes = s.lanes := rfl
@[simp] theorem State.setTb_grants : (s.setTb x).grants = s.grants := rfl
@[simp] theorem State.setTb_nextArrival : (s.setTb x).nextArrival = s.nextArrival := rfl
@[simp] theorem State.setTb_lens : (s.setTb x).lens = s.lens := rfl
@[simp] theorem State.setTb_mem : (s.setTb x).mem = s.mem := rfl
@[simp] theorem State.setTb_recorder : (s.setTb x).recorder = s.recorder := rfl
@[simp] theorem State.setTb_play : (s.setTb x).play = s.play := rfl
@[simp] theorem State.setTb_safety : (s.setTb x).safety = s.safety := rfl
@[simp] theorem State.setTb_drives : (s.setTb x).drives = s.drives := rfl
@[simp] theorem State.setTb_rig : (s.setTb x).rig = s.rig := rfl
@[simp] theorem State.setTb_ports : (s.setTb x).ports = s.ports := rfl
@[simp] theorem State.setTb_powerLosses : (s.setTb x).powerLosses = s.powerLosses := rfl
@[simp] theorem State.setTb_pending : (s.setTb x).pending = s.pending := rfl
@[simp] theorem State.setTb_setTb (y : Timebase) : (s.setTb x).setTb y = s.setTb y := rfl
@[simp] theorem State.setTb_same : s.setTb s.tb = s := rfl

end SetTb

section SetLanes

variable (s : State) (x : Vector LaneRec 12)

@[simp] theorem State.setLanes_starting : (s.setLanes x).starting = s.starting := rfl
@[simp] theorem State.setLanes_tb : (s.setLanes x).tb = s.tb := rfl
@[simp] theorem State.setLanes_lanes : (s.setLanes x).lanes = x := rfl
@[simp] theorem State.setLanes_grants : (s.setLanes x).grants = s.grants := rfl
@[simp] theorem State.setLanes_nextArrival : (s.setLanes x).nextArrival = s.nextArrival := rfl
@[simp] theorem State.setLanes_lens : (s.setLanes x).lens = s.lens := rfl
@[simp] theorem State.setLanes_mem : (s.setLanes x).mem = s.mem := rfl
@[simp] theorem State.setLanes_recorder : (s.setLanes x).recorder = s.recorder := rfl
@[simp] theorem State.setLanes_play : (s.setLanes x).play = s.play := rfl
@[simp] theorem State.setLanes_safety : (s.setLanes x).safety = s.safety := rfl
@[simp] theorem State.setLanes_drives : (s.setLanes x).drives = s.drives := rfl
@[simp] theorem State.setLanes_rig : (s.setLanes x).rig = s.rig := rfl
@[simp] theorem State.setLanes_ports : (s.setLanes x).ports = s.ports := rfl
@[simp] theorem State.setLanes_powerLosses : (s.setLanes x).powerLosses = s.powerLosses := rfl
@[simp] theorem State.setLanes_pending : (s.setLanes x).pending = s.pending := rfl
@[simp] theorem State.setLanes_setLanes (y : Vector LaneRec 12) : (s.setLanes x).setLanes y = s.setLanes y := rfl
@[simp] theorem State.setLanes_same : s.setLanes s.lanes = s := rfl

end SetLanes

section SetGrants

variable (s : State) (x : Vector Grant 12)

@[simp] theorem State.setGrants_starting : (s.setGrants x).starting = s.starting := rfl
@[simp] theorem State.setGrants_tb : (s.setGrants x).tb = s.tb := rfl
@[simp] theorem State.setGrants_lanes : (s.setGrants x).lanes = s.lanes := rfl
@[simp] theorem State.setGrants_grants : (s.setGrants x).grants = x := rfl
@[simp] theorem State.setGrants_nextArrival : (s.setGrants x).nextArrival = s.nextArrival := rfl
@[simp] theorem State.setGrants_lens : (s.setGrants x).lens = s.lens := rfl
@[simp] theorem State.setGrants_mem : (s.setGrants x).mem = s.mem := rfl
@[simp] theorem State.setGrants_recorder : (s.setGrants x).recorder = s.recorder := rfl
@[simp] theorem State.setGrants_play : (s.setGrants x).play = s.play := rfl
@[simp] theorem State.setGrants_safety : (s.setGrants x).safety = s.safety := rfl
@[simp] theorem State.setGrants_drives : (s.setGrants x).drives = s.drives := rfl
@[simp] theorem State.setGrants_rig : (s.setGrants x).rig = s.rig := rfl
@[simp] theorem State.setGrants_ports : (s.setGrants x).ports = s.ports := rfl
@[simp] theorem State.setGrants_powerLosses : (s.setGrants x).powerLosses = s.powerLosses := rfl
@[simp] theorem State.setGrants_pending : (s.setGrants x).pending = s.pending := rfl
@[simp] theorem State.setGrants_setGrants (y : Vector Grant 12) : (s.setGrants x).setGrants y = s.setGrants y := rfl
@[simp] theorem State.setGrants_same : s.setGrants s.grants = s := rfl

end SetGrants

section SetNextArrival

variable (s : State) (x : Nat)

@[simp] theorem State.setNextArrival_starting : (s.setNextArrival x).starting = s.starting := rfl
@[simp] theorem State.setNextArrival_tb : (s.setNextArrival x).tb = s.tb := rfl
@[simp] theorem State.setNextArrival_lanes : (s.setNextArrival x).lanes = s.lanes := rfl
@[simp] theorem State.setNextArrival_grants : (s.setNextArrival x).grants = s.grants := rfl
@[simp] theorem State.setNextArrival_nextArrival : (s.setNextArrival x).nextArrival = x := rfl
@[simp] theorem State.setNextArrival_lens : (s.setNextArrival x).lens = s.lens := rfl
@[simp] theorem State.setNextArrival_mem : (s.setNextArrival x).mem = s.mem := rfl
@[simp] theorem State.setNextArrival_recorder : (s.setNextArrival x).recorder = s.recorder := rfl
@[simp] theorem State.setNextArrival_play : (s.setNextArrival x).play = s.play := rfl
@[simp] theorem State.setNextArrival_safety : (s.setNextArrival x).safety = s.safety := rfl
@[simp] theorem State.setNextArrival_drives : (s.setNextArrival x).drives = s.drives := rfl
@[simp] theorem State.setNextArrival_rig : (s.setNextArrival x).rig = s.rig := rfl
@[simp] theorem State.setNextArrival_ports : (s.setNextArrival x).ports = s.ports := rfl
@[simp] theorem State.setNextArrival_powerLosses : (s.setNextArrival x).powerLosses = s.powerLosses := rfl
@[simp] theorem State.setNextArrival_pending : (s.setNextArrival x).pending = s.pending := rfl
@[simp] theorem State.setNextArrival_setNextArrival (y : Nat) : (s.setNextArrival x).setNextArrival y = s.setNextArrival y := rfl
@[simp] theorem State.setNextArrival_same : s.setNextArrival s.nextArrival = s := rfl

end SetNextArrival

section SetLens

variable (s : State) (x : Lens)

@[simp] theorem State.setLens_starting : (s.setLens x).starting = s.starting := rfl
@[simp] theorem State.setLens_tb : (s.setLens x).tb = s.tb := rfl
@[simp] theorem State.setLens_lanes : (s.setLens x).lanes = s.lanes := rfl
@[simp] theorem State.setLens_grants : (s.setLens x).grants = s.grants := rfl
@[simp] theorem State.setLens_nextArrival : (s.setLens x).nextArrival = s.nextArrival := rfl
@[simp] theorem State.setLens_lens : (s.setLens x).lens = x := rfl
@[simp] theorem State.setLens_mem : (s.setLens x).mem = s.mem := rfl
@[simp] theorem State.setLens_recorder : (s.setLens x).recorder = s.recorder := rfl
@[simp] theorem State.setLens_play : (s.setLens x).play = s.play := rfl
@[simp] theorem State.setLens_safety : (s.setLens x).safety = s.safety := rfl
@[simp] theorem State.setLens_drives : (s.setLens x).drives = s.drives := rfl
@[simp] theorem State.setLens_rig : (s.setLens x).rig = s.rig := rfl
@[simp] theorem State.setLens_ports : (s.setLens x).ports = s.ports := rfl
@[simp] theorem State.setLens_powerLosses : (s.setLens x).powerLosses = s.powerLosses := rfl
@[simp] theorem State.setLens_pending : (s.setLens x).pending = s.pending := rfl
@[simp] theorem State.setLens_setLens (y : Lens) : (s.setLens x).setLens y = s.setLens y := rfl
@[simp] theorem State.setLens_same : s.setLens s.lens = s := rfl

end SetLens

section SetMem

variable (s : State) (x : TakeMemory)

@[simp] theorem State.setMem_starting : (s.setMem x).starting = s.starting := rfl
@[simp] theorem State.setMem_tb : (s.setMem x).tb = s.tb := rfl
@[simp] theorem State.setMem_lanes : (s.setMem x).lanes = s.lanes := rfl
@[simp] theorem State.setMem_grants : (s.setMem x).grants = s.grants := rfl
@[simp] theorem State.setMem_nextArrival : (s.setMem x).nextArrival = s.nextArrival := rfl
@[simp] theorem State.setMem_lens : (s.setMem x).lens = s.lens := rfl
@[simp] theorem State.setMem_mem : (s.setMem x).mem = x := rfl
@[simp] theorem State.setMem_recorder : (s.setMem x).recorder = s.recorder := rfl
@[simp] theorem State.setMem_play : (s.setMem x).play = s.play := rfl
@[simp] theorem State.setMem_safety : (s.setMem x).safety = s.safety := rfl
@[simp] theorem State.setMem_drives : (s.setMem x).drives = s.drives := rfl
@[simp] theorem State.setMem_rig : (s.setMem x).rig = s.rig := rfl
@[simp] theorem State.setMem_ports : (s.setMem x).ports = s.ports := rfl
@[simp] theorem State.setMem_powerLosses : (s.setMem x).powerLosses = s.powerLosses := rfl
@[simp] theorem State.setMem_pending : (s.setMem x).pending = s.pending := rfl
@[simp] theorem State.setMem_setMem (y : TakeMemory) : (s.setMem x).setMem y = s.setMem y := rfl
@[simp] theorem State.setMem_same : s.setMem s.mem = s := rfl

end SetMem

section SetRecorder

variable (s : State) (x : Recorder)

@[simp] theorem State.setRecorder_starting : (s.setRecorder x).starting = s.starting := rfl
@[simp] theorem State.setRecorder_tb : (s.setRecorder x).tb = s.tb := rfl
@[simp] theorem State.setRecorder_lanes : (s.setRecorder x).lanes = s.lanes := rfl
@[simp] theorem State.setRecorder_grants : (s.setRecorder x).grants = s.grants := rfl
@[simp] theorem State.setRecorder_nextArrival : (s.setRecorder x).nextArrival = s.nextArrival := rfl
@[simp] theorem State.setRecorder_lens : (s.setRecorder x).lens = s.lens := rfl
@[simp] theorem State.setRecorder_mem : (s.setRecorder x).mem = s.mem := rfl
@[simp] theorem State.setRecorder_recorder : (s.setRecorder x).recorder = x := rfl
@[simp] theorem State.setRecorder_play : (s.setRecorder x).play = s.play := rfl
@[simp] theorem State.setRecorder_safety : (s.setRecorder x).safety = s.safety := rfl
@[simp] theorem State.setRecorder_drives : (s.setRecorder x).drives = s.drives := rfl
@[simp] theorem State.setRecorder_rig : (s.setRecorder x).rig = s.rig := rfl
@[simp] theorem State.setRecorder_ports : (s.setRecorder x).ports = s.ports := rfl
@[simp] theorem State.setRecorder_powerLosses : (s.setRecorder x).powerLosses = s.powerLosses := rfl
@[simp] theorem State.setRecorder_pending : (s.setRecorder x).pending = s.pending := rfl
@[simp] theorem State.setRecorder_setRecorder (y : Recorder) : (s.setRecorder x).setRecorder y = s.setRecorder y := rfl
@[simp] theorem State.setRecorder_same : s.setRecorder s.recorder = s := rfl

end SetRecorder

section SetPlay

variable (s : State) (x : Playback)

@[simp] theorem State.setPlay_starting : (s.setPlay x).starting = s.starting := rfl
@[simp] theorem State.setPlay_tb : (s.setPlay x).tb = s.tb := rfl
@[simp] theorem State.setPlay_lanes : (s.setPlay x).lanes = s.lanes := rfl
@[simp] theorem State.setPlay_grants : (s.setPlay x).grants = s.grants := rfl
@[simp] theorem State.setPlay_nextArrival : (s.setPlay x).nextArrival = s.nextArrival := rfl
@[simp] theorem State.setPlay_lens : (s.setPlay x).lens = s.lens := rfl
@[simp] theorem State.setPlay_mem : (s.setPlay x).mem = s.mem := rfl
@[simp] theorem State.setPlay_recorder : (s.setPlay x).recorder = s.recorder := rfl
@[simp] theorem State.setPlay_play : (s.setPlay x).play = x := rfl
@[simp] theorem State.setPlay_safety : (s.setPlay x).safety = s.safety := rfl
@[simp] theorem State.setPlay_drives : (s.setPlay x).drives = s.drives := rfl
@[simp] theorem State.setPlay_rig : (s.setPlay x).rig = s.rig := rfl
@[simp] theorem State.setPlay_ports : (s.setPlay x).ports = s.ports := rfl
@[simp] theorem State.setPlay_powerLosses : (s.setPlay x).powerLosses = s.powerLosses := rfl
@[simp] theorem State.setPlay_pending : (s.setPlay x).pending = s.pending := rfl
@[simp] theorem State.setPlay_setPlay (y : Playback) : (s.setPlay x).setPlay y = s.setPlay y := rfl
@[simp] theorem State.setPlay_same : s.setPlay s.play = s := rfl

end SetPlay

section SetSafety

variable (s : State) (x : Safety)

@[simp] theorem State.setSafety_starting : (s.setSafety x).starting = s.starting := rfl
@[simp] theorem State.setSafety_tb : (s.setSafety x).tb = s.tb := rfl
@[simp] theorem State.setSafety_lanes : (s.setSafety x).lanes = s.lanes := rfl
@[simp] theorem State.setSafety_grants : (s.setSafety x).grants = s.grants := rfl
@[simp] theorem State.setSafety_nextArrival : (s.setSafety x).nextArrival = s.nextArrival := rfl
@[simp] theorem State.setSafety_lens : (s.setSafety x).lens = s.lens := rfl
@[simp] theorem State.setSafety_mem : (s.setSafety x).mem = s.mem := rfl
@[simp] theorem State.setSafety_recorder : (s.setSafety x).recorder = s.recorder := rfl
@[simp] theorem State.setSafety_play : (s.setSafety x).play = s.play := rfl
@[simp] theorem State.setSafety_safety : (s.setSafety x).safety = x := rfl
@[simp] theorem State.setSafety_drives : (s.setSafety x).drives = s.drives := rfl
@[simp] theorem State.setSafety_rig : (s.setSafety x).rig = s.rig := rfl
@[simp] theorem State.setSafety_ports : (s.setSafety x).ports = s.ports := rfl
@[simp] theorem State.setSafety_powerLosses : (s.setSafety x).powerLosses = s.powerLosses := rfl
@[simp] theorem State.setSafety_pending : (s.setSafety x).pending = s.pending := rfl
@[simp] theorem State.setSafety_setSafety (y : Safety) : (s.setSafety x).setSafety y = s.setSafety y := rfl
@[simp] theorem State.setSafety_same : s.setSafety s.safety = s := rfl

end SetSafety

section SetDrives

variable (s : State) (x : DrivePort)

@[simp] theorem State.setDrives_starting : (s.setDrives x).starting = s.starting := rfl
@[simp] theorem State.setDrives_tb : (s.setDrives x).tb = s.tb := rfl
@[simp] theorem State.setDrives_lanes : (s.setDrives x).lanes = s.lanes := rfl
@[simp] theorem State.setDrives_grants : (s.setDrives x).grants = s.grants := rfl
@[simp] theorem State.setDrives_nextArrival : (s.setDrives x).nextArrival = s.nextArrival := rfl
@[simp] theorem State.setDrives_lens : (s.setDrives x).lens = s.lens := rfl
@[simp] theorem State.setDrives_mem : (s.setDrives x).mem = s.mem := rfl
@[simp] theorem State.setDrives_recorder : (s.setDrives x).recorder = s.recorder := rfl
@[simp] theorem State.setDrives_play : (s.setDrives x).play = s.play := rfl
@[simp] theorem State.setDrives_safety : (s.setDrives x).safety = s.safety := rfl
@[simp] theorem State.setDrives_drives : (s.setDrives x).drives = x := rfl
@[simp] theorem State.setDrives_rig : (s.setDrives x).rig = s.rig := rfl
@[simp] theorem State.setDrives_ports : (s.setDrives x).ports = s.ports := rfl
@[simp] theorem State.setDrives_powerLosses : (s.setDrives x).powerLosses = s.powerLosses := rfl
@[simp] theorem State.setDrives_pending : (s.setDrives x).pending = s.pending := rfl
@[simp] theorem State.setDrives_setDrives (y : DrivePort) : (s.setDrives x).setDrives y = s.setDrives y := rfl
@[simp] theorem State.setDrives_same : s.setDrives s.drives = s := rfl

end SetDrives

section SetRig

variable (s : State) (x : Rig)

@[simp] theorem State.setRig_starting : (s.setRig x).starting = s.starting := rfl
@[simp] theorem State.setRig_tb : (s.setRig x).tb = s.tb := rfl
@[simp] theorem State.setRig_lanes : (s.setRig x).lanes = s.lanes := rfl
@[simp] theorem State.setRig_grants : (s.setRig x).grants = s.grants := rfl
@[simp] theorem State.setRig_nextArrival : (s.setRig x).nextArrival = s.nextArrival := rfl
@[simp] theorem State.setRig_lens : (s.setRig x).lens = s.lens := rfl
@[simp] theorem State.setRig_mem : (s.setRig x).mem = s.mem := rfl
@[simp] theorem State.setRig_recorder : (s.setRig x).recorder = s.recorder := rfl
@[simp] theorem State.setRig_play : (s.setRig x).play = s.play := rfl
@[simp] theorem State.setRig_safety : (s.setRig x).safety = s.safety := rfl
@[simp] theorem State.setRig_drives : (s.setRig x).drives = s.drives := rfl
@[simp] theorem State.setRig_rig : (s.setRig x).rig = x := rfl
@[simp] theorem State.setRig_ports : (s.setRig x).ports = s.ports := rfl
@[simp] theorem State.setRig_powerLosses : (s.setRig x).powerLosses = s.powerLosses := rfl
@[simp] theorem State.setRig_pending : (s.setRig x).pending = s.pending := rfl
@[simp] theorem State.setRig_setRig (y : Rig) : (s.setRig x).setRig y = s.setRig y := rfl
@[simp] theorem State.setRig_same : s.setRig s.rig = s := rfl

end SetRig

section SetPorts

variable (s : State) (x : Vector StationPort 4)

@[simp] theorem State.setPorts_starting : (s.setPorts x).starting = s.starting := rfl
@[simp] theorem State.setPorts_tb : (s.setPorts x).tb = s.tb := rfl
@[simp] theorem State.setPorts_lanes : (s.setPorts x).lanes = s.lanes := rfl
@[simp] theorem State.setPorts_grants : (s.setPorts x).grants = s.grants := rfl
@[simp] theorem State.setPorts_nextArrival : (s.setPorts x).nextArrival = s.nextArrival := rfl
@[simp] theorem State.setPorts_lens : (s.setPorts x).lens = s.lens := rfl
@[simp] theorem State.setPorts_mem : (s.setPorts x).mem = s.mem := rfl
@[simp] theorem State.setPorts_recorder : (s.setPorts x).recorder = s.recorder := rfl
@[simp] theorem State.setPorts_play : (s.setPorts x).play = s.play := rfl
@[simp] theorem State.setPorts_safety : (s.setPorts x).safety = s.safety := rfl
@[simp] theorem State.setPorts_drives : (s.setPorts x).drives = s.drives := rfl
@[simp] theorem State.setPorts_rig : (s.setPorts x).rig = s.rig := rfl
@[simp] theorem State.setPorts_ports : (s.setPorts x).ports = x := rfl
@[simp] theorem State.setPorts_powerLosses : (s.setPorts x).powerLosses = s.powerLosses := rfl
@[simp] theorem State.setPorts_pending : (s.setPorts x).pending = s.pending := rfl
@[simp] theorem State.setPorts_setPorts (y : Vector StationPort 4) : (s.setPorts x).setPorts y = s.setPorts y := rfl
@[simp] theorem State.setPorts_same : s.setPorts s.ports = s := rfl

end SetPorts

section SetPowerLosses

variable (s : State) (x : Nat)

@[simp] theorem State.setPowerLosses_starting : (s.setPowerLosses x).starting = s.starting := rfl
@[simp] theorem State.setPowerLosses_tb : (s.setPowerLosses x).tb = s.tb := rfl
@[simp] theorem State.setPowerLosses_lanes : (s.setPowerLosses x).lanes = s.lanes := rfl
@[simp] theorem State.setPowerLosses_grants : (s.setPowerLosses x).grants = s.grants := rfl
@[simp] theorem State.setPowerLosses_nextArrival : (s.setPowerLosses x).nextArrival = s.nextArrival := rfl
@[simp] theorem State.setPowerLosses_lens : (s.setPowerLosses x).lens = s.lens := rfl
@[simp] theorem State.setPowerLosses_mem : (s.setPowerLosses x).mem = s.mem := rfl
@[simp] theorem State.setPowerLosses_recorder : (s.setPowerLosses x).recorder = s.recorder := rfl
@[simp] theorem State.setPowerLosses_play : (s.setPowerLosses x).play = s.play := rfl
@[simp] theorem State.setPowerLosses_safety : (s.setPowerLosses x).safety = s.safety := rfl
@[simp] theorem State.setPowerLosses_drives : (s.setPowerLosses x).drives = s.drives := rfl
@[simp] theorem State.setPowerLosses_rig : (s.setPowerLosses x).rig = s.rig := rfl
@[simp] theorem State.setPowerLosses_ports : (s.setPowerLosses x).ports = s.ports := rfl
@[simp] theorem State.setPowerLosses_powerLosses : (s.setPowerLosses x).powerLosses = x := rfl
@[simp] theorem State.setPowerLosses_pending : (s.setPowerLosses x).pending = s.pending := rfl
@[simp] theorem State.setPowerLosses_setPowerLosses (y : Nat) : (s.setPowerLosses x).setPowerLosses y = s.setPowerLosses y := rfl
@[simp] theorem State.setPowerLosses_same : s.setPowerLosses s.powerLosses = s := rfl

end SetPowerLosses

section SetPending

variable (s : State) (x : List Instr)

@[simp] theorem State.setPending_starting : (s.setPending x).starting = s.starting := rfl
@[simp] theorem State.setPending_tb : (s.setPending x).tb = s.tb := rfl
@[simp] theorem State.setPending_lanes : (s.setPending x).lanes = s.lanes := rfl
@[simp] theorem State.setPending_grants : (s.setPending x).grants = s.grants := rfl
@[simp] theorem State.setPending_nextArrival : (s.setPending x).nextArrival = s.nextArrival := rfl
@[simp] theorem State.setPending_lens : (s.setPending x).lens = s.lens := rfl
@[simp] theorem State.setPending_mem : (s.setPending x).mem = s.mem := rfl
@[simp] theorem State.setPending_recorder : (s.setPending x).recorder = s.recorder := rfl
@[simp] theorem State.setPending_play : (s.setPending x).play = s.play := rfl
@[simp] theorem State.setPending_safety : (s.setPending x).safety = s.safety := rfl
@[simp] theorem State.setPending_drives : (s.setPending x).drives = s.drives := rfl
@[simp] theorem State.setPending_rig : (s.setPending x).rig = s.rig := rfl
@[simp] theorem State.setPending_ports : (s.setPending x).ports = s.ports := rfl
@[simp] theorem State.setPending_powerLosses : (s.setPending x).powerLosses = s.powerLosses := rfl
@[simp] theorem State.setPending_pending : (s.setPending x).pending = x := rfl
@[simp] theorem State.setPending_setPending (y : List Instr) : (s.setPending x).setPending y = s.setPending y := rfl
@[simp] theorem State.setPending_same : s.setPending s.pending = s := rfl

end SetPending

end Sys2Proof.Machine
end

