-- ==== Sys2Proof/Laws/Tables.lean ====
section
/-! SUPPORT. Reading a table after one entry or every entry was changed; the clamps; what a change made for each of a
list of indices keeps. -/

namespace Sys2Proof.Machine

open Sys2Proof

section Entries

variable {α β : Type} {n : Nat}

@[simp] theorem updAt_getNat (v : Vector α n) (i : Fin n) (f : α → α) {k : Nat} (h : k < n) :
    (updAt v i f)[k] = if i.val = k then f v[k] else v[k] := by
  simp only [updAt, Fin.getElem_fin, Vector.getElem_set]
  split
  · next e => subst e; rfl
  · rfl

@[simp] theorem mapAll_getNat (v : Vector α n) (f : Fin n → α → β) {k : Nat} (h : k < n) :
    (mapAll v f)[k] = f ⟨k, h⟩ v[k] := by simp [mapAll]

theorem updAt_get (v : Vector α n) (i j : Fin n) (f : α → α) :
    (updAt v i f)[j] = if i = j then f v[j] else v[j] := by
  simp only [Fin.getElem_fin, updAt_getNat, Fin.ext_iff]

theorem updAt_same (v : Vector α n) (i : Fin n) (f : α → α) : (updAt v i f)[i] = f v[i] := by
  rw [updAt_get, if_pos rfl]

theorem updAt_other {v : Vector α n} {i j : Fin n} {f : α → α} (h : i ≠ j) : (updAt v i f)[j] = v[j] := by
  rw [updAt_get, if_neg h]

theorem mapAll_get (v : Vector α n) (f : Fin n → α → β) (i : Fin n) : (mapAll v f)[i] = f i v[i] := by
  simp only [Fin.getElem_fin, mapAll_getNat]

end Entries

/-- A property that each change keeps is kept by the change made for a list of indices. -/
theorem forEach_keeps {α : Type} {P : State → Prop} {f : α → State → State} (h : ∀ i s, P s → P (f i s)) (is : List α)
    {s : State} (hs : P s) : P (forEach is f s) := by
  induction is generalizing s with
  | nil => exact hs
  | cons i is ih => exact ih (h i s hs)

/-- A field that each change leaves alone is left alone by the change made for a list of indices. -/
theorem forEach_frame {α β : Type} (g : State → β) {f : α → State → State} (h : ∀ i s, g (f i s) = g s) (is : List α)
    (s : State) : g (forEach is f s) = g s :=
  forEach_keeps (P := fun x => g x = g s) (fun i x hx => (h i x).trans hx) is rfl

@[simp] theorem forEach_nil {α : Type} (f : α → State → State) (s : State) : forEach [] f s = s := rfl

@[simp] theorem forEach_cons {α : Type} (i : α) (is : List α) (f : α → State → State) (s : State) :
    forEach (i :: is) f s = forEach is f (f i s) := rfl

/-! ### Clamps -/

theorem clampInt_range {lo hi x : Int} (h : lo ≤ hi) : lo ≤ clampInt lo hi x ∧ clampInt lo hi x ≤ hi := by
  unfold clampInt
  split <;> [skip; split] <;> omega

theorem clampNat_range {lo hi x : Nat} (h : lo ≤ hi) : lo ≤ clampNat lo hi x ∧ clampNat lo hi x ≤ hi := by
  unfold clampNat
  split <;> [skip; split] <;> omega

/-- A value within the range is kept by the clamp. -/
theorem clampInt_inside {lo hi x : Int} (h1 : lo ≤ x) (h2 : x ≤ hi) : clampInt lo hi x = x := by
  unfold clampInt
  split <;> [skip; split] <;> omega

end Sys2Proof.Machine
end

