-- ==== Sys2Proof/Laws/Clock.lean ====
section
/-! SUPPORT. What the operations of the Timebase, the drive exchanges and the scan's counts can do. -/

namespace Sys2Proof.Machine

open Sys2Proof

/-- R35: the settings wait no longer; the frame counter, the tick index and the frame time are left. -/
theorem applySettings_spec (b : Timebase) :
    (applySettings b).pendingSettings = none ∧ (applySettings b).f = b.f ∧ (applySettings b).t = b.t ∧
      (applySettings b).frameTime = b.frameTime ∧ (applySettings b).started = b.started := by
  unfold applySettings
  split
  · next h => exact ⟨h, rfl, rfl, rfl, rfl⟩
  · dsimp only
    split <;> exact ⟨rfl, rfl, rfl, rfl, rfl⟩

/-- R33, R34: a frame start leaves no count of 9 in FLYWHEEL, and a return to SEARCH is the ninth's alone. -/
theorem flywheelFrame_spec (b : Timebase) :
    (b.gaveUp = true → (flywheelFrame b).lock = .search ∧ (flywheelFrame b).flywheelCount = 9) ∧
      (b.gaveUp = false → (flywheelFrame b).lock = b.lock ∧ (flywheelFrame b).lastPulse = b.lastPulse ∧
        (flywheelFrame b).workingPeriod = b.workingPeriod) := by
  constructor <;> intro h <;> simp [flywheelFrame, h]

/-- R158: what goes out to one drive; the other channel fields stay. -/
@[simp] theorem exchangeAll_channel (s : State) (l : Lane) :
    (exchangeAll s).drives.channels[l] = sendExchange s l s.drives.channels[l] := by
  simp [exchangeAll]

/-- R158: a present drive is sent this tick's exchange, with a count where the lane is ACTIVE under drive power. -/
theorem sendExchange_present {s : State} {l : Lane} (c : Channel) (h : s.lanes[l].present = true) :
    sendExchange s l c =
      if s.safety.drivePower = true ∧ s.lanes[l].condition = .active then
        { c with exchange := some { f := s.tb.f, t := s.tb.t, sent := some (floorDiv s.lanes[l].p 256) },
                 lastSent := some (floorDiv s.lanes[l].p 256) }
      else { c with exchange := some { f := s.tb.f, t := s.tb.t, sent := none } } := by
  by_cases hp : s.safety.drivePower = true <;> by_cases hc : s.lanes[l].condition = .active <;>
    simp [sendExchange, -Fin.getElem_fin, h, hp, hc]

/-- R158, R159: a lane is disabled where the miss judged with the tick raises its fault; every other lane is left. -/
@[simp] theorem dropMissing_lane (s : State) (l : Lane) :
    (dropMissing s).lanes[l] = if s.missFaults l then disableLane .driveFault s.lanes[l] else s.lanes[l] := by
  simp [dropMissing]

/-- R158, R159: a lane that a miss judged with the tick disables keeps P and T whatever its candidate. -/
theorem commitLanes_missed {cs : Vector Candidate 12} {s : State} {l : Lane} (h : s.missFaults l = true)
    (ha : s.lanes[l].condition = .active) : (commitLanes cs s).lanes[l] =
      { s.lanes[l] with condition := .disabled .driveFault, v := 0, sEff := (dropMissing s).effScale l,
                        limitClip := false, capped := false } := by
  have hp : s.lanes[l].present = true := by simp_all [State.missFaults]
  simp only [commitLanes, State.setLanes, mapAll_get, dropMissing_lane, h, if_true]
  simp [commitLane, disableLane, -Fin.getElem_fin, ha, hp]

/-- R159: a lane that no present drive's open exchange belongs to is not judged. -/
theorem missFaults_open {s : State} {l : Lane} (h : s.missFaults l = true) :
    s.lanes[l].present = true ∧ ∃ e, s.drives.channels[l].exchange = some e := by
  simp only [State.missFaults, Bool.and_eq_true] at h
  exact ⟨h.1.1.1, Option.isSome_iff_exists.mp h.1.1.2⟩

/-- R100: a slot keeps a prefix of its blocks, and it holds the samples counted. -/
theorem keepBlocks_prefix (data : BlockNo → List StoredSample) (n : Nat) (bs : List BlockNo) :
    keepBlocks data n bs <+: bs := List.take_prefix _ _

/-- R100: a slot's list after the scan is a prefix of the blocks it owned. -/
theorem settleSlot_blocks_prefix (data : BlockNo → List StoredSample) (own : List BlockNo) (r : SlotRecord) :
    (settleSlot data own r).blocks <+: own := by
  unfold settleSlot
  dsimp only
  split
  · split <;> simp [lockedSlot, Slot.empty, Slot.reset]
  · split <;> simp [lockedSlot, Slot.empty, Slot.reset, keepBlocks_prefix]
  · split <;> simp [lockedSlot, Slot.empty, Slot.reset, keepBlocks_prefix]
  · simp [Slot.empty, Slot.reset]

/-- R100: what is kept holds n whole samples wherever the whole list does. -/
theorem keepBlocks_holds {data : BlockNo → List StoredSample} {n : Nat} {bs : List BlockNo}
    (h : n ≤ (countBlocks data bs).count) : n ≤ (countBlocks data (keepBlocks data n bs)).count := by
  unfold keepBlocks
  cases hf : (List.range bs.length).find? fun j => n ≤ (countBlocks data (bs.take j)).count with
  | none => simpa [hf] using h
  | some j => simpa [hf] using List.find?_some hf

end Sys2Proof.Machine
end

