-- ==== Sys2Proof/Laws/Ops.lean ====
section
/-! SUPPORT. What the operations of Machine/Ops.lean can do: the frame of each, and what it does to what it touches. -/

namespace Sys2Proof.Machine

open Sys2Proof

/-- Two states agree in everything but the ports' queues and transmitters: what raising an event, answering and sending
can touch. -/
structure SameButQueues (s t : State) : Prop where
  starting : t.starting = s.starting
  tb : t.tb = s.tb
  lanes : t.lanes = s.lanes
  grants : t.grants = s.grants
  nextArrival : t.nextArrival = s.nextArrival
  lens : t.lens = s.lens
  mem : t.mem = s.mem
  recorder : t.recorder = s.recorder
  play : t.play = s.play
  safety : t.safety = s.safety
  drives : t.drives = s.drives
  rig : t.rig = s.rig
  powerLosses : t.powerLosses = s.powerLosses
  pending : t.pending = s.pending
  link : ∀ p : Port, t.ports[p].link = s.ports[p].link
  role : ∀ p : Port, t.ports[p].role = s.ports[p].role
  level : ∀ p : Port, t.ports[p].level = s.ports[p].level
  lastValid : ∀ p : Port, t.ports[p].lastValid = s.ports[p].lastValid
  leaving : ∀ p : Port, t.ports[p].leaving = s.ports[p].leaving

theorem SameButQueues.refl (s : State) : SameButQueues s s := by constructor <;> simp

theorem SameButQueues.trans {s t u : State} (a : SameButQueues s t) (b : SameButQueues t u) : SameButQueues s u := by
  constructor
  · exact b.starting.trans a.starting
  · exact b.tb.trans a.tb
  · exact b.lanes.trans a.lanes
  · exact b.grants.trans a.grants
  · exact b.nextArrival.trans a.nextArrival
  · exact b.lens.trans a.lens
  · exact b.mem.trans a.mem
  · exact b.recorder.trans a.recorder
  · exact b.play.trans a.play
  · exact b.safety.trans a.safety
  · exact b.drives.trans a.drives
  · exact b.rig.trans a.rig
  · exact b.powerLosses.trans a.powerLosses
  · exact b.pending.trans a.pending
  · exact fun p => (b.link p).trans (a.link p)
  · exact fun p => (b.role p).trans (a.role p)
  · exact fun p => (b.level p).trans (a.level p)
  · exact fun p => (b.lastValid p).trans (a.lastValid p)
  · exact fun p => (b.leaving p).trans (a.leaving p)

/-- The ports' part of the frame, for an update of the ports alone. -/
theorem sameButQueues_setPorts {s : State} {v : Vector StationPort 4}
    (h : ∀ p : Port, v[p].link = s.ports[p].link ∧ v[p].role = s.ports[p].role ∧ v[p].level = s.ports[p].level ∧
      v[p].lastValid = s.ports[p].lastValid ∧ v[p].leaving = s.ports[p].leaving) :
    SameButQueues s (s.setPorts v) := by
  constructor <;> first
    | rfl
    | exact fun p => (h p).1
    | exact fun p => (h p).2.1
    | exact fun p => (h p).2.2.1
    | exact fun p => (h p).2.2.2.1
    | exact fun p => (h p).2.2.2.2

/-! ### Events -/

/-- What placing an event does to a queue (R181). -/
theorem pushEvent_events (e : Event) (q : StationPort) :
    (pushEvent e q).events = if q.events.length < 16 then q.events ++ [e] else q.events := by
  unfold pushEvent
  split <;> rfl

theorem pushEvent_length {e : Event} {q : StationPort} (h : q.events.length ≤ 16) : (pushEvent e q).events.length ≤ 16 := by
  rw [pushEvent_events]
  split
  · simp; omega
  · exact h

/-- A port's queue after an event was raised for an audience. -/
theorem raiseFor_port (aud : Port → Bool) (body : EventBody) (s : State) (p : Port) :
    (raiseFor aud body s).ports[p] =
      if s.isActive p && aud p then pushEvent { f := s.tb.f, t := s.tb.t, body := body } s.ports[p] else s.ports[p] := by
  unfold raiseFor
  rw [State.setPorts_ports, mapAll_get]

/-- Raising an event touches queues only. -/
theorem raiseFor_frame (aud : Port → Bool) (body : EventBody) (s : State) : SameButQueues s (raiseFor aud body s) := by
  refine sameButQueues_setPorts fun p => ?_
  rw [mapAll_get]
  split
  · unfold pushEvent
    split <;> simp
  · simp

theorem raiseAll_frame (body : EventBody) (s : State) : SameButQueues s (raiseAll body s) := raiseFor_frame _ _ _
theorem raiseMotion_frame (body : EventBody) (s : State) : SameButQueues s (raiseMotion body s) := raiseFor_frame _ _ _
theorem raiseLane_frame (l : Lane) (x : Option Holder) (body : EventBody) (s : State) :
    SameButQueues s (raiseLane l x body s) := raiseFor_frame _ _ _

/-! ### Replies and sending -/

/-- A reply path after an answer was given at a port. -/
theorem pushReply_port (p q : Port) (r : Reply) (s : State) :
    (pushReply p r s).ports[q] =
      if s.isActive p = true ∧ p = q then { s.ports[q] with replies := s.ports[q].replies ++ [r] } else s.ports[q] := by
  unfold pushReply State.setPort
  by_cases h : s.isActive p = true
  · simp only [h, if_true, State.setPorts_ports, updAt_get, true_and]
  · simp [h]

theorem pushReply_frame (p : Port) (r : Reply) (s : State) : SameButQueues s (pushReply p r s) := by
  unfold pushReply State.setPort
  split
  · refine sameButQueues_setPorts fun q => ?_
    rw [updAt_get]
    split <;> simp
  · exact .refl s

/-- What the transmitter chooses (R180): it leaves all but `telemetry` and `sending` alone. -/
theorem pumpPort_keeps (q : StationPort) :
    (pumpPort q).link = q.link ∧ (pumpPort q).role = q.role ∧ (pumpPort q).level = q.level ∧
      (pumpPort q).lastValid = q.lastValid ∧ (pumpPort q).leaving = q.leaving ∧ (pumpPort q).events = q.events ∧
      (pumpPort q).replies = q.replies := by
  unfold pumpPort
  repeat' split
  all_goals simp

@[simp] theorem pump_port (s : State) (p : Port) : (pump s).ports[p] = pumpPort s.ports[p] := by
  unfold pump
  rw [State.setPorts_ports, mapAll_get]

theorem pump_frame (s : State) : SameButQueues s (pump s) := by
  refine sameButQueues_setPorts fun p => ?_
  rw [mapAll_get]
  have h := pumpPort_keeps s.ports[p]
  exact ⟨h.1, h.2.1, h.2.2.1, h.2.2.2.1, h.2.2.2.2.1⟩

/-! ### Outputs -/

/-- The outputs follow what they are to be (R162). -/
theorem driveOutputs_follow (on : Bool) (c : Channel) :
    (driveOutputs on c).enable = on ∧ (driveOutputs on c).brake = on := by
  unfold driveOutputs
  cases on <;> rcases he : c.enable <;> rcases hb : c.brake <;> simp [he, hb]

/-- The exchange, the counts and the status of a channel are untouched by its outputs. -/
theorem driveOutputs_keeps (on : Bool) (c : Channel) :
    (driveOutputs on c).exchange = c.exchange ∧ (driveOutputs on c).latestCount = c.latestCount ∧
      (driveOutputs on c).status = c.status ∧ (driveOutputs on c).missing = c.missing ∧
      (driveOutputs on c).lastSent = c.lastSent ∧
      (driveOutputs on c).faultReported = c.faultReported ∧ (driveOutputs on c).settled = c.settled := by
  unfold driveOutputs
  repeat' split
  all_goals simp

@[simp] theorem refreshOutputs_channel (s : State) (l : Lane) :
    (refreshOutputs s).drives.channels[l] = driveOutputs (s.outputsOn l) s.drives.channels[l] := by
  unfold refreshOutputs
  rw [State.setDrives_drives, mapAll_get]

/-- After a refresh every lane's outputs are as drive power and its condition say. -/
theorem refreshOutputs_follow (s : State) (l : Lane) :
    (refreshOutputs s).drives.channels[l].enable = (refreshOutputs s).outputsOn l ∧
      (refreshOutputs s).drives.channels[l].brake = (refreshOutputs s).outputsOn l := by
  rw [refreshOutputs_channel]
  exact driveOutputs_follow _ _

/-- What a change of drive power leaves alone. -/
theorem setPower_keeps (on : Bool) (s : State) :
    (setPower on s).lanes = s.lanes ∧ (setPower on s).grants = s.grants ∧ (setPower on s).mem = s.mem ∧
      (setPower on s).play = s.play ∧ (setPower on s).recorder = s.recorder ∧ (setPower on s).tb = s.tb ∧
      (setPower on s).pending = s.pending ∧ (setPower on s).safety = { s.safety with drivePower := on } := by
  unfold setPower
  split
  · next h => simp [← h]
  · have h := raiseAll_frame (.drivePower on) (refreshOutputs (s.setSafety { s.safety with drivePower := on }))
    refine ⟨h.lanes, h.grants, h.mem, h.play, h.recorder, h.tb, h.pending, h.safety⟩

end Sys2Proof.Machine
end

