-- ==== Sys2Proof/Laws/Grants.lean ====
section
/-! SUPPORT. What the operations of the Grant Table can do: each changes one lane's grant state, the next arrival number
where a request waits, and the event queues; and who `bestPending` finds. -/

namespace Sys2Proof.Machine

open Sys2Proof

/-- A lane event after an update adds nothing to what the update can touch. -/
theorem SameButQueues.lane {s t : State} (h : SameButQueues s t) (l : Lane) (x : Option Holder) (b : EventBody) :
    SameButQueues s (raiseLane l x b t) :=
  h.trans (raiseLane_frame l x b t)

/-- R43: gaining a lane is the pre-emption of its grant state, and events. -/
theorem gainLane_frame (l : Lane) (who : Holder) (level : Nat) (s : State) :
    SameButQueues (s.setGrant l fun _ => s.grants[l].preempted who level s.lanes[l].p) (gainLane l who level s) := by
  unfold gainLane
  refine SameButQueues.lane ?_ _ _ _
  split
  · refine SameButQueues.lane ?_ _ _ _
    exact .refl _
  · exact .refl _

/-- R44: waiting appends one entry with the next arrival number, and raises an event. -/
theorem waitLane_frame (l : Lane) (p : Port) (level : Nat) (s : State) :
    SameButQueues ((s.setGrant l fun g => { g with waiting := g.waiting ++ [{ port := p, level := level, arrival := s.nextArrival }] }).setNextArrival
      (s.nextArrival + 1)) (waitLane l p level s) :=
  (SameButQueues.refl _).lane _ _ _

/-- R45: on a lane with a holder, leaving is the choice of the next one, and events. -/
theorem leaveLane_frame {l : Lane} {h : Hold} {s : State} (hh : s.grants[l].holder = some h) (why : EndReason) :
    SameButQueues (s.setGrant l fun _ => chooseNext s.lens l s.lanes[l].p s.grants[l]) (leaveLane l why s) := by
  unfold leaveLane
  rw [hh]
  dsimp only
  split
  · refine SameButQueues.lane (SameButQueues.lane ?_ _ _ _) _ _ _
    exact .refl _
  · refine SameButQueues.lane (SameButQueues.lane ?_ _ _ _) _ _ _
    exact .refl _
  · refine SameButQueues.lane ?_ _ _ _
    exact .refl _

/-- On a lane without a holder there is nothing to leave. -/
theorem leaveLane_none {l : Lane} {s : State} (hh : s.grants[l].holder = none) (why : EndReason) : leaveLane l why s = s := by
  unfold leaveLane
  rw [hh]

/-- R57: a TRIM entry touches nothing but its lane's grant state, and a clamp that changes its value is reported, taken or not
(log 32). -/
theorem trimEntry_spec (p : Port) (acc : State × Tally) (e : TrimEntry) :
    (trimEntry p acc e).1.setGrants acc.1.grants = acc.1 ∧
      (trimEntry p acc e).2.adjusted = (acc.2.adjusted || clampNat 0 fullScale e.scale ≠ e.scale) := by
  unfold trimEntry
  dsimp only
  split
  · exact ⟨rfl, rfl⟩
  · split
    · exact ⟨rfl, rfl⟩
    · split
      · exact ⟨rfl, rfl⟩
      · split <;> exact ⟨rfl, rfl⟩

/-- R53: what an entry of DEMAND does to the state does not depend on the entries before it, and what it reports is added to
what they reported. -/
theorem demandEntry_tally (p : Port) (s : State) (t : Tally) (e : DemandEntry) :
    let r := demandEntry p (s, Tally.zero) e
    demandEntry p (s, t) e = (r.1,
      { ignored := t.ignored + r.2.ignored, badValue := t.badValue || r.2.badValue,
        lensInvalid := t.lensInvalid || r.2.lensInvalid, adjusted := t.adjusted || r.2.adjusted }) := by
  unfold demandEntry
  dsimp only
  split
  · simp [Tally.zero, Tally.adjust]
  · split
    · simp [Tally.zero, Tally.adjust]
    · split
      · simp [Tally.zero, Tally.adjust]
      · split
        · simp [Tally.zero, Tally.adjust]
        · simp [Tally.zero, Tally.adjust, Bool.or_assoc]

/-- R57: the same of an entry of TRIM. -/
theorem trimEntry_tally (p : Port) (s : State) (t : Tally) (e : TrimEntry) :
    let r := trimEntry p (s, Tally.zero) e
    trimEntry p (s, t) e = (r.1,
      { ignored := t.ignored + r.2.ignored, badValue := t.badValue || r.2.badValue,
        lensInvalid := t.lensInvalid || r.2.lensInvalid, adjusted := t.adjusted || r.2.adjusted }) := by
  unfold trimEntry
  dsimp only
  split
  · simp [Tally.zero, Tally.adjust]
  · split
    · simp [Tally.zero, Tally.adjust]
    · split
      · simp [Tally.zero, Tally.adjust]
      · split <;> simp [Tally.zero, Tally.adjust]

/-- R48: clearing a lane resets its grant state, and raises an event. -/
theorem clearLane_frame (l : Lane) (s : State) : SameButQueues (s.setGrant l fun _ => Grant.reset) (clearLane l s) := by
  unfold clearLane
  dsimp only
  split
  · exact .refl _
  · exact raiseFor_frame _ _ _

/-- The order of R45: by level, then by arrival number. -/
theorem PendEntry.before_iff (e x : PendEntry) :
    e.before x = true ↔ e.level < x.level ∨ (e.level = x.level ∧ e.arrival < x.arrival) := by
  simp [PendEntry.before]

/-- There is a best entry exactly where someone waits. -/
theorem bestPending_eq_none {es : List PendEntry} : bestPending es = none ↔ es = [] := by
  cases es with
  | nil => simp [bestPending]
  | cons e es =>
    simp only [bestPending]
    split
    · simp
    · split <;> simp

/-- R45: the best entry is one of those that wait, and none of them comes before it. -/
theorem bestPending_best {es : List PendEntry} {e : PendEntry} (h : bestPending es = some e) :
    e ∈ es ∧ ∀ x ∈ es, x.before e = false := by
  induction es generalizing e with
  | nil => simp [bestPending] at h
  | cons y ys ih =>
    simp only [bestPending] at h
    have self : ∀ z : PendEntry, z.before z = false := fun z => by simp [PendEntry.before]
    split at h
    · next hn =>
      cases h
      rw [bestPending_eq_none.mp hn]
      simp [self]
    · next b hb =>
      obtain ⟨hm, hl⟩ := ih hb
      split at h
      · next hby =>
        cases h
        refine ⟨List.mem_cons_of_mem _ hm, fun x hx => ?_⟩
        rcases List.mem_cons.mp hx with rfl | hx
        · rw [PendEntry.before_iff] at hby
          rw [Bool.eq_false_iff, Ne, PendEntry.before_iff]
          omega
        · exact hl x hx
      · next hby =>
        cases h
        refine ⟨List.mem_cons_self, fun x hx => ?_⟩
        rcases List.mem_cons.mp hx with rfl | hx
        · exact self _
        · have h1 := hl x hx
          rw [Bool.eq_false_iff, Ne, PendEntry.before_iff] at h1
          rw [PendEntry.before_iff] at hby
          rw [Bool.eq_false_iff, Ne, PendEntry.before_iff]
          omega

/-- After a choice the lane's stack and waiting entries are among those before it. -/
theorem chooseNext_shrinks (x : Lens) (l : Lane) (p : Int) (g : Grant) :
    (∀ e ∈ (chooseNext x l p g).stack, e ∈ g.stack) ∧ ∀ e ∈ (chooseNext x l p g).waiting, e ∈ g.waiting := by
  unfold chooseNext
  split
  · simp_all
  · exact ⟨fun e he => List.mem_of_mem_tail he, fun e he => he⟩
  · exact ⟨fun e he => he, fun e he => he⟩

/-- A station is gone from the stack and from the waiting entries (R46, R47). -/
theorem Grant.without_gone (g : Grant) (p : Port) :
    (∀ e ∈ (g.without p).stack, e.port ≠ p) ∧ (∀ e ∈ (g.without p).waiting, e.port ≠ p) ∧
      (g.without p).holder = g.holder := by
  simp [Grant.without]

end Sys2Proof.Machine
end

