-- ==== Sys2Proof/Laws/Requests.lean ====
section
/-! SUPPORT. What the taking of a request can do (R171, R175, R179, R187), and the judgements by role (section 10.5). -/

namespace Sys2Proof.Machine

open Sys2Proof

/-! ### The arrival of a frame -/

theorem noteValid_frame (rx : Rx) (s : State) :
    (noteValid rx s).starting = s.starting ∧ (noteValid rx s).tb = s.tb ∧ (noteValid rx s).lanes = s.lanes ∧
      (noteValid rx s).grants = s.grants ∧ (noteValid rx s).nextArrival = s.nextArrival ∧
      (noteValid rx s).lens = s.lens ∧ (noteValid rx s).mem = s.mem ∧ (noteValid rx s).recorder = s.recorder ∧
      (noteValid rx s).play = s.play ∧ (noteValid rx s).safety = s.safety ∧ (noteValid rx s).drives = s.drives ∧
      (noteValid rx s).rig = s.rig ∧ (noteValid rx s).powerLosses = s.powerLosses ∧
      (noteValid rx s).pending = s.pending := ⟨rfl, rfl, rfl, rfl, rfl, rfl, rfl, rfl, rfl, rfl, rfl, rfl, rfl, rfl⟩

@[simp] theorem noteValid_starting (rx : Rx) (s : State) : (noteValid rx s).starting = s.starting := rfl
@[simp] theorem noteValid_tb (rx : Rx) (s : State) : (noteValid rx s).tb = s.tb := rfl
@[simp] theorem noteValid_lanes (rx : Rx) (s : State) : (noteValid rx s).lanes = s.lanes := rfl
@[simp] theorem noteValid_grants (rx : Rx) (s : State) : (noteValid rx s).grants = s.grants := rfl
@[simp] theorem noteValid_nextArrival (rx : Rx) (s : State) : (noteValid rx s).nextArrival = s.nextArrival := rfl
@[simp] theorem noteValid_lens (rx : Rx) (s : State) : (noteValid rx s).lens = s.lens := rfl
@[simp] theorem noteValid_mem (rx : Rx) (s : State) : (noteValid rx s).mem = s.mem := rfl
@[simp] theorem noteValid_recorder (rx : Rx) (s : State) : (noteValid rx s).recorder = s.recorder := rfl
@[simp] theorem noteValid_play (rx : Rx) (s : State) : (noteValid rx s).play = s.play := rfl
@[simp] theorem noteValid_safety (rx : Rx) (s : State) : (noteValid rx s).safety = s.safety := rfl
@[simp] theorem noteValid_drives (rx : Rx) (s : State) : (noteValid rx s).drives = s.drives := rfl
@[simp] theorem noteValid_rig (rx : Rx) (s : State) : (noteValid rx s).rig = s.rig := rfl
@[simp] theorem noteValid_powerLosses (rx : Rx) (s : State) : (noteValid rx s).powerLosses = s.powerLosses := rfl
@[simp] theorem noteValid_pending (rx : Rx) (s : State) : (noteValid rx s).pending = s.pending := rfl

/-- Every port but for the arrival time of the frame's is as it was. -/
theorem noteValid_port (rx : Rx) (s : State) (p : Port) :
    (noteValid rx s).ports[p] = if rx.port = p then { s.ports[p] with lastValid := some rx.time } else s.ports[p] := by
  unfold noteValid State.setPort
  rw [State.setPorts_ports, updAt_get]

section Port

variable (rx : Rx) (s : State) (p : Port)

@[simp] theorem noteValid_link : (noteValid rx s).ports[p].link = s.ports[p].link := by
  rw [noteValid_port]; split <;> rfl
@[simp] theorem noteValid_role : (noteValid rx s).ports[p].role = s.ports[p].role := by
  rw [noteValid_port]; split <;> rfl
@[simp] theorem noteValid_level : (noteValid rx s).ports[p].level = s.ports[p].level := by
  rw [noteValid_port]; split <;> rfl
@[simp] theorem noteValid_leaving : (noteValid rx s).ports[p].leaving = s.ports[p].leaving := by
  rw [noteValid_port]; split <;> rfl
@[simp] theorem noteValid_replies : (noteValid rx s).ports[p].replies = s.ports[p].replies := by
  rw [noteValid_port]; split <;> rfl
@[simp] theorem noteValid_isActive : (noteValid rx s).isActive p = s.isActive p := by
  simp only [State.isActive, noteValid_link]
@[simp] theorem noteValid_isMotion : (noteValid rx s).isMotion p = s.isMotion p := by
  simp only [State.isMotion, noteValid_isActive, noteValid_role]
@[simp] theorem noteValid_countedReplies :
    countedReplies (noteValid rx s).ports[p] = countedReplies s.ports[p] := by
  simp only [countedReplies, noteValid_replies]
@[simp] theorem noteValid_roleIn (rs : List Role) : (noteValid rx s).roleIn p rs = s.roleIn p rs := by
  simp only [State.roleIn, noteValid_role]

end Port

/-! ### Taking a request -/

/-- A request whose body decodes, at a port that judges it (R179): the judgement's state, with its REPLY if it gives one. -/
theorem takeRequest_fields {α : Type} {rx : Rx} {s : State} (h : Takes rx s) (a : α) (judge : α → Judge) :
    takeRequest rx (.fields a) judge s =
      match judge a (noteValid rx s) with
      | (s1, some ans) => pushReply rx.port (ans.reply rx.tag .ordinary) s1
      | (s1, none) => s1 := by
  obtain ⟨h1, h2, h3⟩ := h
  have hl : (noteValid rx s).ports[rx.port].link = .active := by
    rw [noteValid_link]
    simpa only [State.isActive, decide_eq_true_eq] using h1
  have h2' : (noteValid rx s).ports[rx.port].leaving = false := by rw [noteValid_leaving]; exact h2
  have h3' : ¬ 8 ≤ countedReplies (noteValid rx s).ports[rx.port] := by rw [noteValid_countedReplies]; omega
  simp only [takeRequest, hl, takeActive, h2', h3', if_false, Bool.false_eq_true]
  -- Built as a module, the statement's match and takeRequest's are two matchers; in the one text they are one.
  all_goals rfl

/-- A request that is answered: its outcome (R179). -/
theorem takeRequest_answered {α : Type} {rx : Rx} {s s1 : State} {a : α} {judge : α → Judge} {ans : Answer}
    (h : Takes rx s) (hj : judge a (noteValid rx s) = (s1, some ans)) :
    settle (takeRequest rx (.fields a) judge s) = replied rx ans s1 := by
  rw [takeRequest_fields h, hj, replied]

/-- A request whose REPLY follows later (R98, R177). -/
theorem takeRequest_unanswered {α : Type} {rx : Rx} {s s1 : State} {a : α} {judge : α → Judge}
    (h : Takes rx s) (hj : judge a (noteValid rx s) = (s1, none)) :
    takeRequest rx (.fields a) judge s = s1 := by
  rw [takeRequest_fields h, hj]

/-- A request whose body does not decode is refused BAD_VALUE (R187). -/
theorem takeRequest_malformed {α : Type} {rx : Rx} {s : State} (h : Takes rx s) (judge : α → Judge) :
    settle (takeRequest rx .malformed judge s) = replied rx (Answer.refused .badValue) (noteValid rx s) := by
  obtain ⟨h1, h2, h3⟩ := h
  have hl : (noteValid rx s).ports[rx.port].link = .active := by
    rw [noteValid_link]
    simpa only [State.isActive, decide_eq_true_eq] using h1
  have h2' : (noteValid rx s).ports[rx.port].leaving = false := by rw [noteValid_leaving]; exact h2
  have h3' : ¬ 8 ≤ countedReplies (noteValid rx s).ports[rx.port] := by rw [noteValid_countedReplies]; omega
  simp only [takeRequest, hl, takeActive, h2', h3', if_false, Bool.false_eq_true, replied]

/-- A role of the list is judged. -/
theorem forRoles_in {rs : List Role} {p : Port} {judge : Judge} {s : State} {r : Role} (h : s.ports[p].role = some r)
    (hr : r ∈ rs) : forRoles rs p judge s = judge s := by
  have : s.roleIn p rs = true := by simp only [State.roleIn, h, List.contains_eq_mem, hr, decide_true]
  simp only [forRoles, this, if_true]

/-- A role outside the list is refused NO_RIGHT. -/
theorem forRoles_out {rs : List Role} {p : Port} {judge : Judge} {s : State} {r : Role} (h : s.ports[p].role = some r)
    (hr : r ∉ rs) : forRoles rs p judge s = refuse .noRight s := by
  have : s.roleIn p rs = false := by simp only [State.roleIn, h, List.contains_eq_mem, hr, decide_false]
  simp only [forRoles, this, Bool.false_eq_true, if_false]

theorem forMotion_in {p : Port} {judge : Judge} {s : State} (h : s.ports[p].role = some .motion) :
    forMotion p judge s = judge s := forRoles_in h (by simp)

/-- The MOTION station's requests. -/
theorem takeRequest_motion {α : Type} {rx : Rx} {s s1 : State} {a : α} {judge : α → Judge} {ans : Answer}
    (h : TakesMotion rx s) (hj : judge a (noteValid rx s) = (s1, some ans)) :
    settle (takeRequest rx (.fields a) (fun a => forMotion rx.port (judge a)) s) = replied rx ans s1 := by
  refine takeRequest_answered h.1 ?_
  rw [forMotion_in (by rw [noteValid_role]; exact h.2), hj]

/-! ### Sending the answer -/

/-- An answer joins the end of the path of an ACTIVE port, and nothing else of the part changes (R179). -/
theorem pushReply_same {s : State} {p : Port} (h : s.isActive p = true) (r : Reply) :
    (pushReply p r s).ports[p].replies = s.ports[p].replies ++ [r] := by
  rw [pushReply_port, if_pos ⟨h, rfl⟩]

/-- R172, R174: an offer that goes out touches its port alone, and the next is due 10 ms after it. -/
theorem sendOffer_spec (p : Port) (due : Nat) (s : State) :
    (sendOffer p due s).setPorts s.ports = s ∧ (∀ q : Port, q ≠ p → (sendOffer p due s).ports[q] = s.ports[q]) ∧
    ∃ o : Offer, o.presentSet = s.presentLanes ∧ o.motionFree = s.motionFree ∧
      (sendOffer p due s).ports[p] = { s.ports[p] with offer := some o, nextOffer := some (due + 10000) } := by
  unfold sendOffer State.setPort State.setPorts
  exact ⟨rfl, fun q h => updAt_other (Ne.symm h), _, rfl, rfl, updAt_same _ _ _⟩

/-- R172, R174: ABILITY_OFFER sends the offer that is due, in OFFER and in ACKNOWLEDGE, and is no event else. -/
theorem offerDue_cases (p : Port) (time : Nat) (s : State) :
    (∃ d, s.ports[p].nextOffer = some d ∧ (s.ports[p].link = .offer ∨ s.ports[p].link = .acknowledge) ∧ d ≤ time ∧
      offerDue p time s = sendOffer p d s) ∨ offerDue p time s = s := by
  unfold offerDue
  split
  · exact .inr rfl
  · rename_i d h
    split
    · rename_i c
      exact .inl ⟨d, h, c.1, c.2, rfl⟩
    · exact .inr rfl

end Sys2Proof.Machine
end

