-- ==== Sys2Proof/Laws/Shaping.lean ====
section
/-! SUPPORT. What the operations of the lane step can do. -/

namespace Sys2Proof.Machine

open Sys2Proof

/-- R9: the effective scale is at most every one of its terms and at most full scale. -/
theorem minScale_le (terms : List Nat) : minScale terms ≤ fullScale ∧ ∀ x ∈ terms, minScale terms ≤ x := by
  unfold minScale
  generalize fullScale = m
  induction terms generalizing m with
  | nil => simp
  | cons y ys ih =>
    have h := ih (min m y)
    simp only [List.foldl_cons, List.mem_cons]
    refine ⟨Nat.le_trans h.1 (Nat.min_le_left _ _), fun x hx => ?_⟩
    rcases hx with rfl | hx
    · exact Nat.le_trans h.1 (Nat.min_le_right _ _)
    · exact h.2 x hx

/-- R9: the effective scale is full scale or one of its terms. -/
theorem minScale_mem (terms : List Nat) : minScale terms = fullScale ∨ minScale terms ∈ terms := by
  unfold minScale
  generalize fullScale = m
  induction terms generalizing m with
  | nil => simp
  | cons y ys ih =>
    simp only [List.foldl_cons, List.mem_cons]
    rcases ih (min m y) with h | h
    · rcases Nat.le_total m y with hm | hm
      · exact .inl (h.trans (Nat.min_eq_left hm))
      · exact .inr (.inl (h.trans (Nat.min_eq_right hm)))
    · exact .inr (.inr h)

/-- R14: the three outcomes of the limit clip. -/
theorem limitClip_cases (x : LaneRec) (p v : Int) :
    limitClip x p v = (p, v, none) ∨ limitClip x p v = (x.softMax, 0, some .softMax) ∨
      limitClip x p v = (x.softMin, 0, some .softMin) := by
  unfold limitClip
  repeat' split
  all_goals simp

/-- A step at rest keeps the place and the target (R18). -/
theorem restStep_rests (x : LaneRec) : (restStep x).p = x.p ∧ (restStep x).v = 0 ∧ (restStep x).clip = none := ⟨rfl, rfl, rfl⟩

/-- R16: a commit writes the setpoint, the flags and S_eff, and T only where the step has a target. -/
theorem commitLane_keeps (sEff : Nat) (c : Candidate) (x : LaneRec) :
    (commitLane sEff c x).present = x.present ∧ (commitLane sEff c x).condition = x.condition ∧
      (commitLane sEff c x).softMin = x.softMin ∧ (commitLane sEff c x).softMax = x.softMax ∧
      (commitLane sEff c x).vmax = x.vmax ∧ (commitLane sEff c x).a = x.a ∧ (commitLane sEff c x).astop = x.astop ∧
      (commitLane sEff c x).k = x.k ∧ (commitLane sEff c x).trackTol = x.trackTol ∧
      (commitLane sEff c x).followLimit = x.followLimit := by
  unfold commitLane
  repeat' split
  all_goals simp

end Sys2Proof.Machine
end

