-- ==== Sys2Proof/Laws/Stops.lean ====
section
/-! SUPPORT. What the operations of the Safety Monitor can do. -/

namespace Sys2Proof.Machine

open Sys2Proof

/-- R144: a cause event adds its cause once, at the end, and raises an event. -/
theorem addCause_frame (x : StopState) (k : CauseKind) (s : State) :
    SameButQueues (if s.hasCause k then s else s.setSafety { s.safety with
      causes := s.safety.causes ++ [{ kind := k, f := s.tb.f, t := s.tb.t }] }) (addCause x k s) := by
  unfold addCause
  split
  · exact .refl _
  · exact raiseAll_frame _ _

/-- The cause is in the set afterwards. -/
theorem addCause_hasCause (x : StopState) (k : CauseKind) (s : State) : (addCause x k s).hasCause k = true := by
  have h := (addCause_frame x k s).safety
  unfold State.hasCause
  rw [h]
  split
  · next hk => exact hk
  · simp

/-- R155: a change of the stop state writes the state, and raises an event. -/
theorem changeStop_frame (new : StopState) (asker : Option Port) (party : Option Party) (why : Option StopReason) (s : State) :
    SameButQueues (s.setSafety { s.safety with stop := new }) (changeStop new asker party why s) :=
  raiseAll_frame _ _

/-- R154: a release that ends leaves STOPPED and no release record. -/
theorem cancelRelease_frame (why : StopReason) (s : State) :
    SameButQueues (s.setSafety { s.safety with stop := .stopped, release := none }) (cancelRelease why s) :=
  changeStop_frame .stopped none none (some why) (s.setSafety { s.safety with release := none })

/-- R142: clearing an exiting mark touches that zone's entry, and raises an event. -/
theorem clearExit_frame (z : ZoneNo) (s : State) :
    SameButQueues (if s.safety.zones[z].exiting && s.safety.zones[z].armedKeepOut && !s.safety.zones[z].breached
      then s.setZone z fun e => { e with exiting := false } else s) (clearExit z s) := by
  unfold clearExit
  dsimp only
  split
  · exact raiseAll_frame _ _
  · exact .refl _

/-- An evaluation keeps an entry's record and mark, and leaves an entry without an enabled record clear (R138, R141). -/
theorem evalZone_keeps (m : Motion) (e : ZoneEntry) :
    (evalZone m e).record = e.record ∧ (evalZone m e).exiting = e.exiting ∧
      (∀ r, e.record = some r → r.enabled = false → (evalZone m e).predicting = false ∧ (evalZone m e).breached = false) := by
  unfold evalZone
  split
  · next r h => split <;> simp_all
  · simp_all

/-- R140: the swept interval starts at P, in the direction of V, and is P alone for a lane at rest. -/
theorem sweptInterval_holds (p v : Int) (astop : Nat) :
    (sweptInterval p v astop).1 ≤ p ∧ p ≤ (sweptInterval p v astop).2 ∧ sweptInterval p 0 astop = (p, p) := by
  simp [sweptInterval]

/-- R3: a lane that is disabled keeps its place, and its velocity is 0 where it was ACTIVE. -/
theorem disableLane_keeps (why : DisableReason) (x : LaneRec) :
    (disableLane why x).p = x.p ∧ (disableLane why x).t = x.t ∧ (disableLane why x).present = x.present ∧
      (disableLane why x).condition ≠ .active ∧ (x.condition = .active → (disableLane why x).v = 0) := by
  unfold disableLane
  split
  · simp
  · simp_all

end Sys2Proof.Machine
end

