-- ==== Sys2Proof/Laws/TakeStore.lean ====
section
/-! SUPPORT. What the operations of the take store can do. -/

namespace Sys2Proof.Machine

open Sys2Proof

/-- R76: a queued write waits once; what waited keeps its place. -/
theorem queueReserved_queue (r : Reserved) (s : State) :
    (queueReserved r s).mem.reservedQueue =
      (if r ∈ s.mem.reservedQueue then s.mem.reservedQueue else s.mem.reservedQueue ++ [r]) ∧
    (queueReserved r s).mem = { s.mem with reservedQueue := (queueReserved r s).mem.reservedQueue } ∧
    (queueReserved r s).setMem s.mem = s := by
  unfold queueReserved
  by_cases h : r ∈ s.mem.reservedQueue <;> simp [h, State.setMem]

theorem mem_queueReserved (r : Reserved) (s : State) : r ∈ (queueReserved r s).mem.reservedQueue := by
  rw [(queueReserved_queue r s).1]
  split
  · assumption
  · simp

/-- R78: an allocated block is USED by the take, empty, and the last of its list; nothing else changes. -/
theorem allocate_spec (i : SlotNo) (b : BlockNo) (s : State) :
    (allocate i b s).mem.blocks[b] = { state := .used i s.mem.slots[i].blocks.length false, data := [] } ∧
    (∀ c : BlockNo, c ≠ b → (allocate i b s).mem.blocks[c] = s.mem.blocks[c]) ∧
    (allocate i b s).mem.slots[i] = { s.mem.slots[i] with blocks := s.mem.slots[i].blocks ++ [b] } ∧
    (∀ j : SlotNo, j ≠ i → (allocate i b s).mem.slots[j] = s.mem.slots[j]) ∧ (allocate i b s).setMem s.mem = s := by
  unfold allocate State.setBlock State.setSlot State.setMem
  refine ⟨updAt_same _ _ _, fun c h => updAt_other (Ne.symm h), updAt_same _ _ _, fun j h => updAt_other (Ne.symm h), rfl⟩

/-- R78: the next PROGRAM writes the take's last block where that has room, and the lowest FREE block, allocated, else. -/
theorem placeNext_cases {i : SlotNo} {b : BlockNo} {n : Nat} {s t : State} (h : s.placeNext i = some (t, b, n)) :
    (t = s ∧ s.lastRoom i = some (b, n) ∧ 0 < n) ∨
    (s.lowestFree = some b ∧ t = allocate i b s ∧ ∃ x, s.mem.slots[i].header = some x ∧ n = blockRoom x.laneCount) := by
  unfold State.placeNext at h
  split at h
  · rename_i c m hr
    obtain ⟨rfl, rfl, rfl⟩ : s = t ∧ c = b ∧ m + 1 = n := by simpa using h
    exact .inl ⟨rfl, hr, Nat.succ_pos m⟩
  · split at h
    · exact absurd h (by simp)
    · rename_i c hf
      split at h
      · exact absurd h (by simp)
      · rename_i x hx
        obtain ⟨rfl, rfl, rfl⟩ : allocate i c s = t ∧ c = b ∧ blockRoom x.laneCount = n := by simpa using h
        exact .inr ⟨hf, rfl, x, hx, rfl⟩

/-- R78, R86, R95: with room in no block of the take and no block FREE, its next PROGRAM has nowhere to go. -/
theorem placeNext_none {i : SlotNo} {s : State} (hr : ∀ b n, s.lastRoom i ≠ some (b, n + 1)) (hf : s.lowestFree = none) :
    s.placeNext i = none := by
  unfold State.placeNext
  split
  · rename_i h
    exact absurd h (hr _ _)
  · rw [hf]

/-- R76: storing a block's state touches that state's stored copy alone. -/
theorem storeBlock_spec (b : BlockNo) (s : State) :
    (storeBlock b s).mem.stored.blocks[b] = s.mem.blocks[b].state ∧
    (∀ c : BlockNo, c ≠ b → (storeBlock b s).mem.stored.blocks[c] = s.mem.stored.blocks[c]) ∧
    (storeBlock b s).setMem s.mem = s ∧ (storeBlock b s).mem.blocks = s.mem.blocks ∧
    (storeBlock b s).mem.slots = s.mem.slots ∧ (storeBlock b s).mem.op = s.mem.op := by
  unfold storeBlock State.setMem
  exact ⟨updAt_same _ _ _, fun c h => updAt_other (Ne.symm h), rfl, rfl, rfl, rfl⟩

/-- R84: what becomes active meets the operation in progress alone: an erase is suspended, an erase resume will be. -/
theorem suspendErase_spec (s : State) :
    (suspendErase s).setMem s.mem = s ∧ (suspendErase s).mem = { s.mem with op := (suspendErase s).mem.op } ∧
    (∀ b, s.mem.op = some (.erase b) → (suspendErase s).mem.op = some (.suspend b)) ∧
    (∀ b again, s.mem.op = some (.resume b again) → (suspendErase s).mem.op = some (.resume b true)) ∧
    ((∀ b, s.mem.op ≠ some (.erase b)) → (∀ b again, s.mem.op ≠ some (.resume b again)) → suspendErase s = s) := by
  unfold suspendErase
  split
  · exact ⟨rfl, rfl, by simp_all [State.setMem], by simp_all, by simp_all⟩
  · exact ⟨rfl, rfl, by simp_all, by simp_all [State.setMem], by simp_all⟩
  · exact ⟨rfl, rfl, fun b h => by simp_all, fun b a h => by simp_all, fun _ _ => rfl⟩

/-- A block that leaves its take is DIRTY or BAD (R77), never USED. -/
theorem released_not_used (b : BlockState) : b.released = .dirty ∨ b.released = .bad := by
  unfold BlockState.released
  split
  · exact .inr rfl
  · exact .inl rfl

/-- R86: a retire mark changes nothing but itself, and only a USED block takes it. -/
theorem retire_retired (o : SlotNo) (p : Nat) (r : Bool) : (BlockState.used o p r).retire.retired = true := rfl

/-- R88: a completed slot is COMPLETE, locked and not locked down, with a directory write waiting. -/
theorem completeSlot_spec (i : SlotNo) (f : Header → Header) (s : State) :
    (completeSlot i f s).mem.slots[i] =
      { s.mem.slots[i] with
        state := .complete, header := s.mem.slots[i].header.map f, locked := true, down := false, openLocked := true } ∧
    (∀ j : SlotNo, j ≠ i → (completeSlot i f s).mem.slots[j] = s.mem.slots[j]) ∧
    Reserved.dir i ∈ (completeSlot i f s).mem.reservedQueue ∧ (completeSlot i f s).mem.blocks = s.mem.blocks := by
  have h := queueReserved_queue (.dir i) (s.setSlot i fun x =>
    { x with state := .complete, header := x.header.map f, locked := true, down := false, openLocked := true })
  unfold completeSlot queueDir
  refine ⟨?_, fun j hj => ?_, mem_queueReserved _ _, ?_⟩
  · rw [h.2.1]
    exact updAt_same _ _ _
  · rw [h.2.1]
    exact updAt_other (Ne.symm hj)
  · rw [h.2.1]
    rfl

/-- The check of one sample against the continuity state before it (R94, R191). -/
theorem stagedValid_iff (lanes : Nat) (u : Upload) (x : StagedSample) :
    stagedValid lanes u.nextOffset u.spanOpen x = true ↔ SampleFollows lanes u [] x := by
  unfold stagedValid SampleFollows spanThrough marksOf inPosRange posBound
  simp only [Bool.and_eq_true, decide_eq_true_eq, List.all_eq_true, List.foldl_nil, List.length_nil, Nat.add_zero]
  cases x.marks.getLsbD 0 <;> cases x.marks.getLsbD 1 <;> cases u.spanOpen <;> simp <;> tauto

/-- What follows a sample follows the continuity state that it leaves (R94). -/
theorem sampleFollows_cons (lanes : Nat) (u : Upload) (y x : StagedSample) (ys : List StagedSample) :
    SampleFollows lanes u (y :: ys) x ↔
      SampleFollows lanes { nextOffset := u.nextOffset + 1, spanOpen := spanAfter u.spanOpen (marksOf y.marks) } ys x := by
  unfold SampleFollows spanThrough spanAfter marksOf
  simp only [List.foldl_cons, List.length_cons, Nat.add_assoc, Nat.add_comm 1]

/-- The chunk check leaves the continuity state one offset further for each sample (R94). -/
theorem checkChunk_next {lanes i : Nat} {u v : Upload} {xs : List StagedSample} (h : checkChunk lanes i u xs = .ok v) :
    v.nextOffset = u.nextOffset + xs.length := by
  induction xs generalizing i u with
  | nil =>
    simp only [checkChunk, Except.ok.injEq] at h
    simp [← h]
  | cons x xs ih =>
    simp only [checkChunk] at h
    split at h
    · rw [ih h, List.length_cons]
      dsimp only
      omega
    · cases h

/-- A sample that fails the check is one of the chunk's (R94). -/
theorem checkChunk_error {lanes i n : Nat} {u : Upload} {xs : List StagedSample} (h : checkChunk lanes i u xs = .error n) :
    i ≤ n ∧ n < i + xs.length := by
  induction xs generalizing i u with
  | nil => simp [checkChunk] at h
  | cons x xs ih =>
    simp only [checkChunk] at h
    split at h
    · have := ih h
      simp only [List.length_cons]
      omega
    · cases h
      simp

end Sys2Proof.Machine
end

