-- ==== Sys2Proof/Tests/Slice0.lean ====
section
/-! SUPPORT. Tests of the model: the well-formedness checks, the worked examples of the manual, and for every statement in
Certificates/Slice0/Obligations.lean that has hypotheses a `witness_` theorem with a concrete state and operands that meet
them, clause by clause, with further ones beside it where a statement has several parts; most also run the command and look
at what the clause speaks of. -/

namespace Sys2Proof.Tests

open Sys2Proof Sys2Proof.Machine

-- One theorem at a time: each kernel evaluation takes a thread with a large stack.
set_option Elab.async false

/-! ### A small stage -/

def laneAt (p v : Int) : LaneRec :=
  { LaneRec.reset with
    present := true, p := p, v := v, t := p, softMin := -100000, softMax := 100000, vmax := 1200, a := 40, astop := 100,
    k := 8192, followLimit := 16 }
def rigLane : RigLane :=
  { RigLane.blank with
    hardMin := -200000, hardMax := 200000, vmaxCeil := 2000, aCeil := 400, astopFloor := 50, followCeil := 64,
    defVmax := 1200, defA := 40, defAstop := 100, defK := 8192 }
def activePort (r : Role) : StationPort :=
  { StationPort.reset with link := .active, role := some r, level := roleLevel r }
def channelOk (on : Bool) : Channel :=
  { Channel.reset with latestCount := some 0, status := .ok, enable := on, brake := on, settled := true }

/-- Lanes 0 to 8 present and at rest in RUN, MOTION on port 0, ARM on port 1, LENS on port 2, tick (100, 0) made. -/
def stage : State :=
  { State.reset with
    starting := false
    tb := { Timebase.reset with started := true, f := 100 }
    lanes := Vector.ofFn fun l => if l.val < 9 then laneAt 0 0 else LaneRec.reset
    safety := { Safety.reset with stop := .run, causes := [], drivePower := true }
    drives := { channels := Vector.ofFn fun l => channelOk (l.val < 9), parked := false }
    rig := { record := { identity := 7, presentSet := 0x1FF#16, lanes := Vector.replicate 12 rigLane, frozen := true },
             store := .stored, freezePending := false }
    ports := #v[activePort .motion, activePort .arm, activePort .lens, StationPort.reset] }

def rx (p : Port) : Rx := { port := p, tag := 0x21#16, time := 5000 }

/-- The next state of a command; the state itself where there is none. -/
def after (c : Instr) (s : State) : State :=
  match exec c s with
  | .next t => t
  | .fault _ => s
  | .refused _ => s

def abs (d : Int) : Context := { kind := .abs, d := some d, o := 0, trim := 65536 }
def stationHold (p : Port) (c : Context) : Hold := { who := .station p, level := 2, setpoint := 0, ctx := c }
def playHold : Hold := { who := .playback, level := 1, setpoint := 0, ctx := Context.fresh }

/-- The stage with the MOTION station on lane 0, the ARM station on its stack and the LENS station waiting. -/
def heldGrant : Grant :=
  { holder := some (stationHold 0 (abs 500)), stack := [{ port := 1, level := 3, ctx := abs 70 }],
    waiting := [{ port := 2, level := 3, arrival := 0 }] }
def held : State := stage.setGrant 0 fun _ => heldGrant

def inStop (x : StopState) (s : State) : State :=
  s.setSafety { s.safety with stop := x, causes := [{ kind := .stopLine, f := 90, t := 3 }] }
def withOp (o : ArrayOp) (s : State) : State := s.setMem { s.mem with op := some o }
def withTb (f : Timebase → Timebase) (s : State) : State := s.setTb (f s.tb)
def refusal (r : Reason) (p : Port) (s : State) : State := replied (rx p) (Answer.refused r) (noteValid (rx p) s)

/-! ### WellFormed: a command that fits, and for each check one that does not -/

def demandCmd (lane : Nat) (v : Int) : Instr := .demand (rx 0) (.fields [{ lane := lane, kind := .abs, value := v }])
def bareProfile : Profile := { tag := 1, name := [], focus := none, iris := none, zoom := none }
def zoneArgs (z scale lane : Nat) (low : Int) : ZoneSetArgs :=
  { entry := z, record := { kind := .slow, enabled := true, scale := scale,
                            intervals := [{ lane := lane, low := low, high := 5 }] } }
def bareShape : ShapeArgs :=
  { lane := 0, vmax := none, a := none, astop := none, k := none, trackTol := none, followLimit := none }
def bareOpen : OpenArgs :=
  { slot := 0, name := [], lanes := 1#16, n := 20, period := 40000, referenced := false, lensTag := 0 }
def bareEntry : RigEntry :=
  { lane := 0, hardMin := none, hardMax := none, vmaxCeil := none, aCeil := none, astopFloor := none, followCeil := none,
    defVmax := none, defA := none, defAstop := none, defK := none }
def bareRecord : RecordArgs := { slot := 0, lanes := 1#16, name := [], start := none }
def bareRig : RigArgs := { identity := none, presentSet := none, entries := [] }

theorem test_wf_driveReply : (Instr.driveReply 0 0 0 .ok 1073741824).wf = true ∧
    (Instr.driveReply 0 0 0 .ok 1073741825).wf = false ∧ (Instr.driveReply 0 0 0 .ok (-1073741825)).wf = false := by decide
theorem test_wf_demand : (demandCmd 255 9223372036854775807).wf = true ∧ (demandCmd 256 0).wf = false ∧
    (demandCmd 0 9223372036854775808).wf = false ∧ (demandCmd 0 (-9223372036854775809)).wf = false ∧
    (Instr.demand (rx 0) (.fields (List.replicate 256 { lane := 0, kind := .abs, value := 0 }))).wf = false := by
  decide +kernel
theorem test_wf_trim : (Instr.trim (rx 0) (.fields [{ lane := 0, scale := 4294967295 }])).wf = true ∧
    (Instr.trim (rx 0) (.fields [{ lane := 0, scale := 4294967296 }])).wf = false := by decide
theorem test_wf_takeFetch : (Instr.takeFetch (rx 0) (.fields { slot := 256, first := 0, count := 1 })).wf = false ∧
    (Instr.takeFetch (rx 0) (.fields { slot := 0, first := 65536, count := 1 })).wf = false ∧
    (Instr.takeFetch (rx 0) (.fields { slot := 0, first := 0, count := 256 })).wf = false := by decide
theorem test_wf_profileLoad : (Instr.profileLoad (rx 0) (.fields { slot := 0, profile := bareProfile })).wf = true ∧
    (Instr.profileLoad (rx 0) (.fields { slot := 256, profile := bareProfile })).wf = false ∧
    (Instr.profileLoad (rx 0) (.fields { slot := 0, profile := { bareProfile with tag := 65536 } })).wf = false ∧
    (Instr.profileLoad (rx 0) (.fields { slot := 0, profile := { bareProfile with name := [0x7F#8] } })).wf = false ∧
    (Instr.profileLoad (rx 0) (.fields
      { slot := 0, profile := { bareProfile with iris := some [{ u := 4294967296, p := 0 }] } })).wf = false := by decide
theorem test_wf_profileSelect : (Instr.profileSelect (rx 0) (.fields (some 256))).wf = false ∧
    (Instr.profileSelect (rx 0) (.fields none)).wf = true := by decide
theorem test_wf_shapeSet : (Instr.shapeSet (rx 0) (.fields bareShape)).wf = true ∧
    (Instr.shapeSet (rx 0) (.fields { bareShape with lane := 256 })).wf = false ∧
    (Instr.shapeSet (rx 0) (.fields { bareShape with k := some 4294967296 })).wf = false := by decide
theorem test_wf_limitsSet :
    (Instr.limitsSet (rx 0) (.fields { lane := 0, min := 0, max := 9223372036854775808 })).wf = false := by decide
theorem test_wf_timebaseSet :
    (Instr.timebaseSet (rx 0) (.fields { mode := none, n := some 256, period := none })).wf = false ∧
    (Instr.timebaseSet (rx 0) (.fields { mode := none, n := none, period := some 4294967296 })).wf = false := by decide
theorem test_wf_zones : (Instr.zoneSet (rx 0) (.fields (zoneArgs 15 0 0 0))).wf = true ∧
    (Instr.zoneSet (rx 0) (.fields (zoneArgs 256 0 0 0))).wf = false ∧
    (Instr.zoneSet (rx 0) (.fields (zoneArgs 0 4294967296 0 0))).wf = false ∧
    (Instr.zoneSet (rx 0) (.fields (zoneArgs 0 0 256 0))).wf = false ∧
    (Instr.zoneDrop (rx 0) (.fields 256)).wf = false := by decide
theorem test_wf_presenceSet : (Instr.presenceSet (rx 0) (.fields { line := 256, lanes := 0, scale := 0 })).wf = false ∧
    (Instr.presenceSet (rx 0) (.fields { line := 0, lanes := 0, scale := 4294967296 })).wf = false := by decide
theorem test_wf_record : (Instr.record (rx 0) (.fields bareRecord)).wf = true ∧
    (Instr.record (rx 0) (.fields { bareRecord with slot := 256 })).wf = false ∧
    (Instr.record (rx 0) (.fields { bareRecord with name := List.replicate 17 0x41#8 })).wf = false ∧
    (Instr.record (rx 0) (.fields { bareRecord with start := some 0 })).wf = false ∧
    (Instr.roll (rx 0) (.fields (some 18446744073709551616))).wf = false := by decide
theorem test_wf_cue :
    (Instr.cue (rx 0) (.fields { slot := 256, lanes := 0, scale := none, endMode := none })).wf = false ∧
    (Instr.cue (rx 0) (.fields { slot := 0, lanes := 0, scale := some 4294967296, endMode := none })).wf = false := by decide
theorem test_wf_takes : (Instr.takeProtect (rx 0) (.fields { slot := 256, action := .lock })).wf = false ∧
    (Instr.takeErase (rx 0) (.fields 256)).wf = false ∧ (Instr.takeOpen (rx 0) (.fields bareOpen)).wf = true ∧
    (Instr.takeOpen (rx 0) (.fields { bareOpen with n := 256 })).wf = false ∧
    (Instr.takeOpen (rx 0) (.fields { bareOpen with lensTag := 65536 })).wf = false := by decide
theorem test_wf_stage : (Instr.stage (rx 0) (.fields [{ offset := 65536, marks := 0, pos := [0] }])).wf = false ∧
    (Instr.stage (rx 0) (.fields [{ offset := 0, marks := 0, pos := [9223372036854775808] }])).wf = false := by decide
theorem test_wf_rigWrite : (Instr.rigWrite (rx 0) (.fields { bareRig with entries := [bareEntry] })).wf = true ∧
    (Instr.rigWrite (rx 0) (.fields { bareRig with identity := some 4294967296 })).wf = false ∧
    (Instr.rigWrite (rx 0) (.fields { bareRig with entries := [{ bareEntry with lane := 256 }] })).wf = false ∧
    (Instr.rigWrite (rx 0) (.fields { bareRig with entries := [{ bareEntry with defK := some 4294967296 }] })).wf = false := by
  decide

/-! ### No word spells a command (the table gives no bits), and the frames on the wire -/

theorem test_no_row_has_bits : decodeTableWord 32 0x12345678 = none ∧ State.reset.withFetchWord 32 7 = State.reset := by
  exact ⟨rfl, rfl⟩

def received (kind : Byte) (body : List Byte) : List Instr := receive 2 77 2 (encFrame kind 0x1234#16 body)
def rx2 : Rx := { port := 2, tag := 0x1234#16, time := 77 }

/-- R184, R186: frames written byte by byte from the tables of chapter 11, one per family of requests. -/
theorem test_frame_acquire : received 0x10 [0x00, 0x41] = [.acquire rx2 (.fields 0x41#16)] := by decide +kernel
theorem test_frame_demand : received 0x12 [0x01, 0x06, 0x02, 0xFF, 0xFF, 0xFF, 0xFF, 0xFF, 0xFF, 0xFC, 0x18] =
    [.demand rx2 (.fields [{ lane := 6, kind := .step, value := -1000 }])] := by decide +kernel
theorem test_frame_short_body_is_malformed : received 0x12 [0x01, 0x06, 0x02, 0xFF] = [.demand rx2 .malformed] := by
  decide +kernel
theorem test_frame_limits : received 0x20 [0x03, 0, 0, 0, 0, 0, 0, 0, 0x05, 0, 0, 0, 0, 0, 0, 0x01, 0x00] =
    [.limitsSet rx2 (.fields { lane := 3, min := 5, max := 256 })] := by decide +kernel
theorem test_frame_timebase : received 0x21 [0x03, 0x01, 0x18] =
    [.timebaseSet rx2 (.fields { mode := some .referenced, n := some 24, period := none })] := by decide +kernel
theorem test_frame_roll_next : received 0x29 [0, 0, 0, 0, 0, 0, 0, 0] = [.roll rx2 (.fields none)] := by decide +kernel
theorem test_frame_take_protect : received 0x2C [0x1F, 0x02] =
    [.takeProtect rx2 (.fields { slot := 31, action := .lockDown })] := by decide +kernel
theorem test_frame_bad_check_is_discarded :
    receive 2 77 2 ((encFrame 0x17 0 []).dropLast ++ [0x00]) = [.discardedFrame 2] := by decide +kernel

/-! ### The worked examples of the manual -/

def cruise (p v : Int) : LaneRec := laneAt p v

/-- Section 1.5, cruise into braking. -/
theorem test_cruise_into_braking :
    ((heldStep (cruise 0 1000) 15000 8192 65536).p = 1040 ∧ (heldStep (cruise 0 1000) 15000 8192 65536).capExceeded = true) ∧
    (heldStep (cruise 1040 1040) 15000 8192 65536).p = 2040 ∧ (heldStep (cruise 2040 1000) 15000 8192 65536).v = 960 ∧
    brakeDistance 1000 40 = 13000 ∧ brakeDistance 1040 40 = 14040 := by decide
/-- Section 1.5, landing in the deadband. -/
theorem test_landing : (heldStep (cruise 14980 0) 15000 8192 65536).v = 2 ∧
    (heldStep (cruise 14986 2) 15000 8192 65536).p = 14987 ∧ (heldStep (cruise 14993 1) 15000 8192 65536).p = 14993 ∧
    brakeDistance 2 40 = 2 ∧ brakeDistance 1 40 = 1 := by decide
/-- Section 1.5, a stop ramp, a scale drop and a tightened limit. -/
theorem test_stop_scale_limit : (stopStep (cruise 0 1000)).p = 900 ∧ brakeDistance 1000 100 = 5500 ∧
    (heldStep { cruise 0 1200 with k := 65536 } 90000 65536 32768).v = 1160 ∧ velocityCap 1200 32768 = 600 ∧
    heldStep { cruise 9900 200 with softMax := 9990 } 20000 8192 65536 =
      { heldStep { cruise 9900 200 with softMax := 9990 } 20000 8192 65536 with p := 9990, v := 0, clip := some .softMax } := by
  decide
/-- Section 1.5, STEP demands against a limit: D comes back by what the clamp took. -/
theorem test_step_write_back :
    ((after .servoTick ((stage.setLane 0 fun x => { x with softMin := -10000, softMax := 10000 }).setGrant 0 fun _ =>
      { heldGrant with holder := some (stationHold 0 { kind := .step, d := some 11000, o := 500, trim := 65536 }) })).grants[0].holder.map
        fun h => h.ctx.d) = some (some 9500) := by decide +kernel

def focusTable : List Breakpoint := [⟨500, 0⟩, ⟨1000, 40000⟩, ⟨2000, 64000⟩, ⟨5000, 80000⟩]
def irisTable : List Breakpoint := [⟨140, 90000⟩, ⟨280, 55000⟩, ⟨560, 20000⟩, ⟨1100, 0⟩]
/-- Section 4.8, both tables. -/
theorem test_lens_maps : [300, 500, 1500, 3001, 6000].map (forwardMap focusTable) = [0, 0, 52000, 69338, 80000] ∧
    [-300, 52000, 69338, 70000].map (reverseMap focusTable) = [500, 1500, 3000, 3125] ∧
    [100, 700].map (forwardMap irisTable) = [90000, 14815] ∧
    [14815, 95000, -500].map (reverseMap irisTable) = [699, 140, 1100] := by decide
/-- Section 5.2: what a block holds for one, six and twelve lanes. -/
theorem test_block_room : [1, 6, 12].map blockRoom = [32768, 9362, 5041] := by decide
/-- Section 8.8: the swept intervals of steps 1 to 3, and the stop step. -/
theorem test_zone_sweeps : sweptInterval 190700 1200 100 = (190700, 198500) ∧ sweptInterval 193100 1200 100 = (193100, 200900) ∧
    (stopStep { cruise 191900 1200 with softMax := 900000 }).p = 193000 ∧ sweptInterval 194770 (-190) 100 = (194494, 194770) := by
  decide

/-- Section 2.8: the pulses that acquire lock. -/
def pulses (s : State) (ts : List Nat) : State := ts.foldl (fun s t => after (.referencePulse t) s) s
def searching : State := withTb (fun b => { b with mode := .referenced, lock := .search, f := 1001, t := 19 }) stage
theorem test_acquiring_lock : (pulses searching [0, 40000, 80000, 121000]).tb.runCount = 1 ∧
    (pulses searching [0, 40000, 80000, 121000, 161000]).tb.runCount = 1 ∧
    (pulses searching [0, 40000, 80000, 121000, 161000, 201000, 241000]).tb.runCount = 3 ∧
    (pulses searching [0, 40000, 80000, 121000, 161000, 201000, 241000, 281000]).tb.lock = .locked ∧
    (pulses searching [0, 40000, 80000, 121000, 161000, 201000, 241000, 281000]).tb.f = 1002 := by decide +kernel

/-- Section 11.2: a TELEMETRY body is 329 bytes and 11 for each cause. -/
def sentTelemetry : Telemetry := stage.telemetryFor stage.holders stage.ports[0]
theorem test_telemetry_length : (encTelemetry sentTelemetry).length = 329 ∧
    (encTelemetry { sentTelemetry with causes := [{ kind := .stopLine, f := 1, t := 2 }] }).length = 340 := by
  decide +kernel
/-- R190, R191: offset 0x0102, CUE, one position of value 2: bytes 01 02 04 01 at places 1 to 4 and 02 at place 16. -/
theorem test_sample_check : sampleCheck 0x0102 { Marks.none with cue := true } [2] = 53#32 ∧
    (encSample (storeSample 1 Marks.none [5, -5])).length = 24 := by decide +kernel

/-! ### The machine and its invariants -/

theorem witness_StepRunsTheFrontCommand : (stage.setPending [.servoTick]).pending = .servoTick :: [] ∧
    (∃ t, step (stage.setPending [.servoTick]) = .next t ∧ t.tb.t = 1) ∧ stage.pending = [] := by
  exact ⟨rfl, ⟨_, rfl, by decide +kernel⟩, rfl⟩
theorem witness_ExecLeavesTheQueue : ∃ t, exec .servoTick (stage.setPending [.frameStart]) = .next t ∧
    t.pending = [.frameStart] := ⟨_, rfl, by decide +kernel⟩

/-- A COMPLETE take of two samples of lanes 0 and 1 in slot 4, block 9. -/
def takeHeader : Header :=
  { name := [], lanes := 3#16, n := 20, period := 40000, referenced := false, lensTag := 0, length := 2,
    interrupted := false, impliedResume := false }
def takeSlot : Slot :=
  { Slot.reset with state := .complete, header := some takeHeader, blocks := [9], locked := true, openLocked := true }
def takeBlock : Block :=
  { state := .used 4 0 false, data := [storeSample 0 Marks.none [10, 20], storeSample 1 { Marks.none with cue := true } [30, 40]] }
def library : State := (stage.setSlot 4 fun _ => takeSlot).setBlock 9 fun _ => takeBlock

theorem witness_SettleTouchesOnlyArrayWork : library.mem.blocks[9].state ≠ .free ∧ library.recorder.slot ≠ some 4 ∧
    library.mem.slots[4].state ≠ .uploading ∧ library.recorder.queue = [] ∧
    (withOp (.erase 3) library).mem.op.isSome = true ∧ State.reset.starting = true ∧
    (library.uploadSlot = none ∧ library.ports[3].link ≠ .active ∧
      (library.setPort 0 fun q => { q with sending := some .event }).ports[0].sending.isSome = true) := by decide +kernel

theorem wf_heldGrant : heldGrant.wf ∧ heldGrant.levels := by
  refine ⟨⟨by decide, by decide, by decide, by decide, by decide⟩, ⟨?_, by decide, by decide⟩⟩
  intro h hh
  cases hh
  decide
theorem wf_resetGrant : Grant.reset.wf ∧ Grant.reset.levels := by
  refine ⟨⟨by decide, by decide, by decide, by decide, by decide⟩, ⟨?_, by decide, by decide⟩⟩
  intro h hh
  cases hh
theorem held_grants : ∀ l : Lane, held.grants[l] = heldGrant ∨ held.grants[l] = Grant.reset := by decide +kernel
theorem held_portsWf : PortsWf held := by
  have h : ∀ p : Port, (held.ports[p].link = .active → held.ports[p].role.isSome = true ∧
      held.ports[p].level = (held.ports[p].role.bind roleLevel)) ∧
      (held.ports[p].link = .down ∨ held.ports[p].link = .offer ∨ held.ports[p].link = .failed →
        held.ports[p].role = none) := by decide +kernel
  intro p
  refine ⟨fun a => ?_, (h p).2⟩
  obtain ⟨r, hr⟩ := Option.isSome_iff_exists.mp ((h p).1 a).1
  exact ⟨r, hr, by rw [((h p).1 a).2, hr]; rfl⟩

/-- Every invariant holds on the stage with a grant, a stack and a waiting entry, and a tick answers a next state there. -/
theorem witness_EveryStepKeepsTheInvariants : (∃ t, step (held.setPending [.servoTick]) = .next t) ∧ SpeedBound held ∧
    StopAccel held ∧ ScaleBound held ∧ AbsentZero held ∧ Rest held ∧ OutputsFollow held ∧ CausesWf held ∧ ReleaseWf held ∧
    PowerInRun held ∧ PlayInRun held ∧ EventsBound held ∧ RepliesBound held ∧ WriteQueueBound held ∧ StartingDown held := by
  refine ⟨⟨_, rfl⟩, ?_⟩
  unfold SpeedBound StopAccel ScaleBound AbsentZero Rest OutputsFollow CausesWf ReleaseWf PowerInRun PlayInRun EventsBound
    RepliesBound WriteQueueBound StartingDown
  decide +kernel
theorem witness_LimitsOrdered : LimitsOrdered held := by
  refine ⟨by unfold RigRecord.ordered; decide +kernel, ?_, ?_, by decide +kernel⟩
  · intro r h
    exact absurd (h.symm.trans (show held.mem.stored.rig = none by decide +kernel)) (by simp)
  · intro r h
    exact absurd (h.symm.trans (show held.mem.op = none by decide +kernel)) (by simp)
/-- The take memory's promises, on the library with an erase in progress; the step of its end answers. -/
def scrubbing : State := (withOp (.erase 3) library).setBlock 3 fun b => { b with state := .erasing false }
theorem scrubbing_owned : ∀ b : BlockNo, ∀ i : SlotNo, b ∈ scrubbing.mem.slots[i].blocks ↔
    (match scrubbing.mem.blocks[b].state with
      | .used o _ _ => decide (o = i)
      | _ => false) = true := by decide +kernel
theorem witness_TakesWf : TakesWf scrubbing ∧ ∃ t, step (scrubbing.setPending [.eraseDone true]) = .next t := by
  refine ⟨⟨by unfold OneErasing; decide +kernel, ⟨fun b i => (scrubbing_owned b i).trans ?_, by decide +kernel⟩,
    ⟨by decide +kernel, fun _ _ => by decide +kernel, ?_, ?_⟩, by unfold SlotsWf; decide +kernel⟩, ⟨_, rfl⟩⟩
  · cases scrubbing.mem.blocks[b].state <;> simp
  · intro i b k n h
    exact absurd (h.symm.trans (show scrubbing.mem.op = some (.erase 3) by decide +kernel)) (by simp)
  · intro i b k n h
    exact absurd (h.symm.trans (show scrubbing.mem.op = some (.erase 3) by decide +kernel)) (by simp)
theorem witness_EveryStepKeepsTheTables : PortsWf held ∧ OneMotion held ∧ GrantsWf held ∧ GrantsActive held ∧
    TimebaseWf held := by
  refine ⟨held_portsWf, by unfold OneMotion; decide +kernel, fun l => ?_, by unfold GrantsActive; decide +kernel, ?_⟩
  · rcases held_grants l with h | h <;> rw [h]
    · exact wf_heldGrant
    · exact wf_resetGrant
  · refine ⟨by decide, by decide, by decide, by decide, by decide, by decide, by decide, by decide, by decide, by decide, by decide, ?_⟩
    intro a ha
    cases ha

/-! ### Frames, requests and ports -/

theorem witness_FrameEnvelopeRoundTrip : ([] : List Byte).length ≤ 2048 ∧
    (List.replicate 2048 (0x55#8 : Byte)).length ≤ 2048 := by decide +kernel
theorem witness_RecordBodiesRoundTrip : (zoneArgs 255 4294967295 255 (-9223372036854775808)).wf = true ∧
    (PresenceArgs.wf { line := 255, lanes := 0xFFF#16, scale := 4294967295 }) = true ∧
    (ProfileLoadArgs.wf { slot := 255, profile := { bareProfile with focus := some focusTable, iris := some irisTable } }) = true ∧
    bareProfile.zoom ≠ some [] ∧ decodeBody getZoneSet (encZone 1 (zoneArgs 1 2 3 (-4)).record) = .fields (zoneArgs 1 2 3 (-4)) := by
  decide +kernel

theorem takes_stage : Takes (rx 0) stage ∧ Takes (rx 1) stage ∧ Takes (rx 2) stage := by unfold Takes; decide +kernel
theorem takesMotion_stage : TakesMotion (rx 0) stage := by unfold TakesMotion Takes; decide +kernel
theorem witness_RequestFromAnotherRoleIsRefused : requestFrame (.record (rx 1) (.fields bareRecord)) = some (rx 1) ∧
    bodyDecodes (.record (rx 1) (.fields bareRecord)) ∧ Takes (rx 1) stage ∧ stage.ports[(rx 1).port].role = some .arm ∧
    Role.arm ∉ takenFrom (.record (rx 1) (.fields bareRecord)) ∧
    after (.record (rx 1) (.fields bareRecord)) stage = refusal .noRight 1 stage :=
  ⟨rfl, trivial, takes_stage.2.1, rfl, by decide, by decide +kernel⟩
theorem witness_MalformedRequestIsRefused : requestFrame (.record (rx 1) .malformed) = some (rx 1) ∧
    ¬ bodyDecodes (.record (rx 1) .malformed) ∧ Takes (rx 1) stage ∧
    after (.record (rx 1) .malformed) stage = refusal .badValue 1 stage :=
  ⟨rfl, id, takes_stage.2.1, by decide +kernel⟩

def leaving : State := stage.setPort 0 fun q => { q with leaving := true }
def fullPath : State :=
  stage.setPort 0 fun q => { q with replies := List.replicate 8 (Answer.done.reply 1 .ordinary) }
def offering (run : Nat) : State := stage.setPort 3 fun q => { q with link := .offer, otherRun := run, deadline := some 9000 }
def linkAt (x : LinkState) : State := stage.setPort 3 fun q => { q with link := x }
theorem witness_RequestIsDiscarded : requestFrame (.ping (rx 0) (.fields ())) = some (rx 0) ∧
    (leaving.ports[0].link = .active ∧ leaving.ports[0].leaving = true) ∧
    (fullPath.ports[0].link = .active ∧ fullPath.ports[0].leaving = false ∧ 8 ≤ countedReplies fullPath.ports[0]) ∧
    (linkAt .down).ports[3].link = .down ∧ (linkAt .acknowledge).ports[3].link = .acknowledge ∧
    (linkAt .failed).ports[3].link = .failed ∧
    (after (.ping (rx 0) (.fields ())) fullPath).ports[0].requestsLost = true := by decide +kernel
theorem witness_ThirdOtherFrameAdmitsAnObserver : requestFrame (.ping (rx 3) (.fields ())) = some (rx 3) ∧
    (offering 2).ports[3].link = .offer ∧ 2 ≤ (offering 2).ports[3].otherRun ∧ (offering 1).ports[3].otherRun < 2 ∧
    (after (.otherFrameInOffer (rx 3)) (offering 2)).ports[3].role = some .observer ∧
    (after (.ping (rx 3) (.fields ())) (offering 1)).ports[3].link = .offer := by decide +kernel

def reply0 : Reply := Answer.done.reply 5 .ordinary
def longReply : Reply := { reply0 with payload := .samples (List.replicate 40 (storeSample 0 Marks.none (List.replicate 12 0))) }
def event0 : Event := { f := 1, t := 2, body := .drivePower true }
def sending (x : Sending) : State :=
  stage.setPort 0 fun q => { q with sending := some x, replies := [reply0], events := [event0], eventsLost := true }
def sendingLong : State := stage.setPort 0 fun q => { q with sending := some .reply, replies := [longReply] }
/-- The last frame of an answer of the given kind is going out, with a READ of the port's fetch in progress. -/
def sendingKind (x : ReplyKind) : State :=
  let s := withOp (.read 4 0 (.fetch 0)) stage
  (s.setMem { s.mem with fetches := [{ port := 0, tag := 5, slot := 4, next := 1, left := 0, samples := [], adjusted := false }] }
    ).setPort 0 fun q => { q with sending := some .reply, leaving := x = .leave, replies := [{ reply0 with kind := x }] }
theorem witness_TransmitterTakesAndSends :
    ((sending .event).ports[0].link = .active ∧ (sending .event).ports[0].sending.isSome = true) ∧
    (stage.ports[0].sending = none ∧ stage.ports[0].telemetry = none ∧ stage.ports[0].replies = [] ∧
      stage.ports[0].events = []) ∧
    (pumpPort { stage.ports[0] with telemetry := some sentTelemetry, eventsLost := true }).sending =
      some (.telemetry { sentTelemetry with eventsLost := true }) ∧
    (pumpPort { stage.ports[0] with replies := [reply0], events := [event0] }).sending = some .reply ∧
    (pumpPort { stage.ports[0] with events := [event0] }).sending = some .event ∧
    (after (.frameSent 0) (sending .event)).ports[0].events = [] ∧
    (after (.frameSent 0) (sending (.telemetry { sentTelemetry with eventsLost := true }))).ports[0].eventsLost = false ∧
    (reply0.kind = .ordinary ∧ replyFrameCount reply0 ≤ reply0.framesSent + 1 ∧
      (after (.frameSent 0) (sending .reply)).ports[0].replies = []) ∧
    (longReply.framesSent + 1 < replyFrameCount longReply ∧
      (after (.frameSent 0) sendingLong).ports[0].replies = [{ longReply with framesSent := 1 }]) ∧
    ((sendingKind .fetch).ports[0].sending = some .reply ∧ (after (.frameSent 0) (sendingKind .fetch)).mem.fetches = [] ∧
      (after (.frameSent 0) (sendingKind .fetch)).mem.op = some (.read 4 0 .dropped)) ∧
    ((sendingKind .leave).ports[0].replies = { reply0 with kind := .leave } :: [] ∧
      (after (.frameSent 0) (sendingKind .leave)).ports[0].link = .down) := by decide +kernel
/-- Port 0 busy with an event and with a frame that waits and reports a loss; port 1 free; the end of a frame. -/
def skipping : State :=
  let s := (withTb (fun b => { b with t := 19 }) stage).setGrant 0 fun _ => heldGrant
  s.setPort 0 fun q =>
    { q with sending := some .event, events := [event0], telemetry := some { sentTelemetry with eventsLost := true } }
theorem witness_TelemetryOfAFrameStart :
    (skipping.ports[0].link = .active ∧ skipping.ports[0].eventsLost = false ∧ skipping.ports[3].link ≠ .active ∧
      ∀ z : ZoneNo, skipping.safety.zones[z].record = none) ∧
    ((beginFrame 40000 skipping).ports[0].telemetry.map fun x => (x.f, x.eventsLost, x.eventDepth, x.role)) =
      some (101, true, 1, some .motion) ∧
    ((beginFrame 40000 skipping).ports[0].telemetry.map fun x => x.lanes[0].holder) = some (some (.station 0)) ∧
    (beginFrame 40000 skipping).ports[3].telemetry = none ∧
    ((after .frameStart skipping).ports[0].sending = some .event ∧ (after .frameStart skipping).ports[0].telemetry.isSome = true ∧
      (after .frameStart skipping).ports[1].telemetry = none ∧
      (after .frameStart skipping).ports[1].sending.isSome = true) := by decide +kernel
def fullEvents : State := stage.setPort 0 fun q => { q with events := List.replicate 16 event0 }
theorem witness_EventIsPlacedForItsAudience : (stage.ports[0].link = .active ∧ stage.ports[0].events.length < 16) ∧
    16 ≤ fullEvents.ports[0].events.length ∧ stage.ports[3].link ≠ .active ∧
    (raiseFor (fun _ => true) (.drivePower true) fullEvents).ports[0].eventsLost = true := by decide +kernel

/-! ### Power-up and STARTING -/

def lines0 : LineStates := { stop := true, presence := Vector.replicate 4 false, protectClosed := true }
def noDamage : Damage := { slots := [], blocks := [], profiles := [], rig := false }
/-- The library with the stored copies that agree with it, a stored rig record, and the take of slot 5 still RECORDING. -/
def shelf : State :=
  let s := (library.setSlot 5 fun _ => { takeSlot with state := .recording, blocks := [10] }).setBlock 10 fun _ =>
    { takeBlock with state := .used 5 0 false }
  s.setMem { s.mem with stored :=
    { blocks := mapAll s.mem.blocks fun _ b => b.state
      slots := mapAll s.mem.slots fun _ x => { state := x.state, header := x.header }
      profiles := (Vector.replicate 4 none).set 1 (some bareProfile)
      rig := some { stage.rig.record with presentSet := 0x00F#16 } } }
theorem witness_PowerUpStartsEveryBlock : noDamage.rig = false ∧
    shelf.mem.stored.rig = some { stage.rig.record with presentSet := 0x00F#16 } ∧ stage.mem.stored.rig = none ∧
    LaneSet.has (after (.powerUp lines0 noDamage) shelf).rig.record.presentSet 3 = true ∧
    LaneSet.has (after (.powerUp lines0 noDamage) shelf).rig.record.presentSet 4 = false ∧
    (after (.powerUp lines0 noDamage) shelf).lanes[3].vmax = 1200 ∧
    ((after (.powerUp lines0 noDamage) shelf).safety.causes.map fun c => c.kind) = [.powerUp, .stopLine] ∧
    (shelf.mem.stored.profiles[1] = some bareProfile ∧ profileValid { bareProfile with iris := some irisTable } = true ∧
      shelf.mem.stored.profiles[0] = none) ∧
    (let p := { bareProfile with iris := some irisTable }
     let s := shelf.setMem { shelf.mem with stored := { shelf.mem.stored with
       profiles := ((Vector.replicate 4 none).set 1 (some p)).set 3 (some p) } }
     (after (.powerUp lines0 noDamage) s).lens.slots[1] = { profile := p, store := .stored } ∧
       (after (.powerUp lines0 noDamage) s).lens.slots[3] = { profile := Profile.empty, store := .failed } ∧
       (after (.powerUp lines0 { noDamage with profiles := [1] }) s).lens.slots[3] = { profile := p, store := .stored }) := by
  decide +kernel
/-- The shelf with the take of slot 5 stored TRUNCATED, and two more blocks stored as its own, the second retire-marked. -/
def overlong : State := shelf.setMem { shelf.mem with stored := { shelf.mem.stored with
  blocks := (shelf.mem.stored.blocks.set 11 (.used 5 1 false)).set 12 (.used 5 2 true)
  slots := shelf.mem.stored.slots.set 5 { state := .truncated, header := some takeHeader } } }
theorem witness_PowerUpSettlesTheTakes : (4 : SlotNo) ∉ noDamage.slots ∧
    shelf.mem.stored.slots[4].header = some takeHeader ∧ shelf.mem.stored.slots[4].state = .complete ∧
    shelf.mem.stored.slots[5].state = .recording ∧ shelf.mem.stored.slots[6].state = .empty ∧
    (after (.powerUp lines0 noDamage) shelf).mem.slots[4].header = some takeHeader ∧
    (after (.powerUp lines0 noDamage) shelf).mem.slots[5].state = .truncated ∧
    (after (.powerUp lines0 { noDamage with slots := [4] }) shelf).mem.slots[4] = Slot.reset ∧
    ((9 : BlockNo) ∉ noDamage.blocks ∧ programBlock shelf.mem.op ≠ some 9 ∧
      shelf.mem.stored.blocks[9] = .used 4 0 false ∧ ownedBlocks (readReserved noDamage shelf).blocks 4 = [9] ∧
      (countBlocks (fun b => shelf.mem.blocks[b].data) [9]).count = 2 ∧
      (after (.powerUp lines0 noDamage) shelf).mem.slots[4].blocks = [9] ∧
      (after (.powerUp lines0 noDamage) shelf).mem.slots[4].locked = true) ∧
    (let t := after (.powerUp lines0 { noDamage with blocks := [9, 10] }) shelf
     t.mem.slots[4] = Slot.reset ∧ t.mem.slots[5] = Slot.reset ∧ t.mem.blocks[9].state = .dirty) ∧
    (overlong.mem.stored.slots[5].state = .truncated ∧ overlong.mem.stored.slots[5].header = some takeHeader ∧
      (let own := ownedBlocks (readReserved noDamage overlong).blocks 5
       own = [10, 11, 12] ∧ takeHeader.length ≤ (countBlocks (fun b => overlong.mem.blocks[b].data) own).count) ∧
      (let t := after (.powerUp lines0 noDamage) overlong
       t.mem.slots[5].blocks = [10] ∧ t.mem.slots[5].header = some takeHeader ∧ t.mem.slots[5].locked = true ∧
         t.mem.blocks[10].state = .used 5 0 false ∧ t.mem.blocks[11].state = .dirty ∧ t.mem.blocks[12].state = .bad)) := by
  decide +kernel
/-- R101: a count over two blocks, the second going on after a failed sample's block; a broken sequence ends the take. -/
theorem test_count_blocks :
    let data := fun (b : BlockNo) => if b = 1 then [storeSample 0 Marks.none [5], storeSample 1 { Marks.none with defer := true } [6]]
      else if b = 2 then [storeSample 2 Marks.none [7], storeSample 4 Marks.none [8]] else [storeSample 5 Marks.none [9]]
    countBlocks data [1, 2, 3] = { count := 3, spanOpen := true, ended := true } ∧ keepBlocks data 3 [1, 2, 3] = [1, 2] ∧
      keepBlocks data 2 [1, 2, 3] = [1] ∧ countBlocks data [2] = { count := 0, spanOpen := false, ended := true } := by
  decide +kernel

def startingStage : State := library.setStarting true
theorem witness_StartingEndStoresTheScan : startingStage.starting = true ∧
    (∀ l : Lane, startingStage.lanes[l].present = true → startingStage.drives.channels[l].settled = true) ∧
    (startingStage.setChannel 8 fun c => { c with settled := false }).drives.channels[8].settled = false ∧
    (after .startingEnd startingStage).starting = false ∧
    (after .startingEnd startingStage).mem.stored.slots[4].header = some takeHeader ∧
    (after .startingEnd (startingStage.setChannel 8 fun c => { c with settled := false })).starting = true := by
  decide +kernel

/-! ### The Timebase -/

/-- The last tick of frame 100 has been issued. -/
def stageEnd : State := withTb (fun b => { b with t := 19 }) stage
def asks (a : TimebaseArgs) : State := withTb (fun b => { b with pendingSettings := some a }) stageEnd
/-- LOCKED at 40,000 with the last pulse and frame start at 100,000. -/
def lockedTb : State :=
  withTb (fun b => { b with lock := .locked, lastPulse := some 100000, frameTime := 100000 }) searching
/-- FLYWHEEL with the latest frame start at 160,200 (section 2.8). -/
def flying (n : Nat) : State :=
  withTb (fun b => { b with lock := .flywheel, flywheelCount := n, frameTime := 160200, lastPulse := some 0 }) searching
def toReferenced : TimebaseArgs := { mode := some .referenced, n := some 64, period := some 50000 }
theorem witness_FreeRunningFrameStart : (stageEnd.tb.lock ≠ .locked ∧ stageEnd.tb.n ≤ stageEnd.tb.t + 1 ∧
      stageEnd.tb.started = true ∧ stageEnd.tb.lock ≠ .flywheel ∧ stageEnd.tb.pendingSettings = none) ∧
    (¬ stage.tb.n ≤ stage.tb.t + 1 ∧ after .frameStart stage = stage ∧ (after .servoTick stage).tb.t = 1) ∧
    (after .frameStart stageEnd).tb.f = 101 ∧ (after .frameStart stageEnd).tb.t = 0 ∧ after .servoTick stageEnd = stageEnd ∧
    ((after .frameStart stageEnd).drives.channels[0].exchange.map fun e => (e.f, e.t)) = some (101, 0) ∧
    ((asks toReferenced).tb.pendingSettings = some toReferenced ∧ (asks toReferenced).tb.mode = .internal ∧
      (after .frameStart (asks toReferenced)).tb.lock = .search ∧ (after .frameStart (asks toReferenced)).tb.n = 64) ∧
    (State.reset.tb.started = false ∧ (after .frameStart State.reset).tb.f = 0) ∧
    ((flying 7).tb.flywheelCount ≠ 8 ∧ (after .frameStart (flying 7)).tb.flywheelCount = 8) ∧
    (after .frameStart lockedTb = lockedTb ∧ lockedTb.tb.lock = .locked) ∧
    (searching.tb.mode = .referenced ∧ (after .frameStart (searching.setTb { searching.tb with
      pendingSettings := some { toReferenced with mode := some .internal } })).tb.lock = .none) := by decide +kernel
/-- REFERENCED after `run` agreeing intervals of 40,000, the last pulse at 100,000. -/
def inRun (run : Nat) : State :=
  withTb (fun b => { b with lastPulse := some 100000, prevInterval := some 40000, runCount := run }) searching
theorem witness_SearchPulsesLock : stage.tb.mode = .internal ∧
    (searching.tb.mode = .referenced ∧ searching.tb.lock = .search ∧ searching.tb.lastPulse = none ∧
      searching.tb.lastChance = false) ∧
    (inRun 3).tb.lastPulse = some 100000 ∧
    (8000 > 107999 - 100000 ∧ (after (.referencePulse 107999) (inRun 3)).tb.runCount = 0) ∧
    (50000 < 150001 - 100000 ∧ (after (.referencePulse 150001) (inRun 3)).tb.runCount = 0) ∧
    ((((140200 - 100000 : Nat) : Int) - 40000).natAbs * 200 ≤ 40000 ∧
      (after (.referencePulse 140200) (inRun 3)).tb.lock = .locked ∧
      (after (.referencePulse 140200) (inRun 2)).tb.runCount = 3) ∧
    (40000 < (((140201 - 100000 : Nat) : Int) - 40000).natAbs * 200 ∧
      (after (.referencePulse 140201) (inRun 3)).tb.runCount = 1) ∧
    (after (.referencePulse 140000) (inRun 0)).tb.runCount = 1 ∧
    (let s := after .frameStart (flying 8)
     s.tb.lastChance = true ∧ s.tb.lock = .search ∧ s.tb.frameTime = 200200 ∧
       (after (.referencePulse 200400) s).tb.lock = .locked ∧ (after (.referencePulse 200401) s).tb.lock = .search) := by
  decide +kernel
theorem witness_LockedPulses : lockedTb.tb.mode = .referenced ∧ lockedTb.tb.lock = .locked ∧
    lockedTb.tb.lastPulse = some 100000 ∧ lockedTb.tb.n ≤ lockedTb.tb.t + 1 ∧ lockedTb.tb.frameTime ≤ 100000 ∧
    (after (.referencePulse 140201) lockedTb).tb.lock = .flywheel ∧ after .missingPulse lockedTb = lockedTb ∧
    (after (.referencePulse 140200) lockedTb).tb.workingPeriod = 40200 ∧
    (after .overdueFrameStart lockedTb).tb.frameTime = 140200 ∧
    (let s := withTb (fun b => { b with t := 18 }) lockedTb; after .overdueFrameStart s = s) ∧
    (let s := withTb (fun b => { b with frameTime := 140200, t := 8 }) lockedTb
     (100000 < s.tb.frameTime ∧ 2 * (140200 + 9 * 40000 / 20 - 100000) < 3 * 40000 ∧ after .missingPulse s = s) ∧
       (after (.referencePulse 140200) s).tb.lock = .flywheel ∧ after .overdueFrameStart s = s) ∧
    (let s := withTb (fun b => { b with frameTime := 140200, t := 9 }) lockedTb
     3 * 40000 ≤ 2 * (140200 + 10 * 40000 / 20 - 100000) ∧ (after .missingPulse s).tb.lock = .flywheel) := by decide +kernel

/-- A pass of the take of slot 4 on lane 0, begun at frame `first`, in state `x`. -/
def pass (x : PlayState) (first len : Nat) : State :=
  let s := (library.setGrant 0 fun _ => { heldGrant with holder := some playHold,
                                                         stack := [{ port := 0, level := 2, ctx := abs 500 }] })
  s.setPlay { s.play with state := x, slot := some 4, length := some len, participation := 1#16, fRoll := some first,
                          k := some (s.tb.f - first), endMode := some .yield, cueScale := some 65536 }
theorem witness_FlywheelPulses : (flying 3).tb.mode = .referenced ∧ (flying 3).tb.lock = .flywheel ∧
    (flying 3).tb.started = true ∧ (flying 3).tb.n ≤ (flying 3).tb.t + 1 ∧
    (((200100 : Int) - 200200).natAbs * 200 ≤ 40000 ∧ (after (.referencePulse 200100) (flying 3)).tb.f = 1002 ∧
      (after (.referencePulse 200100) (flying 3)).tb.lock = .locked) ∧
    (let s := withTb (fun b => { b with t := 18 }) (flying 3); after (.referencePulse 200100) s = s) ∧
    (((160400 : Int) - 160200).natAbs * 200 ≤ 40000 ∧ (after (.referencePulse 160400) (flying 3)).tb.f = 1001 ∧
      (after (.referencePulse 160400) (flying 3)).tb.lock = .locked) ∧
    (40000 < ((160401 : Int) - 160200).natAbs * 200 ∧ after (.referencePulse 160401) (flying 3) = settle (flying 3)) ∧
    ((flying 7).tb.flywheelCount ≠ 8 ∧ after .flywheelToSearch (flying 7) = flying 7) ∧
    ((flying 8).tb.flywheelCount = 8 ∧ (flying 8).tb.pendingSettings = none ∧
      (after .flywheelToSearch (flying 8)).tb.lock = .search ∧ (after .flywheelToSearch (flying 8)).tb.f = 1002) ∧
    (let s := withTb (fun b => { b with t := 18 }) (flying 8)
     s.tb.t + 1 < s.tb.n ∧ after .flywheelToSearch s = settle s) ∧
    (let s := (flying 8).setRecorder { stage.recorder with state := .armed, slot := some 6, startFrame := some 1002 }
     s.recorder.state = .armed ∧ (after .flywheelToSearch s).recorder = Recorder.reset) ∧
    (let s := (flying 8).setPlay (pass .ready 90 400).play
     (after .flywheelToSearch s).play.state = .idle) := by decide +kernel
def stalled : State :=
  (withTb (fun b => { b with t := 19 }) (pass .rolling 90 400)).setPlay { (pass .rolling 90 400).play with stallCount := 8 }
def segment (r : Nat) (x : PlayState) : State :=
  (withTb (fun b => { b with t := 19 }) (pass x 90 400)).setPlay
    { (pass x 90 400).play with deferIndex := some 1, resumeIndex := some r }
theorem witness_FrameStartEndsThePlayback : (stalled.tb.started = true ∧ stalled.tb.n ≤ stalled.tb.t + 1 ∧
      stalled.tb.lock = .none ∧ stalled.play.fRoll = some 90 ∧ stalled.play.state = .rolling ∧ stalled.play.stallCount = 8 ∧
      stalled.tb.f + 1 - 90 < stalled.play.len ∧ stalled.play.lacks (stalled.tb.f + 1 - 90) = true ∧
      stalled.play.defersAt (stalled.tb.f + 1 - 90) = false) ∧
    ((segment 3 .deferred).play.state = .deferred ∧ (segment 3 .deferred).play.resumeIndex = some 3 ∧
      90 + 3 + 8 ≤ (segment 3 .deferred).tb.f + 1) ∧
    (stalled.participates 0 = true ∧ stalled.grants[0].heldByPlayback = true ∧ stalled.participates 1 = false) ∧
    (after .stallLimit stalled).play = Playback.reset ∧ (after .deferMissed (segment 3 .deferred)).play = Playback.reset ∧
    ((after .stallLimit stalled).grants[0].holder.map fun h => h.who) = some (.station 0) := by decide +kernel
/-- Sample i of the read-ahead buffer, lane 0 at 10 i, with the given marks. -/
def bufAt (i : Nat) (m : Marks) : BufSample :=
  { index := i, marks := m, pos := (Vector.replicate 12 none).set 0 (some (10 * (i : Int))) }
def deferMark : Marks := { Marks.none with defer := true }
/-- ROLLING since frame 97 at frame 100, samples 2 to 6 read, sample 3 with the given marks, sample 5 carrying RESUME. -/
def rollingWith (m : Marks) (len : Nat) : State :=
  (pass .rolling 97 len).setPlay { (pass .rolling 97 len).play with
    buffer := [bufAt 2 Marks.none, bufAt 3 m, bufAt 4 Marks.none, bufAt 5 { Marks.none with resume := true }, bufAt 6 Marks.none] }
def armedAt (f j : Nat) (x : Option Nat) : State :=
  (rollingWith Marks.none 400).setPlay { (rollingWith Marks.none 400).play with
    state := .rollArmed, armed := some (f, j), fRoll := x }
theorem witness_FrameStartOfThePlayback :
    ((rollingWith Marks.none 400).play.state = .rolling ∧ (rollingWith Marks.none 400).play.fRoll = some 97 ∧
      100 - 97 < 400 ∧ (rollingWith Marks.none 400).play.stallCount ≠ 8 ∧
      ((playbackFrame (rollingWith Marks.none 400)).play.buffer.map fun x => x.index) = [3, 4, 5, 6]) ∧
    (((rollingWith { Marks.none with cue := true } 400).play.sample 3).isSome = true ∧
      ((playbackFrame (rollingWith { Marks.none with cue := true } 400)).ports[0].events.map fun e => e.body) =
        [.playMark 3 100]) ∧
    ((rollingWith deferMark 400).play.defersAt 3 = true ∧ (playbackFrame (rollingWith deferMark 400)).play.state = .deferred ∧
      (playbackFrame (rollingWith deferMark 400)).play.resumeIndex = some 5 ∧
      ((playbackFrame (rollingWith deferMark 400)).play.buffer.map fun x => x.index) = [5, 6]) ∧
    (3 + 1 = (rollingWith deferMark 4).play.len ∧ (playbackFrame (rollingWith deferMark 4)).play.state = .rolling) ∧
    ((rollingWith Marks.none 3).play.len ≤ 100 - 97 ∧ (playbackFrame (rollingWith Marks.none 3)).play = Playback.reset) ∧
    (let s := (rollingWith Marks.none 3).setPlay { (rollingWith Marks.none 3).play with endMode := some .holdEnd }
     (playbackFrame s).play.state = .holdEnd ∧ ((playbackFrame s).play.endHold.map fun e => e[0]) = some (some 20)) ∧
    ((armedAt 100 0 none).play.armed = some (100, 0) ∧ (playbackFrame (armedAt 100 0 none)).play.fRoll = some 100 ∧
      (playbackFrame (armedAt 100 3 (some 97))).play.k = some 3 ∧ playbackFrame (armedAt 101 0 none) = armedAt 101 0 none) ∧
    (let s := withTb (fun b => { b with mode := .referenced, lock := .search }) (armedAt 100 0 none)
     (playbackFrame s).play = Playback.reset) ∧
    (let s := stalled.setPlay { stalled.play with fRoll := some 90, k := some 10 }
     s.play.lacks 10 = true ∧ (playbackFrame s).play = Playback.reset) ∧
    ((playbackFrame (segment 2 .deferred)).play = Playback.reset ∧ playbackFrame (segment 3 .deferred) = segment 3 .deferred ∧
      90 + 2 + 8 ≤ 100 ∧ 100 < 90 + 3 + 8) := by decide +kernel

/-! ### The lane step -/

/-- Zone 0 before lane 1, which cruises under the MOTION station toward 90,000 (section 8.8, at other places). -/
def keepOut : ZoneRecord :=
  { kind := .keepOut, enabled := true, scale := 16384, intervals := [{ lane := 1, low := 20000, high := 26000 }] }
def approach (p : Int) : State :=
  ((stage.setLane 1 fun _ => { laneAt p 1200 with sEff := 65536 }).setGrant 1 fun _ =>
    { Grant.reset with holder := some (stationHold 0 (abs 90000)) }).setZone 0 fun _ =>
      { record := some keepOut, predicting := false, breached := false, exiting := false }
def marked (p : Int) : State := (approach p).setZone 0 fun e => { e with exiting := true }
def predictedAt (s : State) : List ZoneNo := predictedZones s (s.candidateMotion (s.candidates s.runCandidate))
theorem witness_LaneStepForms : (held.lanes[0].present = true ∧ held.lanes[0].condition = .active ∧ held.safety.stop = .run ∧
      predictedAt held = [] ∧ held.grants[0].holder = some (stationHold 0 (abs 500)) ∧ held.grants[1].holder = none) ∧
    (inStop .stopping held).safety.stop = .stopping ∧ predictedAt (approach 10999) = [] ∧
    ((approach 11001).safety.stop = .run ∧ predictedAt (approach 11001) ≠ []) ∧
    (inStop .stopped held).safety.stop = .stopped ∧ (inStop .releasing held).safety.stop = .releasing ∧
    (laneStep (approach 11001)).lanes[1].v = 1100 ∧ (laneStep (approach 10999)).lanes[1].v = 1200 ∧
    (held.missFaults 0 = false ∧ (approach 11001).missFaults 1 = false) := by decide +kernel
theorem witness_HeldStepTarget : (laneAt 0 0).softMin ≤ (laneAt 0 0).softMax ∧
    (heldStep (laneAt 0 0) 100001 8192 65536).target = some 100000 ∧ (heldStep (laneAt 0 0) (-100001) 8192 65536).excess = -1 ∧
    (held.lanes[0].present = true ∧ held.lanes[0].condition = .active ∧
      held.grants[0].holder = some (stationHold 0 (abs 500)) ∧ held.safety.stop = .run ∧ predictedAt held = [] ∧
      held.missFaults 0 = false ∧ (laneStep held).lanes[0].t = 500) ∧
    ((approach 11001).grants[1].holder = some (stationHold 0 (abs 90000)) ∧ predictedAt (approach 11001) ≠ [] ∧
      (laneStep (approach 11001)).lanes[1].t = 11001) := by decide +kernel
theorem witness_BrakingDistance : 1 ≤ 40 ∧ brakeDistance 5 10 = 4 ∧ brakeDistance 120 40 = 240 ∧
    (heldStep (laneAt 0 1000) 15000 8192 65536).clip = none ∧ (heldStep (laneAt 2040 1000) 15000 8192 65536).clip = none ∧
    ((laneAt 2040 1000).v ≠ 0 ∧ ((15000 - 2040 : Int).natAbs : Int) ≤ brakeDistance 1000 40) ∧
    ¬ (((15000 - 0 : Int).natAbs : Int) ≤ brakeDistance 1000 40) := by decide
def nearLimit : LaneRec := { laneAt 9900 200 with softMax := 9990 }
theorem witness_HeldStepLaws : nearLimit.softMin ≤ nearLimit.softMax ∧ nearLimit.v.natAbs ≤ nearLimit.vmax ∧
    (heldStep (laneAt 0 1200) 90000 8192 65536).clip = none ∧ (heldStep nearLimit 20000 8192 65536).clip = some .softMax ∧
    (heldStep { laneAt (-9900) (-200) with softMin := -9990 } (-20000) 8192 0).clip = some .softMin ∧
    nearLimit.p ≤ nearLimit.softMax ∧ nearLimit.softMax < (laneAt 9991 0).p := by decide
theorem witness_StopRampAndSettlingBand : 1 ≤ 100 ∧ slowed 1000 100 = 900 ∧ brakeDistance 1000 100 = 5500 ∧
    (laneAt 14993 0).v = 0 ∧ 65535 / 8192 = 7 ∧ (heldStep (laneAt 14993 0) 15000 8192 65536).v = 0 ∧
    1 ≤ velocityCap 1200 65536 ∧ (heldStep (laneAt 14992 0) 15000 8192 65536).v = 1 := by decide

def stepHold : Hold := stationHold 0 { kind := .step, d := some 9000, o := 0, trim := 65536 }
/-- Lane 0 ABS, 1 STEP past its limit, 2 with no demand yet, 3 free and moving, 4 DISABLED, 5 with an open exchange, 9 absent. -/
def mixed : State :=
  ((((((held.setGrant 1 fun _ => { Grant.reset with holder := some stepHold }).setGrant 2 fun _ =>
    { Grant.reset with holder := some (stationHold 0 Context.fresh) }).setLane 1 fun x => { x with softMax := 8000 }).setLane 3
      fun _ => laneAt 70 100).setLane 4 fun x => disableLane .driveFault x).setChannel 5
        fun c => { c with exchange := some { f := 100, t := 0, sent := some 0 } })
/-- The same with the last tick of its frame issued. -/
def endOf (s : State) : State := withTb (fun b => { b with t := 19 }) s
theorem witness_ServoTickInRun : IssuesTick .servoTick { mixed.tb with t := 1 } mixed ∧
    IssuesTick .frameStart { stageEnd.tb with f := 101, t := 0, frameTime := 40000 } (endOf mixed) ∧
    mixed.safety.stop = .run ∧ mixed.play.state = .idle ∧ NoDriveFails mixed ∧ NoDriveFails (endOf mixed) ∧
    (∀ z : ZoneNo, mixed.safety.zones[z].record = none) ∧ mixed.lanes[9].present = false ∧
    (mixed.lanes[4].present = true ∧ mixed.lanes[4].condition ≠ .active) ∧
    (mixed.lanes[1].condition = .active ∧ mixed.grants[1].holder = some stepHold) ∧
    mixed.grants[2].holder = some (stationHold 0 Context.fresh) ∧ mixed.grants[3].holder = none ∧
    (mixed.drives.channels[5].exchange.isSome = true ∧ mixed.drives.channels[6].exchange = none ∧
      (after .servoTick mixed).drives.channels[5].missing = 1 ∧ (after .servoTick mixed).drives.channels[6].status = .ok) ∧
    ((after .servoTick mixed).grants[1].holder.map fun h => h.ctx.d) = some (some 8000) ∧
    (after .servoTick mixed).lanes[3].p = 130 ∧ (after .servoTick mixed).lanes[0].t = 500 ∧
    (after .frameStart (endOf mixed)).lanes[3].p = 130 := by
  refine ⟨?_, ?_, ?_⟩
  · left; decide +kernel
  · right; decide +kernel
  · unfold NoDriveFails; decide +kernel
/-- CUEING at sample 0 with four samples read. -/
def arrived (p : Int) : State :=
  let s := pass .cueing 97 400
  (s.setLane 0 fun _ => laneAt p 0).setPlay { s.play with
    fRoll := none, k := some 0, buffer := [bufAt 0 Marks.none, bufAt 1 Marks.none, bufAt 2 Marks.none, bufAt 3 Marks.none] }
def lacking : State := (rollingWith Marks.none 400).setPlay { (rollingWith Marks.none 400).play with buffer := [bufAt 3 Marks.none] }
theorem witness_ServoTickOfThePlayback : IssuesTick .servoTick { (pass .rolling 97 400).tb with t := 1 } (rollingWith Marks.none 400) ∧
    (arrived 0).safety.stop = .run ∧ (arrived 0).play.state ≠ .idle ∧ NoDriveFails (arrived 0) ∧
    (∀ z : ZoneNo, (arrived 0).safety.zones[z].record = none) ∧
    ((arrived 0).lanes[0].present = true ∧ (arrived 0).lanes[0].condition = .active ∧
      (playBefore (arrived 0)).grants[0].holder = some playHold) ∧
    ((after .servoTick (arrived 0)).play.state = .ready ∧ (after .servoTick (arrived 99999)).play.state = .cueing) ∧
    (lacking.play.lacks 3 = true ∧ lacking.play.stallDemands = none ∧
      ((after .servoTick lacking).play.stallDemands.map fun d => d[0]) = some (some 30) ∧
      (after .servoTick lacking).play.spoiled = true) ∧
    ((rollingWith Marks.none 400).play.lacks 3 = false ∧ (after .servoTick (rollingWith Marks.none 400)).play.state = .rolling ∧
      (after .servoTick (rollingWith Marks.none 400)).play.spoiled = false) ∧
    (let s := (rollingWith deferMark 400).setPlay { (rollingWith deferMark 400).play with marksDue := true }
     s.play.defersAt 3 = true ∧ (after .servoTick s).play.state = .deferred) ∧
    (let s := (rollingWith Marks.none 400).setLane 0 fun x => { x with p := -1000, trackTol := 989 }
     (after .servoTick s).play.slipReported = true) ∧
    (let s := (rollingWith Marks.none 400).setLane 0 fun x => { x with p := -1000, trackTol := 990 }
     (after .servoTick s).play.slipReported = false) ∧
    (let s := fun (limit : Int) => (rollingWith Marks.none 400).setLane 0 fun x => { x with softMax := limit }
     (playSupply (stallStep ((s 29).setTb { (s 29).tb with t := 1 })))[0] = some 30 ∧
      (after .servoTick (s 29)).play.spoiled = true ∧ (after .servoTick (s 30)).play.spoiled = false) := by
  refine ⟨?_, by decide +kernel, by decide +kernel, by unfold NoDriveFails; decide +kernel, ?_⟩
  · left; decide +kernel
  · decide +kernel
theorem witness_ServoTickInAStop : (∀ x : Fin 3, IssuesTick .servoTick { mixed.tb with t := 1 } (inStop (#v[.stopped, .releasing, .stopping][x]) mixed)) ∧
    NoDriveFails (inStop .stopped mixed) ∧ (inStop .stopped mixed).play.state = .idle ∧
    (after .servoTick (inStop .stopping (mixed.setLane 3 fun _ => laneAt 70 101))).safety.stop = .stopping ∧
    (after .servoTick (inStop .stopping mixed)).lanes[3].v = 0 ∧
    (after .servoTick (inStop .stopping mixed)).safety.stop = .stopped ∧
    (after .servoTick (inStop .stopping mixed)).safety.drivePower = false ∧
    (after .frameStart (endOf (inStop .stopping mixed))).safety.stop = .stopped := by
  refine ⟨fun x => Or.inl ?_, by unfold NoDriveFails; decide +kernel, ?_⟩
  · revert x; decide +kernel
  · decide +kernel
theorem witness_KeepOutPredictionStops : IssuesTick .servoTick { (approach 11001).tb with t := 1 } (approach 11001) ∧
    NoDriveFails (approach 11001) ∧ (approach 11001).safety.stop = .run ∧ (approach 11001).play.state = .idle ∧
    (∀ l : Lane, (approach 11001).grants[l].heldByPlayback = false) ∧
    (approach 11001).safety.zones[0].record = some keepOut ∧ (approach 11001).safety.zones[0].exiting = false ∧
    zonePredicts ((approach 11001).candidateMotion ((approach 11001).candidates (approach 11001).runCandidate)) keepOut = true ∧
    (after .servoTick (approach 11001)).hasCause (.zonePredicted 0) = true ∧
    (after .servoTick (approach 11001)).lanes[1].p = 12101 := by
  refine ⟨?_, by unfold NoDriveFails; decide +kernel, ?_⟩
  · left; decide +kernel
  · decide +kernel
/-- R141, R142: the evaluation after a commit finds a breach, and clears the mark of a zone that is left. -/
theorem witness_ZonesAfterTheCommit : IssuesTick .servoTick { (approach 22000).tb with t := 1 } (marked 22000) ∧
    ((approach 22000).safety.zones[0].exiting = false ∧ (after .servoTick (approach 22000)).hasCause (.zoneBreached 0) = true) ∧
    ((marked 22000).safety.zones[0].exiting = true ∧ (after .servoTick (marked 22000)).safety.stop = .run ∧
      (after .servoTick (marked 22000)).safety.zones[0].breached = true) ∧
    ((marked 40000).ports[0].link = .active ∧ (after .servoTick (marked 40000)).safety.zones[0].exiting = false ∧
      ((after .servoTick (marked 40000)).ports[0].events.map fun e => e.body) = [.exitCleared 0 100 1]) := by
  refine ⟨?_, ?_⟩
  · left; decide +kernel
  · decide +kernel

/-! ### Drives -/

def asked (sent : Option Int) (s : State) : State := s.setChannel 0 fun c => { c with exchange := some { f := 100, t := 0, sent := sent } }
def unsettled : State := (asked none (stage.setStarting true)).setChannel 0 fun c => { c with settled := false }
theorem witness_DriveReplyIsJudged : stage.lanes[9].present = false ∧ stage.drives.channels[0].exchange = none ∧
    (asked (some 4) stage).drives.channels[0].exchange = some { f := 100, t := 0, sent := some 4 } ∧
    (asked (some 4) stage).starting = false ∧
    (unsettled.starting = true ∧ unsettled.drives.channels[0].settled = false ∧ unsettled.lanes[0].present = true) ∧
    ((4 : Int) - 20).natAbs ≤ stage.lanes[0].followLimit ∧
    (after (.driveReply 0 100 0 .ok 7) unsettled).lanes[0].p = 1792 ∧
    (after (.driveReply 0 100 0 .ok 20) (asked (some 4) stage)).drives.channels[0].latestCount = some 20 ∧
    (after (.driveReply 0 100 0 .ok 20) (asked (some 4) stage)).lanes[0].condition = .active ∧
    after (.driveReply 0 100 1 .ok 20) (asked (some 4) stage) = asked (some 4) stage := by decide +kernel
def missedOnce : State := (asked (some 4) stage).setChannel 0 fun c => { c with missing := 1 }
def missedHeld : State := (asked (some 4) held).setChannel 0 fun c => { c with missing := 1 }
def absentAsked : State := stage.setChannel 9 fun c => { c with exchange := some { f := 100, t := 0, sent := none } }
theorem witness_DriveTroubleDisablesTheLane : ((asked (some 4) stage).drives.channels[0].missing = 0 ∧
      (asked (some 4) stage).drives.channels[0].faultReported = false ∧ (asked (some 4) stage).lanes[0].condition = .active) ∧
    1 ≤ missedOnce.drives.channels[0].missing ∧ absentAsked.lanes[9].present = false ∧
    stage.lanes[0].followLimit < ((4 : Int) - 21).natAbs ∧ stage.safety.drivePower = true ∧
    (after (.driveReplyMissing 0) (asked (some 4) stage)).drives.channels[0].missing = 1 ∧
    (after (.driveReplyMissing 0) missedOnce).hasCause (.driveFault 0) = true ∧
    (after (.driveReply 0 100 0 .fault 4) (asked (some 4) stage)).safety.stop = .stopping ∧
    (after (.driveReply 0 100 0 .ok 21) (asked (some 4) stage)).lanes[0].condition = .disabled .followError ∧
    stage.drives.channels[0].exchange = none := by
  decide +kernel
/-- R159: a lane that a miss of this tick disables stores no T. -/
theorem witness_LaneStepDropped : (missedHeld.missFaults 0 = true ∧ missedHeld.safety.stop = .run ∧
      missedHeld.grants[0].holder = some (stationHold 0 (abs 500))) ∧
    (laneStep missedHeld).lanes[0].condition = .disabled .driveFault ∧ missedHeld.lanes[0].t ≠ 500 ∧
    (laneStep missedHeld).lanes[0].t = missedHeld.lanes[0].t := by decide +kernel
/-- R159: a tick that finds the second miss in a row drops the lane's part of the commit and polls its drive. -/
theorem witness_TickJudgesTheMiss : IssuesTick .servoTick { stage.tb with t := 1 } missedHeld ∧
    (missedHeld.lanes[0].present = true ∧ missedHeld.drives.channels[0].exchange.isSome = true ∧
      1 ≤ missedHeld.drives.channels[0].missing ∧ missedHeld.drives.channels[0].faultReported = false ∧
      missedHeld.lanes[0].condition = .active) ∧
    ((after .servoTick missedHeld).lanes[0].condition = .disabled .driveFault ∧ (after .servoTick missedHeld).lanes[0].p = 0 ∧
      (after .servoTick missedHeld).drives.channels[0].exchange = some { f := 100, t := 1, sent := none } ∧
      (after .servoTick missedHeld).safety.stop = .stopping) ∧
    ((asked (some 4) held).drives.channels[0].missing = 0 ∧
      (after .servoTick (asked (some 4) held)).drives.channels[0].missing = 1 ∧
      (after .servoTick (asked (some 4) held)).lanes[0].condition = .active) := by
  refine ⟨?_, ?_⟩
  · left; decide +kernel
  · decide +kernel

/-! ### Stops and lines -/

theorem witness_CauseStopsTheMotion : Takes (rx 2) stage ∧ stage.safety.stop = .run ∧ stage.play.state = .idle ∧
    (inStop .stopping stage).safety.stop = .stopping ∧ (inStop .stopped stage).hasCause .stopLine = true ∧
    (inStop .releasing stage).safety.stop = .releasing ∧ (after .stopLineAssert stage).safety.stop = .stopping ∧
    (after .stopLineAssert (inStop .stopped stage)).safety.drivePower = false ∧
    (after (.stop (rx 2) (.fields ())) (inStop .stopped stage)).safety.drivePower = true ∧
    (after (.stop (rx 2) (.fields ())) (inStop .releasing stage)).safety.stop = .stopped ∧
    (after (.stop (rx 2) (.fields ())) (pass .rolling 90 400)).play.state = .idle := by
  refine ⟨takes_stage.2.2, ?_⟩
  decide +kernel

def lockedDown (openLocked : Bool) : State :=
  library.setSlot 4 fun x => { x with down := true, openLocked := openLocked }
theorem witness_LineChanges : stage.mem.protectClosed = false ∧ after (.protectLineChange false) stage = stage ∧
    ((lockedDown false).mem.slots[4].finished = true ∧ (lockedDown false).mem.slots[4].down = true) ∧
    library.mem.slots[4].down = false ∧ library.mem.slots[6].finished = false ∧
    (after (.protectLineChange true) (lockedDown false)).mem.slots[4].locked = true ∧
    (after (.protectLineChange false) (after (.protectLineChange true) (lockedDown false))).mem.slots[4].locked = false ∧
    (let s := after (.presenceSet (rx 0) (.fields { line := 2, lanes := 8#16, scale := 32768 })) stage;
      LaneSet.has s.safety.presence[2].lanes 3 = true ∧ LaneSet.has s.safety.presence[2].lanes 4 = false ∧
        (after (.presenceAssert 2) s).effScale 3 = 32768 ∧ (after (.presenceAssert 2) s).effScale 4 = 65536 ∧
        (after (.presenceAssert 2) s).safety.presence[2].asserted = true ∧
        (after (.presenceDeassert 2) (after (.presenceAssert 2) s)).effScale 3 = 65536) := by decide +kernel

/-- STOPPED for a drive fault of lane 4, whose drive has recovered. -/
def faulted : State :=
  let s := (stage.setLane 4 fun x => disableLane .driveFault x).setChannel 4 fun c => { c with latestCount := some 33 }
  s.setSafety { s.safety with stop := .stopped, drivePower := false, causes := [{ kind := .driveFault 4, f := 90, t := 3 }] }
def badDrive (s : State) : State := s.setChannel 4 fun c => { c with status := .fault }
/-- RELEASING, asked for by port 1, the window closing at 9,000 µs. -/
def releasing (s : State) : State :=
  s.setSafety { s.safety with stop := .releasing, release := some { asker := 1, closes := 9000 } }
def lineUp (s : State) : State := s.setSafety { s.safety with stopLine := true }
theorem witness_ReleaseWindow : Takes (rx 0) faulted ∧ (faulted.ports[0].role = some .motion ∧ faulted.safety.stop = .stopped ∧
      faulted.safety.stopLine = false ∧ ∀ l : Lane, faulted.driveFaultLane l = true → faulted.drives.channels[l].status = .ok) ∧
    faulted.driveFaultLane 4 = true ∧ (badDrive faulted).drives.channels[4].status ≠ .ok ∧
    (lineUp faulted).safety.stopLine = true ∧ (releasing faulted).safety.release = some { asker := 1, closes := 9000 } ∧
    (after (.releaseAsk (rx 0) (.fields ())) faulted).safety.release = some { asker := 0, closes := 10005000 } ∧
    after (.releaseAsk (rx 0) (.fields ())) (badDrive faulted) = refusal .wrongState 0 (badDrive faulted) ∧
    (after (.releaseWindowExpiry 9000) (releasing faulted)).safety.stop = .stopped ∧
    (after (.releaseWindowExpiry 8999) (releasing faulted)).safety.stop = .releasing ∧
    (faulted.safety.release = none ∧ after (.releaseWindowExpiry 9000) faulted = settle faulted) := by
  refine ⟨by unfold Takes; decide +kernel, ?_⟩
  decide +kernel
/-- With a moved lane 0 under the MOTION station and a zone that it breaches. -/
def returning : State :=
  releasing ((faulted.setGrant 0 fun _ => heldGrant).setZone 3 fun _ =>
    { record := some { keepOut with intervals := [{ lane := 0, low := -5, high := 5 }] }, predicting := false,
      breached := true, exiting := false })
theorem witness_ReleaseEntersRun : (Takes (rx 1) returning ∧ Takes (rx 2) returning) ∧
    (returning.ports[1].role = some .arm ∧ returning.ports[2].role = some .lens ∧
      returning.safety.release = some { asker := 1, closes := 9000 } ∧ returning.safety.stop = .releasing ∧
      returning.safety.stopLine = false) ∧
    (∀ l : Lane, returning.driveFaultLane l = true → returning.drives.channels[l].status = .ok) ∧
    (returning.lanes[9].present = false ∧ returning.lanes[0].condition = .active ∧ returning.safety.drivePower = false) ∧
    (returning.lanes[4].condition = .disabled .driveFault ∧ returning.drives.channels[4].latestCount = some 33) ∧
    (after .releasePulse returning).safety.stop = .run ∧ (after .releasePulse returning).lanes[4].p = 8448 ∧
    (after .releasePulse returning).safety.zones[3].exiting = true ∧
    ((after .releasePulse returning).grants[0].holder.map fun h => h.ctx.o) = some (-500) ∧
    (after (.releaseAgree (rx 2) (.fields ())) returning).safety.stop = .run ∧
    after (.releaseAgree (rx 1) (.fields ())) returning = refusal .wrongState 1 returning ∧
    ((lineUp returning).safety.stopLine = true ∧ (after .releasePulse (lineUp returning)).safety.stop = .stopped) ∧
    (faulted.safety.stop ≠ .releasing ∧ after .releasePulse faulted = faulted ∧
      after (.releaseAgree (rx 2) (.fields ())) faulted = refusal .wrongState 2 faulted) ∧
    (let s := badDrive returning
     (s.driveFaultLane 4 = true ∧ s.drives.channels[4].status ≠ .ok) ∧ (after .releasePulse s).safety.stop = .stopped ∧
       (after (.releaseAgree (rx 2) (.fields ())) s).safety.stop = .stopped ∧
       (after (.releaseAgree (rx 2) (.fields ())) s).ports[2].replies.map (fun x => x.outcome) = [.refused .wrongState]) := by
  refine ⟨by unfold Takes; decide +kernel, ?_⟩
  decide +kernel

/-! ### Parking and the rig record -/

def parked (fault : Bool) : State :=
  let s := stage.setDrives { stage.drives with parked := true }
  let t := s.setChannel 4 fun c => { c with status := if fault then .fault else .ok, latestCount := some 12 }
  t.setLanes (mapAll t.lanes fun _ x => if x.present then { x with condition := .parked, sEff := 65536 } else x)
def moving : State := stage.setLane 3 fun _ => laneAt 70 1
theorem witness_ParkAndUnpark : Takes (rx 0) stage ∧ Takes (rx 0) (parked true) ∧
    (stage.ports[0].role = some .motion ∧ stage.drives.parked = false ∧ stage.recorder.state = .idle ∧
      stage.play.state = .idle ∧ ∀ l : Lane, stage.lanes[l].present = true → stage.lanes[l].v = 0) ∧
    (moving.lanes[3].present = true ∧ moving.lanes[3].v ≠ 0) ∧ (parked true).drives.parked = true ∧
    (parked true).drives.channels[4].latestCount = some 12 ∧ (parked true).drives.channels[4].status = .fault ∧
    (∀ l : Lane, (parked false).lanes[l].present = true →
      (parked false).drives.channels[l].status ≠ .fault ∧ (parked false).drives.channels[l].missing ≠ 2) ∧
    (after (.park (rx 0) (.fields ())) held).grants[0] = Grant.reset ∧
    after (.park (rx 0) (.fields ())) moving = refusal .busy 0 moving ∧
    (after (.unpark (rx 0) (.fields ())) (parked true)).lanes[4].condition = .disabled .driveFault ∧
    (after (.unpark (rx 0) (.fields ())) (parked true)).safety.stop = .stopping ∧
    (after (.unpark (rx 0) (.fields ())) (parked false)).lanes[4].p = 3072 ∧
    (after (.unpark (rx 0) (.fields ())) (parked false)).lanes[4].sEff = 0 ∧
    ((parked false).safety.stop = .run ∧ (after (.unpark (rx 0) (.fields ())) (parked false)).safety.drivePower = true) ∧
    (let s := ((parked false).setChannel 4 fun c => { c with latestCount := none }).setLane 4 fun x => { x with p := 77, t := 9 }
     s.drives.channels[4].latestCount = none ∧ (after (.unpark (rx 0) (.fields ())) s).lanes[4].p = 77 ∧
       (after (.unpark (rx 0) (.fields ())) s).lanes[4].t = 77) ∧
    (after (.unpark (rx 0) (.fields ())) (inStop .stopped (parked false))).safety.drivePower = false ∧
    (after (.unpark (rx 0) (.fields ())) (inStop .stopping (parked false))).safety.unparkInRamp = true := by
  refine ⟨takes_stage.1, by unfold Takes; decide +kernel, ?_⟩
  decide +kernel

/-- The rig record open for writing, with the array busy. -/
def openRig : State := withOp (.erase 3) (stage.setRig { stage.rig with record := { stage.rig.record with frozen := false } })
def tighter : RigArgs := { bareRig with entries := [{ bareEntry with lane := 2, hardMax := some 5000, vmaxCeil := some 900 }] }
def freezing : State := openRig.setRig { openRig.rig with freezePending := true }
def noLanes : State := openRig.setRig { openRig.rig with record := { openRig.rig.record with presentSet := 0 } }
theorem witness_RigRecordRequests : TakesMotion (rx 0) openRig ∧ stage.rig.record.frozen = true ∧
    (freezing.rig.record.frozen = false ∧ freezing.rig.freezePending = true) ∧
    (openRig.rig.record.frozen = false ∧ openRig.rig.freezePending = false) ∧
    (entriesValid tighter.entries openRig.rig.record.lanes = true ∧
      LaneSet.inRange (tighter.presentSet.getD openRig.rig.record.presentSet) = true ∧
      tighter.identity.getD openRig.rig.record.identity < 4294967296) ∧
    (∀ l : Lane, rigBlocked (rigAdjust (clampDefaults (applyEntries tighter.entries openRig.rig.record.lanes)[l])
      openRig.lanes[l]) = false) ∧ openRig.mem.op.isSome = true ∧
    (∀ l : Lane, LaneSet.has noLanes.rig.record.presentSet l = false) ∧ LaneSet.has openRig.rig.record.presentSet 0 = true ∧
    (after (.rigWrite (rx 0) (.fields tighter)) openRig).lanes[2].softMax = 5000 ∧
    (after (.rigWrite (rx 0) (.fields tighter)) openRig).lanes[2].vmax = 900 ∧
    (let s := openRig.setLane 2 fun _ => laneAt 0 901; after (.rigWrite (rx 0) (.fields tighter)) s = refusal .busy 0 s) ∧
    (after (.rigFreeze (rx 0) (.fields ())) openRig).rig.freezePending = true ∧
    after (.rigFreeze (rx 0) (.fields ())) noLanes = refusal .wrongState 0 noLanes := by
  refine ⟨by unfold TakesMotion Takes; decide +kernel, ?_⟩
  decide +kernel
def overriding : RigEntry :=
  { bareEntry with
    hardMin := some 0, hardMax := some 9, vmaxCeil := some 5, aCeil := some 5, followCeil := some 5, defK := some 5 }
def widest : RigEntry :=
  { bareEntry with
    hardMin := some (-274877906944), hardMax := some 274877906944, vmaxCeil := some 16777216, aCeil := some 1048575 }
/-- R166: each entry is judged, one that a later entry of its lane overrides too; the limits of the ranges are in. -/
theorem test_rig_write_refuses_each_entry : (∀ e ∈ [{ bareEntry with lane := 12 },
      { bareEntry with hardMin := some (-274877906945) }, { bareEntry with hardMin := some 6, hardMax := some 5 },
      { bareEntry with vmaxCeil := some 16777217 }, { bareEntry with aCeil := some 0 }, { bareEntry with followCeil := some 1048577 },
      { bareEntry with defK := some 65537 }, { bareEntry with hardMin := some 200001 }],
    after (.rigWrite (rx 0) (.fields { bareRig with entries := [e, overriding] })) openRig = refusal .badValue 0 openRig) ∧
    (after (.rigWrite (rx 0) (.fields { bareRig with entries := [widest] })) openRig).rig.record.lanes[0].vmaxCeil =
        16777216 := by decide +kernel

/-! ### Take memory -/

def cueing : State := (pass .cueing 90 2).setPlay { (pass .cueing 90 2).play with fRoll := none, k := some 0 }
/-- A segment of the take of slot 4 whose resume sample is not yet found; the take has an implied resume or not. -/
def searchingSegment (implied : Bool) : State :=
  ((pass .deferred 90 2).setPlay { (pass .deferred 90 2).play with deferIndex := some 0, resumeIndex := none }).setSlot 4
    fun x => { x with header := some { takeHeader with impliedResume := implied } }
def fetch0 (left : Nat) : Fetch :=
  { port := 2, tag := 9, slot := 4, next := 0, left := left, samples := [], adjusted := false }
def fetching (left : Nat) : State :=
  let s := withOp (.read 4 0 (.fetch 2)) library
  s.setMem { s.mem with fetches := [fetch0 left] }
theorem witness_ReadCompletes : (library.takeSamples 4)[0]? = some (storeSample 0 Marks.none [10, 20]) ∧
    library.mem.slots[4].header = some takeHeader ∧
    ((withOp (.read 4 0 (.play 0)) cueing).mem.op = some (.read 4 0 (.play 0)) ∧ cueing.play.state ≠ .deferred ∧
      cueing.participates 0 = true ∧ cueing.participates 1 = false ∧ (LaneSet.members takeHeader.lanes)[0]? = some 0) ∧
    ((fetching 2).mem.op = some (.read 4 0 (.fetch 2)) ∧ (fetching 2).mem.fetches = [] ++ fetch0 2 :: [] ∧ 2 ≤ (fetch0 2).left) ∧
    ((fetch0 1).left = 1 ∧ (fetching 1).ports[2].link = .active) ∧
    ((after .arrayReadDone (withOp (.read 4 0 (.play 0)) cueing)).play.buffer.map fun x => x.pos[0]) = [some 10] ∧
    ((after .arrayReadDone (fetching 1)).ports[2].replies.map fun r => r.tag) = [9#16] ∧
    after .arrayReadDone (withOp (.read 4 0 .dropped) library) = library ∧
    (let s := withOp (.read 4 0 (.play 0)) (searchingSegment false)
     (s.play.state = .deferred ∧ s.play.resumeIndex = none ∧ s.playImplied = false) ∧
       (after .arrayReadDone s).play.buffer = [] ∧ (after .arrayReadDone s).play.nextRead = 1) ∧
    (let s := withOp (.read 4 1 (.play 1)) (searchingSegment true)
     (s.playImplied = true ∧ 1 + 1 = s.play.len) ∧ (after .arrayReadDone s).play.resumeIndex = some 1 ∧
       ((after .arrayReadDone s).play.buffer.map fun x => x.index) = [1]) := by decide +kernel

def newSample (o : Nat) : Sample := { offset := o, marks := Marks.none, pos := [1, 2] }
/-- A recording in slot 5, block 10, with two samples programmed, the queue as given, the PROGRAM under way. -/
def programming (x : RecState) (queue : List Sample) : State :=
  let s := withOp (.programSample 5 10) shelf
  s.setRecorder { s.recorder with state := x, slot := some 5, lanes := 3#16, composed := 2 + queue.length, queue := queue }
def staged (o : Nat) : StagedSample := { offset := o, marks := 0, pos := [7, 8] }
/-- An upload in slot 5, block 10, with a chunk of two samples being programmed. -/
def uploading (live : Bool) (n : Nat) : State :=
  let s := withOp (.chunkPart 5 10 0 n live) (shelf.setSlot 5 fun x => { x with state := .uploading })
  s.setBuffer 0 fun _ => { state := .programming, samples := [staged 2, staged 3], first := 2, last := none, part := none }
theorem witness_ProgramCompletes :
    ((programming .recording [newSample 2]).mem.op = some (.programSample 5 10) ∧
      (programming .recording [newSample 2]).recorder.queue = newSample 2 :: [] ∧
      (programming .recording [newSample 2]).recorder.state ≠ .draining) ∧
    ((programming .draining [newSample 2]).recorder.slot = some 5 ∧
      (programming .draining [newSample 2]).mem.slots[5].header = some takeHeader) ∧
    ((uploading true 1).mem.op = some (.chunkPart 5 10 0 1 true) ∧ 1 < (uploading true 1).mem.buffers[0].samples.length ∧
      (uploading true 1).mem.buffers[0].state = .programming ∧ (uploading true 1).recorder.slot ≠ some 5 ∧
      (uploading true 1).mem.blocks[10].state ≠ .free) ∧
    ((uploading true 2).mem.buffers[0].samples.length ≤ 2 ∧ (uploading true 2).mem.buffers[0].samples ≠ []) ∧
    (uploading false 1).mem.op = some (.chunkPart 5 10 0 1 false) ∧
    (after (.programSampleDone true) (programming .recording [newSample 2])).mem.slots[5].length = 3 ∧
    (after (.programSampleDone true) (programming .draining [newSample 2])).mem.slots[5].state = .complete ∧
    (after (.programSampleDone false) (programming .recording [newSample 2])).mem.programFail = true ∧
    (after (.programSampleDone false) (programming .recording [newSample 2])).mem.blocks[10].state = .used 5 0 true ∧
    (after (.chunkPartDone true) (uploading true 2)).mem.buffers[0].state = .empty ∧
    (after (.chunkPartDone true) (uploading true 2)).mem.slots[5].length = 4 ∧
    (after (.chunkPartDone true) (uploading true 1)).mem.buffers[0].samples = [staged 3] ∧
    ((uploading true 1).uploadSlot = some 5 ∧ (uploading true 1).mem.slots[5].header.isSome = true ∧
      (uploading true 1).recorder.queue = [] ∧ (uploading true 1).mem.blocks[0].state = .free) ∧
    (after (.chunkPartDone false) (uploading false 1)).mem.blocks[10].state = .bad ∧
    ((after (.chunkPartDone false) (uploading true 1)).mem.buffers[0].part = some 1 ∧
      (after (.chunkPartDone false) (uploading true 1)).mem.op = some (.chunkPart 5 0 0 1 true)) ∧
    (after (.chunkPartDone true) (uploading false 1)).mem.stored.blocks[10] =
      (uploading false 1).mem.blocks[10].state := by decide +kernel

def erasing (o : ArrayOp) : State := withOp o (library.setBlock 3 fun b => { b with state := .erasing false })
/-- A freeze write and a profile write in progress, the same content waiting again or not. -/
def freezeWrite (q : List Reserved) : State :=
  let s := withOp (.reserved (.rig { openRig.rig.record with frozen := true })) freezing
  s.setMem { s.mem with reservedQueue := q }
def profileWrite (q : List Reserved) : State :=
  let s := withOp (.reserved (.profile 2 bareProfile)) stage
  s.setMem { s.mem with reservedQueue := q }
theorem witness_FailedReservedWrites :
    ((freezeWrite []).rig.freezePending = true ∧ (freezeWrite []).ports[0].link = .active ∧
      (freezeWrite []).ports[0].role = some .motion) ∧
    ((after (.reservedWriteDone false) (freezeWrite [])).rig.freezePending = false ∧
      (after (.reservedWriteDone false) (freezeWrite [])).rig.record.frozen = false ∧
      (after (.reservedWriteDone false) (freezeWrite [])).rig.store = .failed ∧
      (after (.reservedWriteDone false) (freezeWrite [])).mem.programFail = true ∧
      ((after (.reservedWriteDone false) (freezeWrite [])).ports[0].events.map fun e => e.body) = [.rigFrozen false]) ∧
    ((after (.reservedWriteDone true) (freezeWrite [])).rig.store = .stored ∧
      (after (.reservedWriteDone true) (freezeWrite [.rig])).rig.store = .writing) ∧
    ((after (.reservedWriteDone false) (profileWrite [])).lens.slots[2].store = .failed ∧
      (after (.reservedWriteDone true) (profileWrite [.dir 3, .profile 2])).lens.slots[2].store = .writeWaiting ∧
      (after (.reservedWriteDone false) (profileWrite [.profile 2])).lens.slots[2].store = .writing) := by decide +kernel
theorem witness_EraseAndReservedWriteComplete : (erasing (.erase 3)).mem.op = some (.erase 3) ∧
    (erasing (.suspend 3)).mem.op = some (.suspend 3) ∧
    (erasing (.resume 3 false)).mem.op = some (.resume 3 false) ∧
    (after (.eraseDone true) (erasing (.erase 3))).mem.blocks[3] = { state := .free, data := [] } ∧
    (after (.eraseSuspendDone (.finished false)) (erasing (.suspend 3))).mem.blocks[3].state = .bad ∧
    ((erasing (.erase 3)).ports[0].link = .active ∧ (erasing (.erase 3)).ports[0].role = some .motion ∧
      ((after (.eraseDone false) (erasing (.erase 3))).ports[0].events.any fun e => e.body = .blockBad 3) = true) ∧
    (after (.eraseSuspendDone .unfinished) ((erasing (.suspend 3)).setRecorder
      { stage.recorder with state := .armed })).mem.blocks[3].state = .erasing true ∧
    (after .eraseResumeDone (erasing (.resume 3 false))).mem.op = some (.erase 3) ∧
    (after .eraseResumeDone (erasing (.resume 3 true))).mem.op = some (.suspend 3) ∧
    (after (.reservedWriteDone true) (withOp (.reserved (.profile 2 bareProfile)) stage)).mem.stored.profiles[2] = some bareProfile ∧
    Reserved.profile 2 ∉ stage.mem.reservedQueue ∧
    (after (.reservedWriteDone true) (withOp (.reserved (.rig { openRig.rig.record with frozen := true })) freezing)).rig.record.frozen =
      true ∧
    (after (.reservedWriteDone true) (withOp (.reserved (.dir 4 { state := .complete, header := some takeHeader } [])) stage)
      ).mem.stored.slots[4].state = .complete ∧
    (after (.reservedWriteDone true) (withOp (.reserved (.dir 4 { state := .empty, header := none } [(7, .dirty), (9, .bad)])) stage)
      ).mem.stored.blocks[9] = .bad ∧
    (after (.reservedWriteDone false) (withOp (.reserved (.dir 4 { state := .complete, header := some takeHeader } [])) stage)
      ).mem.programFail = true := by decide +kernel

def idleArray (s : State) : State := s.setMem { s.mem with op := none }
def buffered (n : Nat) : BufSample := { index := n, marks := Marks.none, pos := Vector.replicate 12 none }
/-- A pass that reads and a recording with four samples waiting. -/
def both (n : Nat) : State :=
  let s := idleArray (programming .recording ((List.range 4).map fun i => newSample (2 + i)))
  s.setPlay { (pass .rolling 90 400).play with buffer := (List.range n).map fun i => buffered (10 + i), nextRead := 10 + n }
theorem witness_SchedulerOrder : ((both 3).starting = false ∧ (both 3).mem.op = none ∧ (both 3).playWantsRead = true ∧
      (both 3).play.buffer.length < 4 ∧ (both 3).play.slot = some 4 ∧ (schedule (both 3)).mem.op = some (.read 4 13 (.play 13))) ∧
    ((both 4).playWantsRead = true ∧ 4 ≤ (both 4).play.buffer.length ∧ 4 ≤ (both 4).recorder.queue.length ∧
      (both 4).recorder.slot = some 5 ∧ (both 4).lastRoom 5 = some (10, 21842 + 1) ∧
      (schedule (both 4)).mem.op = some (.programSample 5 10)) ∧
    (stage.playWantsRead = false ∧ stage.recorder.queue.length = 0 ∧ stage.mem.reservedQueue = [] ∧ stage.uploadSlot = none ∧
      stage.nextFetch = none ∧ stage.recActive = false ∧ stage.playActive = false ∧ stage.suspendedErase = none ∧
      stage.lowestDirty = none ∧ schedule stage = stage) ∧
    (let s := stage.setMem { stage.mem with reservedQueue := [.profile 2, .dir 4] };
      (schedule s).mem.op = some (.reserved (.profile 2 Profile.empty))) ∧
    (let s := stage.setMem { stage.mem with reservedQueue := [.dir 4] };
      (schedule s).mem.reservedQueue = [] ∧ (schedule s).mem.op.isSome = true) ∧
    (let s := freezing.setMem { freezing.mem with op := none, reservedQueue := [.rig] };
      (schedule s).mem.op = some (.reserved (.rig { freezing.rig.record with frozen := true })) ∧
        (schedule s).rig.store = .writing) ∧
    (let s := (idleArray (uploading true 1)).setBuffer 0 fun b => { b with part := some 1 };
      (schedule s).mem.op = some (.chunkPart 5 10 0 1 true)) ∧
    (let s := (idleArray (uploading true 1)).setBuffer 0 fun b => { b with state := .queued 0 };
      s.uploadSlot = some 5 ∧ s.chunkBuffer = some 0 ∧ s.lastRoom 5 = some (10, 21842 + 1) ∧
        (schedule s).mem.op = some (.chunkPart 5 10 0 2 true)) ∧
    ((idleArray (fetching 2)).nextFetch = some (fetch0 2) ∧
      (schedule (idleArray (fetching 2))).mem.op = some (.read 4 0 (.fetch 2))) ∧
    ((stage.setBlock 3 fun b => { b with state := .erasing true }).suspendedErase = some 3 ∧
      (schedule (stage.setBlock 3 fun b => { b with state := .erasing true })).mem.op = some (.resume 3 false)) ∧
    ((stage.setBlock 63 fun b => { b with state := .dirty }).lowestDirty = some 63 ∧
      (schedule (stage.setBlock 63 fun b => { b with state := .dirty })).mem.op = some (.erase 63)) ∧
    (let s := (stage.setBlock 63 fun b => { b with state := .dirty }).setRecorder { stage.recorder with state := .armed };
      s.recActive = true ∧ schedule s = s) ∧ State.reset.starting = true := by decide +kernel

/-- Block 10, the last of slot 5, retire-marked: the next PROGRAM of its take needs another block. -/
def needsBlock (s : State) : State := s.setBlock 10 fun b => { b with state := b.state.retire }
/-- The same with no block FREE. -/
def crammed (s : State) : State := needsBlock (s.setMem { s.mem with
  blocks := mapAll s.mem.blocks fun _ b => if b.state = .free then { b with state := .bad } else b })
def lowestFreeIs (c : BlockNo) (s : State) : Prop :=
  s.mem.blocks[c].state = .free ∧ ∀ d : BlockNo, d < c → s.mem.blocks[d].state ≠ .free
def cramUpload : State :=
  let s := crammed (idleArray (uploading true 1))
  s.setBuffer 1 fun b => { b with state := .queued 0, samples := [], first := 40, last := none }
theorem witness_BlockIsAllocated : ((both 4).recorder.slot = some 5 ∧ (needsBlock (both 4)).lastRoom 5 = none) ∧
    lowestFreeIs 0 (needsBlock (both 4)) ∧ (needsBlock (both 4)).mem.slots[5].header.isSome = true ∧
    (schedule (needsBlock (both 4))).mem.op = some (.programSample 5 0) ∧
    (let s := needsBlock (idleArray (uploading true 1));
      s.uploadSlot = some 5 ∧ s.chunkBuffer = some 0 ∧ s.lastRoom 5 = none ∧ lowestFreeIs 0 s ∧
        (schedule s).mem.op.isSome = true ∧ (schedule s).mem.slots[5].blocks = [10, 0]) := by
  unfold lowestFreeIs
  decide +kernel
theorem witness_NoRoom : ((crammed (both 4)).lastRoom 5 = none ∧ (∀ c : BlockNo, (crammed (both 4)).mem.blocks[c].state ≠ .free) ∧
      (crammed (both 4)).recorder.state = .recording ∧ (crammed (both 4)).playWantsRead = true ∧
      (schedule (crammed (both 4))).mem.slots[5].state = .complete ∧
      ((schedule (crammed (both 4))).mem.slots[5].header.map fun h => h.interrupted) = some true ∧
      (schedule (crammed (both 4))).mem.op = some (.read 4 14 (.play 14))) ∧
    (cramUpload.uploadSlot = some 5 ∧ cramUpload.chunkBuffer = some 0 ∧ cramUpload.lastRoom 5 = none ∧
      (∀ c : BlockNo, cramUpload.mem.blocks[c].state ≠ .free) ∧ cramUpload.ports[0].role = some .motion ∧
      (schedule cramUpload).mem.buffers[0].state = .empty ∧ (schedule cramUpload).mem.buffers[1].state = .empty ∧
      ((schedule cramUpload).ports[0].events.map fun e => e.body).contains (.chunkDone true 40 none) = true) := by
  decide +kernel

/-! ### The station links -/

def offer3 (role : Role) (n : Nat) : State :=
  stage.setPort 3 fun q => { q with link := .offer, deadline := some 9000, nextOffer := some 8000, abilityRole := some role, abilityCount := n }
def ack3 (role : Role) : State :=
  stage.setPort 3 fun q => { q with link := .acknowledge, deadline := some 9000, nextOffer := some 8000, role := some role, abilityCount := 3 }
def failed3 : State := stage.setPort 3 fun q => { q with link := .failed, failedSince := some 9000 }
def wants (r : Role) (ack : Bool) : Instr := .ability (rx 3) (.fields { wanted := r, ack := ack })
def offerMade : Offer := { presentSet := stage.presentLanes, motionFree := stage.motionFree, ack := false, granted := none }
theorem witness_LinkNegotiation : (stage.starting = false ∧ stage.ports[3].link = .down ∧ stage.ports[0].link ≠ .down ∧
      State.reset.starting = true) ∧
    (failed3.ports[3].link = .failed ∧ failed3.ports[3].failedSince = some 9000 ∧ 9000 + 1000000 ≤ 1009000) ∧
    ((offer3 .lens 2).ports[3].deadline = some 9000 ∧ (offer3 .lens 2).ports[3].link = .offer ∧ 9000 ≤ 9000) ∧
    ((ack3 .lens).ports[3].link = .acknowledge ∧ (ack3 .lens).ports[3].role = some .lens) ∧
    (after (.idleFill 3 5000) stage).ports[3].link = .offer ∧ (after (.idleFill 3 5000) stage).ports[3].offer = some offerMade ∧
    (after (.failedTimeout 3 1009000 true) failed3).ports[3].deadline = some 2009000 ∧
    (after (.failedTimeout 3 1009000 false) failed3).ports[3].link = .down ∧
    (after (.negotiationDeadline 3 9000) (offer3 .lens 2)).ports[3].link = .failed ∧
    (let due := fun (t : Nat) => Instr.abilityOffer { port := 3, time := t };
      (after (due 8000) (ack3 .lens)).ports[3].offer = some { offerMade with ack := true, granted := some .lens } ∧
      (after (due 8000) (ack3 .lens)).ports[3].nextOffer = some 18000 ∧ after (due 7999) (ack3 .lens) = ack3 .lens ∧
      (after (due 8000) (offer3 .lens 2)).ports[3].offer = some offerMade ∧ after (due 8000) stage = stage ∧
      (after (wants .lens false) (offer3 .lens 2)).ports[3].nextOffer = some ((rx 3).time + 10000) ∧
      (after (wants .lens true) (ack3 .lens)).ports[3].nextOffer = none) ∧
    (after (.discardedFrame 0) stage).ports[0].checkError = true ∧ after (.discardedFrame 3) stage = stage ∧
    (after (wants .lens false) (offer3 .arm 2)).ports[3].abilityCount = 1 ∧
    (after (wants .lens false) (offer3 .lens 1)).ports[3].link = .offer ∧
    (after (wants .lens false) (offer3 .lens 2)).ports[3].role = some .lens ∧
    (stage.motionFree = false ∧ (after (wants .motion false) (offer3 .motion 2)).ports[3].role = some .observer) ∧
    (after (wants .lens true) (ack3 .lens)).ports[3].level = some 3 ∧
    (after (wants .arm true) (ack3 .lens)).ports[3].link = .offer ∧
    (after (.ability (rx 3) .malformed) (ack3 .lens)).ports[3].link = .offer ∧
    ((after (.ability (rx 3) .malformed) (offer3 .lens 2)).ports[3].abilityCount = 0 ∧
      (after (wants .lens true) (offer3 .lens 2)).ports[3].abilityCount = 0 ∧
      (after (wants .lens true) (offer3 .lens 2)).ports[3].link = .offer) := by decide +kernel

def silentAt (p : Port) (s : State) : State := s.setPort p fun q => { q with lastValid := some 1000 }
def leaveReply : Reply := { Answer.done.reply 4 .leave with framesSent := 0 }
def leavingNow : State :=
  held.setPort 0 fun q => { q with leaving := true, sending := some .reply, replies := [leaveReply] }
theorem witness_LinkLossClearsTheStation :
    ((silentAt 0 held).ports[0].link = .active ∧ (silentAt 0 held).ports[0].leaving = false ∧
      (silentAt 0 held).ports[0].lastValid = some 1000 ∧ 1000 + 100000 ≤ 101000 ∧ held.ports[0].role = some .motion) ∧
    (leavingNow.ports[0].sending = some .reply ∧ leavingNow.ports[0].replies = leaveReply :: [] ∧ leaveReply.kind = .leave ∧
      replyFrameCount leaveReply ≤ leaveReply.framesSent + 1) ∧
    ((silentAt 1 returning).safety.release = some { asker := 1, closes := 9000 } ∧ (1 : Port) = 1 ∧
      stage.safety.release = none ∧ (silentAt 1 returning).ports[1].role ≠ some .motion) ∧
    ((shelf.setSlot 5 fun x => { x with state := .uploading }).uploadSlot = some 5 ∧ shelf.recorder.slot ≠ some 5) ∧
    (after (.linkSilence 0 101000) (silentAt 0 held)).ports[0].link = .down ∧
    (after (.linkSilence 0 100999) (silentAt 0 held)).ports[0].link = .active ∧
    ((after (.linkSilence 0 101000) (silentAt 0 held)).grants[0].holder.map fun h => h.who) = some (.station 1) ∧
    (after (.leaveReplySent 0) leavingNow).ports[0].linkLost = true ∧
    (after (.linkSilence 1 101000) (silentAt 1 returning)).safety.stop = .stopped ∧
    (after (.linkSilence 0 101000) (silentAt 0 (shelf.setSlot 5 fun x => { x with state := .uploading }))).mem.slots[5].state =
      .empty ∧
    (after (.linkSilence 0 101000) (silentAt 0 (pass .rolling 90 400))).play.state = .idle ∧
    (after (.linkSilence 2 101000) (silentAt 2 (fetching 2))).mem.fetches = [] := by decide +kernel

/-! ### Requests -/

theorem witness_PlainRequests : Takes (rx 0) stage ∧ stage.ports[(rx 0).port].role = some .motion ∧
    TableName.lanes ≠ .stations ∧ (after (.leave (rx 0) (.fields ())) stage).ports[0].leaving = true ∧
    after (.unknownRequest (rx 0)) stage = refusal .unknown 0 stage ∧
    (after (.query (rx 0) (.fields .stations)) (after (.discardedFrame 0) stage)).ports[0].checkError = false ∧
    (after (.takeStatusClear (rx 0) (.fields ())) (stage.setMem { stage.mem with eraseFail := true })).mem.eraseFail = false :=
  ⟨takes_stage.1, rfl, by decide, by decide +kernel⟩

def acquire (p : Port) (l : Lane) : Instr := .acquire (rx p) (.fields (1#16 <<< l.val))
def yields (p : Port) (l : Lane) : Instr := .yield (rx p) (.fields (1#16 <<< l.val))
def holders (s : State) (l : Lane) : Option Holder := s.grants[l].holder.map fun h => h.who
/-- Lane 7 held by the LENS station, with the MOTION station nowhere; lane 8 without a stack, an equal waiting. -/
def lensHeld : State :=
  (held.setGrant 7 fun _ => { Grant.reset with holder := some { stationHold 2 (abs 5) with level := 3 } }).setGrant 8 fun _ =>
    { holder := some (stationHold 0 (abs 5)), stack := [], waiting := [{ port := 2, level := 3, arrival := 4 }] }
theorem takes_lensHeld : Takes (rx 0) lensHeld ∧ Takes (rx 1) lensHeld ∧ Takes (rx 2) lensHeld := by
  unfold Takes; decide +kernel
theorem witness_AcquireAndYieldOneLane : (Takes (rx 0) lensHeld ∧ Takes (rx 1) lensHeld ∧ Takes (rx 2) lensHeld) ∧
    (lensHeld.ports[0].role = some .motion ∧ lensHeld.ports[0].level = some 2 ∧ lensHeld.ports[1].role = some .arm ∧
      lensHeld.ports[1].level = some 3 ∧ lensHeld.ports[2].level = some 3) ∧
    lensHeld.lanes[9].present = false ∧ (parked false).lanes[0].condition = .parked ∧
    lensHeld.grants[0] = heldGrant ∧ lensHeld.grants[1] = Grant.reset ∧
    (2 < lensHeld.grants[7].level ∧ lensHeld.grants[8].level ≤ 3 ∧ lensHeld.grants[1].level > 2) ∧
    after (acquire 1 7) lensHeld = replied (rx 1) { Answer.done with results := [(7, .noRight)] } (noteValid (rx 1) lensHeld) ∧
    after (acquire 0 0) lensHeld = replied (rx 0) { Answer.done with results := [(0, .holding)] } (noteValid (rx 0) lensHeld) ∧
    (after (acquire 0 7) lensHeld).grants[7].stack = [{ port := 2, level := 3, ctx := abs 5 }] ∧
    (after (acquire 0 1) lensHeld).grants[1].holder = some (stationHold 0 Context.fresh) ∧
    (after (acquire 1 1) (after (acquire 0 1) lensHeld)).grants[1].waiting = [{ port := 1, level := 3, arrival := 0 }] ∧
    holders (after (yields 0 0) lensHeld) 0 = some (.station 1) ∧ holders (after (yields 0 8) lensHeld) 8 = some (.station 2) ∧
    (after (yields 1 0) lensHeld).grants[0].stack = [] ∧ (after (yields 2 7) lensHeld).grants[7] = Grant.reset ∧
    after (yields 1 1) lensHeld = replied (rx 1) { Answer.done with results := [(1, .notHeld)] } (noteValid (rx 1) lensHeld) ∧
    (after (.acquire (rx 0) (.fields 0)) lensHeld = refusal .badValue 0 lensHeld ∧
      after (.yield (rx 0) (.fields 0)) lensHeld = refusal .badValue 0 lensHeld) ∧
    (let t := after (.acquire (rx 1) (.fields 0x1003#16)) (after (.acquire (rx 0) (.fields 2#16)) lensHeld)
     ((t.ports[1].replies.map fun x => x.results) = [[(0, .suspended), (1, .pending), (12, .badValue)]] ∧ t.nextArrival = 1)) :=
  ⟨takes_lensHeld, by decide +kernel⟩

def demands (p : Port) (l : Nat) (k : DemandKind) (v : Int) : Instr :=
  .demand (rx p) (.fields [{ lane := l, kind := k, value := v }])
def ctxAt (s : State) (l : Lane) : Option Context := s.grants[l].holder.map fun h => h.ctx
/-- Lane 6 at 52,400 under the LENS station with the focus table of section 4.8 active. -/
def pulling : State :=
  let s := (held.setLane 6 fun _ => laneAt 52400 0).setGrant 6 fun _ =>
    { Grant.reset with holder := some { stationHold 2 (abs 52400) with level := 3 } }
  s.setLens { slots := (s.lens.slots.set 1 { profile := { bareProfile with tag := 0xA31, focus := some focusTable }, store := .stored }),
              active := some 1 }
/-- Section 4.8: events 1, 2 and 4. -/
theorem test_lens_context : ctxAt (after (demands 2 6 .lens 1500) pulling) 6 =
      some { kind := .lens, d := some 1500, o := 400, trim := 65536 } ∧
    ctxAt (after (demands 2 6 .lens 2000) (after (demands 2 6 .lens 1500) pulling)) 6 =
      some { kind := .lens, d := some 2000, o := 400, trim := 65536 } ∧
    pulling.lensValue 6 = some 1516 ∧ pulling.mapInUse = false ∧ (after (demands 2 6 .lens 1500) pulling).mapInUse = true := by
  decide +kernel
theorem witness_DemandAndTrimEntries : (Takes (rx 0) pulling ∧ Takes (rx 1) pulling ∧ Takes (rx 2) pulling) ∧
    (pulling.lanes[9].present = false ∧ pulling.lanes[0].present = true ∧ pulling.lens.table 0 = none ∧
      pulling.grants[1].holder = none ∧ pulling.lens.table 6 = some focusTable) ∧
    (pulling.grants[0].heldBy 1 = false ∧ pulling.grants[0].stacks 1 = true ∧ pulling.grants[0].heldByPlayback = false ∧
      pulling.grants[0].heldBy 2 = false ∧ pulling.grants[0].stacks 2 = false) ∧
    ((pass .deferred 90 400).grants[0].holder = some playHold ∧ (pass .deferred 90 400).ports[0].role = some .motion ∧
      (pass .deferred 90 400).play.state = .deferred ∧ (pass .deferred 90 400).participates 0 = true) ∧
    ctxAt (after (demands 0 0 .abs 274877906945) pulling) 0 = some { abs 274877906944 with o := 0 } ∧
    ctxAt (after (demands 0 0 .step (-7)) pulling) 0 = some { kind := .step, d := some (-7), o := 0, trim := 65536 } ∧
    ctxAt (after (demands 0 0 .step 10) (after (demands 0 0 .step (-7)) pulling)) 0 =
      some { kind := .step, d := some 3, o := 0, trim := 65536 } ∧
    ctxAt (after (demands 2 6 .lens 1000001) (after (demands 2 6 .lens 1500) pulling)) 6 =
      some { kind := .lens, d := some 1000000, o := 400, trim := 65536 } ∧
    ctxAt (after (demands 0 0 .abs 44) (pass .deferred 90 400)) 0 = some { abs 44 with o := -44 } ∧
    ((after (.trim (rx 1) (.fields [{ lane := 0, scale := 65537 }])) pulling).grants[0].stack.map fun e => e.ctx.trim) =
      [65536] ∧
    ctxAt (after (.trim (rx 0) (.fields [{ lane := 0, scale := 7 }])) pulling) 0 = some { abs 500 with trim := 7 } ∧
    (pulling.grants[6].holder.map (fun h => h.who) = some (.station 2) ∧
      after (demands 0 6 .lens 1500) pulling = replied (rx 0) { Answer.done with ignored := 1 } (noteValid (rx 0) pulling) ∧
      after (demands 0 6 .lens (-1)) pulling =
        replied (rx 0) { Answer.done with ignored := 1, adjusted := true } (noteValid (rx 0) pulling) ∧
      after (.trim (rx 2) (.fields [{ lane := 0, scale := 65537 }])) pulling =
        replied (rx 2) { Answer.done with ignored := 1, adjusted := true } (noteValid (rx 2) pulling)) := by
  refine ⟨by unfold Takes; decide +kernel, ?_⟩
  decide +kernel

def limits (l : Nat) (lo hi : Int) : Instr := .limitsSet (rx 0) (.fields { lane := l, min := lo, max := hi })
theorem takesMotion_moving : TakesMotion (rx 0) moving := by unfold TakesMotion Takes; decide +kernel
theorem witness_ShapeLimitsAndTimebase : TakesMotion (rx 0) moving ∧
    (moving.lanes[3].present = true ∧ moving.lanes[3].p = 70 ∧ moving.lanes[3].v ≠ 0 ∧ moving.namedLane 9 = none ∧
      moving.namedLane 200 = none) ∧
    ((moving.setLane 3 fun _ => laneAt 70 2001).lanes[3].v.natAbs > 2000) ∧
    after (.shapeSet (rx 0) (.fields { bareShape with lane := 3, vmax := some 1999 })) (moving.setLane 3 fun _ => laneAt 70 2000) =
      refusal .busy 0 (moving.setLane 3 fun _ => laneAt 70 2000) ∧
    (after (.shapeSet (rx 0) (.fields { bareShape with lane := 3, vmax := some 9999 })) moving).lanes[3].vmax = 2000 ∧
    (after (.shapeSet (rx 0) (.fields { bareShape with lane := 3, a := some 150 })) moving).lanes[3].astop = 150 ∧
    after (limits 3 71 90) moving = refusal .busy 0 moving ∧ (after (limits 3 70 90) moving).lanes[3].softMin = 70 ∧
    (after (limits 2 5 999999) moving).lanes[2].softMax = 200000 ∧ after (limits 3 6 5) moving = refusal .badValue 0 moving ∧
    after (limits 9 5 6) moving = refusal .badValue 0 moving ∧ (moving.recorder.state = .idle ∧ moving.play.state = .idle) ∧
    (after (.timebaseSet (rx 0) (.fields { mode := none, n := some 65, period := none })) moving).tb.pendingSettings =
      some { mode := none, n := some 64, period := none } ∧
    (pass .cueing 90 2).play.state ≠ .idle ∧
    ((after (.shapeSet (rx 0) (.fields { bareShape with lane := 3, vmax := some 2000 })) moving).ports[0].replies.map
        fun x => x.adjusted) = [false] ∧
    ((after (.shapeSet (rx 0) (.fields { bareShape with lane := 3, vmax := some 2001 })) moving).ports[0].replies.map
        fun x => x.adjusted) = [true] := by
  refine ⟨takesMotion_moving, ?_⟩
  decide +kernel

def zoneHere : ZoneRecord := { keepOut with intervals := [{ lane := 1, low := -274877906944, high := 0 }] }
theorem witness_ZonesAndPresence : TakesMotion (rx 0) stage ∧
    (1 ≤ zoneHere.intervals.length ∧ zoneHere.intervals.length ≤ 12 ∧ (zoneHere.intervals.map fun i => i.lane).Nodup ∧
      ∀ i ∈ zoneHere.intervals, (stage.namedLane i.lane).isSome = true ∧ i.low ≤ i.high ∧ -274877906944 ≤ i.low ∧
        i.low ≤ 274877906944 ∧ -274877906944 ≤ i.high ∧ i.high ≤ 274877906944) ∧
    (zoneHere.enabled = true ∧ zoneHere.kind = .keepOut ∧ zoneContains stage.motion zoneHere = true ∧
      stage.safety.zones[15].exiting = false) ∧
    zoneContains (stage.setLane 1 fun _ => laneAt 1 0).motion zoneHere = false ∧
    (after (.zoneSet (rx 0) (.fields { entry := 15, record := zoneHere })) stage).safety.stop = .stopping ∧
    (after (.zoneSet (rx 0) (.fields { entry := 15, record := { zoneHere with enabled := false } })) stage).safety.stop = .run ∧
    after (.zoneSet (rx 0) (.fields { entry := 16, record := zoneHere })) stage = refusal .badValue 0 stage ∧
    after (.zoneSet (rx 0) (.fields (zoneArgs 0 0 9 0))) stage = refusal .badValue 0 stage ∧
    after (.zoneDrop (rx 0) (.fields 16)) stage = refusal .badValue 0 stage ∧
    (∀ is ∈ [[], List.replicate 13 { lane := 1, low := 0, high := 0 }, [{ lane := 1, low := 0, high := 0 }, { lane := 1, low := 1, high := 1 }],
        [{ lane := 1, low := 1, high := 0 }], [{ lane := 1, low := 0, high := 274877906945 }]],
      after (.zoneSet (rx 0) (.fields { entry := 0, record := { zoneHere with intervals := is } })) stage = refusal .badValue 0 stage) ∧
    (after (.zoneDrop (rx 0) (.fields 0)) (approach 0)).safety.zones[0].record = none ∧
    (∀ j : Fin 16, (0x1FF#16).getLsbD j = true → (stage.namedLane j).isSome = true) ∧
    ((0x200#16).getLsbD 9 = true ∧ stage.namedLane 9 = none) ∧
    (after (.presenceSet (rx 0) (.fields { line := 3, lanes := 0x1FF#16, scale := 65537 })) stage).safety.presence[3].scale =
      65536 ∧
    after (.presenceSet (rx 0) (.fields { line := 4, lanes := 0, scale := 0 })) stage = refusal .badValue 0 stage := by
  refine ⟨takesMotion_stage, ?_⟩
  decide +kernel

def loads (k : Nat) (p : Profile) : Instr := .profileLoad (rx 2) (.fields { slot := k, profile := p })
def selects (k : Option Nat) : Instr := .profileSelect (rx 2) (.fields k)
def busyMap : State :=
  let s := after (demands 2 6 .lens 1500) pulling
  s.setLens { s.lens with slots := s.lens.slots.set 2 { profile := bareProfile, store := .stored } }
theorem witness_LensMapsAndProfiles : (tableValid focusTable = true ∧ tableValid irisTable = true) ∧
    irisTable = [⟨140, 90000⟩] ++ ⟨280, 55000⟩ :: ⟨560, 20000⟩ :: [⟨1100, 0⟩] ∧
    (reverseMap irisTable 90001 = 140 ∧ reverseMap irisTable 90000 = 140 ∧ reverseMap irisTable (-1) = 1100 ∧
      reverseMap irisTable 0 = 1100) ∧
    (Takes (rx 2) pulling ∧ Takes (rx 2) (withOp (.erase 3) pulling)) ∧ pulling.ports[2].role = some .lens ∧
    (profileValid { bareProfile with name := [0x07#8] } = false ∧ profileValid { bareProfile with iris := some irisTable } = true ∧
      profileValid Profile.empty = true) ∧
    (bareProfile.tag ≠ 0 ∧ pulling.lens.slots[1].profile.tag = 0xA31 ∧ pulling.lens.slots[0].profile.tag = 0 ∧
      pulling.lens.active = some 1 ∧ pulling.mapInUse = false ∧ busyMap.mapInUse = true ∧ busyMap.lens.active = some 1) ∧
    (withOp (.erase 3) pulling).lens.slots[1].store ≠ .writing ∧
    after (loads 0 { bareProfile with tag := 0xA31, iris := some irisTable }) pulling = refusal .badValue 2 pulling ∧
    (after (loads 1 Profile.empty) (withOp (.erase 3) pulling)).lens.active = none ∧
    (after (loads 1 Profile.empty) (withOp (.erase 3) pulling)).mem.reservedQueue = [.profile 1] ∧
    (busyMap.lens.slots[2].profile.tag ≠ 0 ∧ after (selects (some 2)) busyMap = refusal .busy 2 busyMap) ∧
    after (selects (some 4)) pulling = refusal .badValue 2 pulling ∧ after (selects (some 0)) pulling = refusal .badValue 2 pulling ∧
    (after (selects none) pulling).lens.active = none ∧
    (after (selects (some 1)) (after (selects none) pulling)).lens.active = some 1 ∧
    (busyMap.lens.active ≠ none ∧ after (selects none) busyMap = refusal .busy 2 busyMap ∧
      (after (selects (some 1)) busyMap).lens.active = some 1 ∧ after (loads 4 bareProfile) pulling = refusal .badValue 2 pulling) ∧
    (let s := (pulling.setMem { pulling.mem with op := some (.erase 3), reservedQueue := [.profile 0] }).setLens
        { pulling.lens with slots := pulling.lens.slots.set 0 { profile := Profile.empty, store := .writing } }
     after (loads 0 Profile.empty) s = refusal .busy 2 s) := by
  refine ⟨by decide, by decide, by decide, by unfold Takes; decide +kernel, ?_⟩
  decide +kernel

/-! ### Requests: recording, playback, takes -/

def records (a : RecordArgs) : Instr := .record (rx 0) (.fields a)
def toSlot6 : RecordArgs := { slot := 6, lanes := 3#16, name := [0x41#8], start := some 101 }
def recording (f : Recorder → Recorder) : State :=
  stage.setRecorder (f { stage.recorder with state := .recording, slot := some 6, lanes := 3#16, fStart := some 90, composed := 7 })
def withMarks (m : Marks) : State := recording fun r => { r with marks := m }
def marks (k : MarkKind) : Instr := .mark (rx 0) (.fields k)
def armed6 : State := after (records toSlot6) stage
theorem witness_RecorderRequests : (TakesMotion (rx 0) stage ∧ TakesMotion (rx 0) openRig ∧ TakesMotion (rx 0) (recording id)) ∧
    (stage.recordValid toSlot6 = true ∧ stage.rig.record.frozen = true ∧ openRig.rig.record.frozen = false ∧
      stage.mem.slots[6].state = .empty ∧ library.mem.slots[4].state ≠ .empty ∧
      (searching.tb.mode = .referenced ∧ searching.tb.lock = .search)) ∧
    (stage.recorder.state = .idle ∧ stage.tb.mode ≠ .referenced ∧ stage.mem.blocks[0].state = .free) ∧
    (let s := stage.setMem { stage.mem with blocks := Vector.replicate 64 { state := .bad, data := [] } };
      (∀ b : BlockNo, s.mem.blocks[b].state ≠ .free) ∧ after (records toSlot6) s = refusal .noRoom 0 s) ∧
    (armed6.recorder.state = .armed ∧ armed6.recorder.startFrame = some 101) ∧
    (after (records toSlot6) (erasing (.erase 3))).mem.op = some (.suspend 3) ∧
    after (records { toSlot6 with start := some 100 }) stage = refusal .badValue 0 stage ∧
    after (records { toSlot6 with slot := 32 }) stage = refusal .badValue 0 stage ∧
    after (records toSlot6) openRig = refusal .unfrozen 0 openRig ∧
    after (marks .cue) stage = refusal .wrongState 0 stage ∧
    ((recording id).recorder.endPending = false ∧ (recording fun r => { r with endPending := true }).recorder.endPending = true) ∧
    (after (marks .defer) (recording id)).recorder.marks = { Marks.none with defer := true } ∧
    after (marks .resume) (recording id) = refusal .wrongState 0 (recording id) ∧
    (after (marks .resume) (recording fun r => { r with spanOpen := true })).recorder.marks.resume = true ∧
    after (marks .defer) (withMarks { Marks.none with resume := true }) =
      refusal .wrongState 0 (withMarks { Marks.none with resume := true }) ∧
    after (marks .resume) (withMarks { Marks.none with defer := true }) =
      refusal .wrongState 0 (withMarks { Marks.none with defer := true }) ∧
    (after (.recordEnd (rx 0) (.fields ())) armed6).recorder = Recorder.reset ∧
    (after (.recordEnd (rx 0) (.fields ())) (withMarks { Marks.none with cue := true })).recorder.marksDropped = true ∧
    ((recording id).recorder.queue.length < 8 ∧ (recording id).recorder.composed + 1 ≠ 65535 ∧
      (composeSample (recording id)).recorder.queue = [{ offset := 7, marks := Marks.none, pos := [0, 0] }]) := by
  refine ⟨by unfold TakesMotion Takes; decide +kernel, ?_⟩
  decide +kernel
/-- The last tick of a frame, a recording that goes on, the array busy. -/
def framing (f : Recorder → Recorder) : State := withOp (.erase 3) (withTb (fun b => { b with t := 19 }) (recording f))
theorem witness_FrameStartOfTheRecorder :
    IssuesTick .frameStart { stageEnd.tb with f := 101, t := 0, frameTime := 40000 } (framing id) ∧
    ((framing id).recorder.endPending = false ∧ NoDriveFails (framing id) ∧ (framing id).mem.op.isSome = true ∧
      ∀ z : ZoneNo, (framing id).safety.zones[z].record = none) ∧
    (after .frameStart (framing id)).recorder.queue = [{ offset := 7, marks := Marks.none, pos := [0, 0] }] ∧
    (after .frameStart (framing fun r => { r with composed := 65534 })).recorder.outcome = some .length ∧
    (let q := List.replicate 8 (newSample 0)
     (after .frameStart (framing fun r => { r with queue := q })).recorder.outcome = some .overrun ∧
       (after .frameStart (framing fun r => { r with queue := q })).recorder.queue = q) ∧
    (let s := withTb (fun b => { b with f := 101 }) armed6
     (recorderFrame s).recorder.state = .recording ∧ (recorderFrame s).mem.slots[6].state = .recording ∧
       recorderFrame armed6 = armed6 ∧
       (recorderFrame (withTb (fun b => { b with mode := .referenced, lock := .search }) s)).recorder = Recorder.reset) ∧
    ((recorderFrame (recording fun r => { r with endPending := true, queue := [newSample 7] })).recorder.outcome = some .done) ∧
    (let s := (programming .recording []).setRecorder { (programming .recording []).recorder with endPending := true }
     s.mem.slots[5].header = some takeHeader ∧ (recorderFrame s).recorder = Recorder.reset ∧
       (recorderFrame s).mem.slots[5].state = .complete) ∧
    (let s := ((programming .recording []).setRecorder { (programming .recording []).recorder with endPending := true }).setSlot 5
        fun x => { x with header := some { takeHeader with length := 0 } }
     (recorderFrame s).mem.slots[5].state = .empty) := by
  refine ⟨?_, ⟨by decide +kernel, by unfold NoDriveFails; decide +kernel, by decide +kernel, by decide +kernel⟩, ?_⟩
  · right; decide +kernel
  · decide +kernel

/-- Section 5.5 (R84): a CUE and its UNCUE during an erase resume; the suspend is issued at the resume's completion. -/
theorem test_activity_during_a_resume :
    (([.cue (rx 0) (.fields { slot := 4, lanes := 1#16, scale := none, endMode := none }), .uncue (rx 0) (.fields ()),
      .eraseResumeDone] : List Instr).foldl (fun s c => after c s) (erasing (.resume 3 false))).mem.op =
        some (.suspend 3) := by decide +kernel
/-- Section 11.2 (R156, R186): each optional value of a zone entry has its presence byte, the record first. -/
theorem test_zone_entry_bytes :
    encZoneEntry 5 { record := none, predicting := false, breached := false, exiting := false } = [0, 0, 0, 0] ∧
    encZoneEntry 5 { record := some (zoneArgs 5 2 3 4).record, predicting := true, breached := false, exiting := false } =
      1 :: (encZone 5 (zoneArgs 5 2 3 4).record ++ [1, 1, 1, 0, 1, 0]) := by decide +kernel
/-- Section 11.2 (R58, R127, R186): each optional value of an event has its presence byte; d 3 of frame 803 with r 6 and the
resume frame 806 is section 7.12. -/
theorem test_optional_event_fields :
    (encEventBody (.segmentStart 3 803 none)).2 = [0, 3, 0, 0, 0, 0, 0, 0, 3, 0x23, 0, 0] ∧
    (encEventBody (.segmentStart 3 803 (some (6, 806)))).2 =
      [0, 3, 0, 0, 0, 0, 0, 0, 3, 0x23, 1, 0, 6, 1, 0, 0, 0, 0, 0, 0, 3, 0x26] ∧
    (encEventBody (.grantRestored 4 (.station 1) 3 (some 2) 256)).2 =
      [4, 1, 0, 0, 0, 3, 1, 0, 0, 0, 0, 0, 0, 0, 2, 0] ∧
    (encEventBody (.grantRestored 4 (.station 1) 3 none 256)).2 =
      [4, 1, 0, 0, 0, 3, 0, 1, 0, 0, 0, 0, 0, 0, 1, 0] := by decide +kernel
/-- Section 11.2 (R41, R102, R186): a LENS D is a lens user value of 4 bytes, and the fields that only some blocks and slots
have are optional values. -/
theorem test_optional_entry_fields :
    encContext { kind := .lens, d := some 1000, o := 0, trim := 65536 } =
      [1, 1, 0, 0, 3, 0xE8, 0, 0, 0, 0, 0, 0, 0, 0, 0, 1, 0, 0] ∧
    encContext { kind := .step, d := some (-1), o := 0, trim := 65536 } =
      [2, 1, 255, 255, 255, 255, 255, 255, 255, 255, 0, 0, 0, 0, 0, 0, 0, 0, 0, 1, 0, 0] ∧
    encBlockState .free = [0, 0, 0, 0, 0] ∧ encBlockState (.erasing true) = [3, 1, 1, 0, 0, 0] ∧
    encBlockState (.used 5 2 true) = [1, 0, 1, 5, 1, 0, 0, 0, 2, 1, 1] ∧
    encSlot { nextOffset := 258, spanOpen := true } (Vector.replicate 2 StageBuffer.reset) Slot.reset =
      [0, 0, 0, 0, 0, 0, 0, 0, 0, 0, 0, 0] ∧
    encSlot { nextOffset := 258, spanOpen := true } (Vector.replicate 2 StageBuffer.reset)
      { Slot.reset with state := .uploading } =
      [2, 0, 0, 0, 0, 0, 1, 1, 2, 1, 1, 1, 0, 1, 0, 0, 0, 0, 1, 0, 1, 0, 0, 0, 0] := by decide +kernel

def cues (a : CueArgs) : Instr := .cue (rx 0) (.fields a)
def cue4 : CueArgs := { slot := 4, lanes := 0x203#16, scale := some 65537, endMode := none }
def cued : State := after (cues cue4) (library.setGrant 0 fun _ => heldGrant)
def ready : State := cued.setPlay { cued.play with state := .ready }
def rolls (st : Option Nat) : Instr := .roll (rx 0) (.fields st)
/-- DEFERRED since frame 90 with resume index r, the resume sample in the buffer at the lanes' places. -/
def atSample (r : Nat) (p : Int) : State :=
  let s := segment r .deferred
  s.setPlay { s.play with buffer := [{ index := r, marks := { Marks.none with resume := true },
                                       pos := (Vector.replicate 12 none).set 0 (some p) }] }
def segDone : Instr := .segmentDone (rx 0) (.fields ())
def rollingAt (t : Nat) (b : Int) : State :=
  let s := withTb (fun x => { x with t := t }) (pass .rolling 97 400)
  s.setPlay { s.play with buffer := [{ index := 3, marks := Marks.none, pos := (Vector.replicate 12 none).set 0 (some 10000) },
                                     { index := 4, marks := Marks.none, pos := (Vector.replicate 12 none).set 0 (some b) }] }
theorem witness_PlaybackRequests : (TakesMotion (rx 0) library ∧ TakesMotion (rx 0) ready ∧ TakesMotion (rx 0) (atSample 3 0)) ∧
    (library.mem.slots[4].finished = true ∧ library.mem.slots[4].header = some takeHeader ∧ cue4.lanes ≠ 0 ∧
      library.rig.record.frozen = true ∧ library.play.state = .idle ∧ library.safety.stop = .run ∧
      library.drives.parked = false) ∧
    (LaneSet.has cue4.lanes 0 = true ∧ library.lanes[0].present = true ∧ LaneSet.has takeHeader.lanes 0 = true ∧
      library.lanes[0].condition = .active ∧ LaneSet.has cue4.lanes 9 = true ∧ library.lanes[9].present = false) ∧
    (cued.play.state = .cueing ∧ cued.play.participation = 3#16 ∧ holders cued 0 = some .playback ∧
      cued.play.cueScale = some 65536) ∧
    after (cues cue4) (inStop .stopped library) = refusal .wrongState 0 (inStop .stopped library) ∧
    after (rolls (some 100)) ready = refusal .badValue 0 ready ∧ after (rolls none) cued = refusal .wrongState 0 cued ∧
    (after (rolls (some 101)) ready).play.armed = some (101, 0) ∧ (after (rolls none) ready).play.state = .rollArmed ∧
    after segDone ready = refusal .wrongState 0 ready ∧
    ((atSample 3 0).play.state = .deferred ∧ (atSample 3 0).play.resumeIndex = some 3 ∧ (atSample 3 0).play.fRoll = some 90 ∧
      (atSample 3 0).nearSample 3 = true ∧ (atSample 3 99999).nearSample 3 = false ∧ 100 - 90 < (atSample 3 0).play.len) ∧
    after segDone (atSample 3 99999) = refusal .wrongState 0 (atSample 3 99999) ∧
    (after segDone (atSample 11 0)).play.armed = some (101, 11) ∧
    ((after segDone (atSample 10 0)).play.state = .rolling ∧ (after segDone (atSample 10 0)).play.spoiled = true ∧
      (after segDone (atSample 10 0)).play.k = some 10) ∧
    after (.uncue (rx 0) (.fields ())) library = refusal .wrongState 0 library ∧
    ((after (.uncue (rx 0) (.fields ())) cued).play = Playback.reset ∧
      holders (after (.uncue (rx 0) (.fields ())) cued) 0 = some (.station 0)) ∧
    ((rollingAt 7 10630).play.k = some 3 ∧ (rollingAt 7 10630).play.posAt 3 0 = some 10000 ∧
      (rollingAt 7 10630).play.posAt 4 0 = some 10630 ∧ (rollingAt 7 10630).tb.t ≤ (rollingAt 7 10630).tb.n ∧
      (rollingAt 7 10630).play.stallDemands = none ∧ playDemand (rollingAt 7 10630) 0 = some 10220 ∧
      playDemand (rollingAt 7 9370) 0 = some 9780 ∧ 3 + 1 < (rollingAt 7 9370).play.len) ∧
    ((pass .rolling 97 4).play.len ≤ 3 + 1 ∧ (rollingAt 0 9370).tb.t = 0) := by
  refine ⟨by unfold TakesMotion Takes; decide +kernel, ?_⟩
  decide +kernel
theorem witness_CueIsRefused : library.mem.slots[6].finished = false ∧
    after (cues { cue4 with slot := 32 }) library = refusal .badValue 0 library ∧
    after (cues { cue4 with lanes := 0 }) library = refusal .badValue 0 library ∧
    after (cues { cue4 with slot := 6 }) library = refusal .wrongState 0 library ∧
    openRig.rig.record.frozen = false ∧ after (cues cue4) openRig = refusal .unfrozen 0 openRig ∧
    LaneSet.has takeHeader.lanes 2 = false ∧ library.lanes[9].present = false ∧
    (after (cues { cue4 with lanes := 0x204#16 }) library).ports[0].replies.map (fun x => (x.outcome, x.results)) =
      [(.refused .wrongState, [(2, .notInTake), (9, .badValue)])] ∧
    (after (cues cue4) (withOp (.erase 3) library)).mem.op = some (.suspend 3) ∧
    (after (cues cue4) (withOp (.resume 3 false) library)).mem.op = some (.resume 3 true) := by decide +kernel
theorem witness_PlaybackOfATakeThatIsOver :
    (cued.grants[0].stack = [{ port := 0, level := 2, ctx := abs 500 }, { port := 1, level := 3, ctx := abs 70 }] ∧
      cued.grants[1].stack = []) ∧
    (let s := (atSample 3 0).setPlay { (atSample 3 0).play with length := some 10 }
     (s.play.len ≤ 100 - 90 ∧ 90 + 3 ≤ 100 ∧ s.play.endMode ≠ some .holdEnd) ∧ (after segDone s).play = Playback.reset ∧
       holders (after segDone s) 0 = some (.station 0)) ∧
    (let s := (atSample 3 0).setPlay { (atSample 3 0).play with length := some 10, endMode := some .holdEnd }
     (after segDone s).play.state = .holdEnd ∧ (after segDone s).play.spoiled = true) := by decide +kernel

def protects (n : Nat) (a : ProtectAction) : Instr := .takeProtect (rx 0) (.fields { slot := n, action := a })
def erases (n : Nat) : Instr := .takeErase (rx 0) (.fields n)
def fetches (first count : Nat) : Instr := .takeFetch (rx 2) (.fields { slot := 4, first := first, count := count })
def closedLine (s : State) : State := s.setMem { s.mem with protectClosed := true }
def unlocked : State := withOp (.erase 3) (library.setSlot 4 fun x => { x with locked := false })
theorem witness_TakeDirectoryRequests : (Takes (rx 0) library ∧ Takes (rx 2) library) ∧ library.ports[0].role = some .motion ∧
    (library.mem.slots[6].finished = false ∧ library.mem.slots[4].finished = true ∧ library.mem.slots[4].down = false ∧
      (closedLine (lockedDown false)).mem.slots[4].down = true ∧ (closedLine (lockedDown false)).mem.protectClosed = true) ∧
    ((pass .cueing 90 2).play.state ≠ .idle ∧ (pass .cueing 90 2).play.slot = some 4 ∧ fetch0 2 ∈ (fetching 2).mem.fetches ∧
      (fetch0 2).slot = 4 ∧ library.play.state = .idle ∧ library.mem.fetches = []) ∧
    (unlocked.mem.slots[4].locked = false ∧ unlocked.mem.slots[4].blocks.Nodup ∧ unlocked.mem.op.isSome = true ∧
      unlocked.mem.blocks[9].state = .used 4 0 false ∧ (8 : BlockNo) ∉ unlocked.mem.slots[4].blocks) ∧
    after (protects 32 .lock) library = refusal .badValue 0 library ∧ after (erases 6) library = refusal .wrongState 0 library ∧
    after (protects 4 .unlock) (closedLine (lockedDown false)) = refusal .takeProtected 0 (closedLine (lockedDown false)) ∧
    (after (protects 4 .unlock) library).mem.slots[4].locked = false ∧
    (after (protects 4 .lockDown) library).mem.slots[4].down = true ∧
    after (erases 4) library = refusal .takeProtected 0 library ∧
    after (erases 4) (pass .cueing 90 2) = refusal .wrongState 0 (pass .cueing 90 2) ∧
    (after (erases 4) unlocked).mem.blocks[9].state = .dirty ∧ (after (erases 4) unlocked).mem.slots[4].state = .empty ∧
    (library.mem.slots[4].length = 2 ∧ after (fetches 2 1) library = refusal .badValue 2 library ∧
      after (fetches 0 0) library = refusal .badValue 2 library) ∧
    ((after (fetches 1 64) library).mem.fetches.map fun f => (f.next, f.left, f.adjusted)) = [(1, 1, true)] ∧
    after (fetches 0 1) (fetching 2) = refusal .busy 2 (fetching 2) ∧
    (ArrayIdle (idleArray unlocked) ∧ (after (erases 4) (idleArray unlocked)).mem.op =
      some (.reserved (.dir 4 { state := .empty, header := none } [(9, .dirty)]))) := by
  refine ⟨by unfold Takes; decide +kernel, ?_⟩
  unfold ArrayIdle; decide +kernel

def opens (a : OpenArgs) : Instr := .takeOpen (rx 0) (.fields a)
def open6 : OpenArgs := { bareOpen with slot := 6, lanes := 3#16 }
def stages (xs : List StagedSample) : Instr := .stage (rx 0) (.fields xs)
def commits : Instr := .stageCommit (rx 0) (.fields ())
def closes : Instr := .takeClose (rx 0) (.fields ())
def discards : Instr := .takeDiscard (rx 0) (.fields ())
/-- An upload opened in slot 6, the array busy with an erase. -/
def opened : State := after (opens open6) (withOp (.erase 3) stage)
def filled (xs : List StagedSample) : State := opened.setBuffer 0 fun b => { b with state := .filling, samples := xs }
def closable (n : Nat) : State := opened.setSlot 6 fun x => { x with header := x.header.map fun h => { h with length := n } }
theorem witness_UploadRequests : (TakesMotion (rx 0) stage ∧ TakesMotion (rx 0) opened ∧ TakesMotion (rx 0) library) ∧
    (openValid open6 = true ∧ library.mem.slots[4].state ≠ .empty ∧ armed6.recorder.slot = some 6 ∧
      stage.mem.slots[6].state = .empty ∧ stage.recorder.state ≠ .armed ∧ stage.uploadSlot = none ∧
      opened.uploadSlot = some 6 ∧ opened.mem.slots[7].state = .empty) ∧
    (opened.mem.slots[6].state = .uploading ∧ opened.mem.reservedQueue = [.dir 6] ∧ opened.mem.op.isSome = true) ∧
    after (opens { open6 with slot := 4 }) library = refusal .wrongState 0 library ∧
    after (opens { open6 with slot := 7 }) opened = refusal .busy 0 opened ∧ after closes stage = refusal .wrongState 0 stage ∧
    ([staged 0] ≠ [] ∧ (∀ x ∈ [staged 0], 1 ≤ x.pos.length ∧ x.pos.length ≤ 12) ∧ opened.stageTarget = some 0 ∧
      stageBytes ([] ++ [staged 0]) ≤ 65536 ∧ (after (stages [staged 0]) opened).mem.buffers[0].samples = [staged 0]) ∧
    (65536 < stageBytes (List.replicate 2731 (staged 0)) ∧ stageBytes (List.replicate 2730 (staged 0)) ≤ 65536) ∧
    (let s := opened.setMem { opened.mem with buffers := Vector.replicate 2 { StageBuffer.reset with state := .queued 0 } };
      s.stageTarget = none ∧ after (stages [staged 0]) s = refusal .busy 0 s) ∧
    (opened.fillingBuffer = none ∧ after commits opened = refusal .wrongState 0 opened) ∧
    ((filled [staged 0, staged 2]).fillingBuffer = some 0 ∧
      checkChunk (opened.uploadLanes 6) 0 opened.mem.upload [staged 0, staged 2] = .error 1 ∧
      (after commits (filled [staged 0, staged 2])).mem.chunkReject = true) ∧
    (checkChunk (opened.uploadLanes 6) 0 opened.mem.upload [staged 0, staged 1] = .ok { nextOffset := 2, spanOpen := false } ∧
      (after commits (filled [staged 0, staged 1])).mem.buffers[0].state = .queued 0) ∧
    (opened.mem.slots[6].length = 0 ∧ after closes opened = refusal .wrongState 0 opened) ∧
    ((closable 1).mem.slots[6].length ≠ 0 ∧ (∀ k : Fin 2, (closable 1).mem.buffers[k].state = .empty) ∧
      (closable 1).mem.slots[6].header.isSome = true ∧ (after closes (closable 1)).mem.slots[6].state = .complete) ∧
    ((closable 1).setBuffer 1 fun b => { b with state := .filling }).mem.buffers[1].state ≠ .empty ∧
    (after discards opened).mem.slots[6].state = .empty := by
  refine ⟨by unfold TakesMotion Takes; decide +kernel, ?_⟩
  decide +kernel
/-- An upload of two staged samples with room in block 8, nothing waiting for the array. -/
def uploadIdle : State :=
  ((closable 1).setMem { (filled [staged 0, staged 1]).mem with
    op := none, reservedQueue := [], slots := updAt (closable 1).mem.slots 6 fun x => { x with blocks := [8] } }).setBlock 8
      fun b => { b with state := .used 6 0 false }
theorem witness_UploadWithAnIdleArray : ArrayIdle stage ∧ ArrayIdle uploadIdle ∧
    (after (opens open6) stage).mem.op = some (.reserved (.dir 6
      { state := .uploading, header := (after (opens open6) stage).mem.slots[6].header } [])) ∧
    (uploadIdle.mem.buffers[otherBuffer 0].state = .empty ∧ uploadIdle.lastRoom 6 = some (8, 21844 + 1) ∧
      checkChunk (uploadIdle.uploadLanes 6) 0 uploadIdle.mem.upload [staged 0, staged 1] =
        .ok { nextOffset := 2, spanOpen := false }) ∧
    ((after commits uploadIdle).mem.op = some (.chunkPart 6 8 0 2 true) ∧
      (after commits uploadIdle).mem.buffers[0].state = .programming) ∧
    (after discards uploadIdle).mem.op = some (.reserved (.dir 6 { state := .empty, header := none } [(8, .dirty)])) ∧
    (after discards (withOp (.chunkPart 6 8 0 2 true) opened)).mem.op = some (.chunkPart 6 8 0 2 false) := by
  unfold ArrayIdle; decide +kernel
theorem witness_CloseWithAnIdleArray :
    ArrayIdle ((closable 1).setMem { (closable 1).mem with op := none, reservedQueue := [] }) ∧
    ((after closes ((closable 1).setMem { (closable 1).mem with op := none, reservedQueue := [] })).mem.op.isSome = true) := by
  unfold ArrayIdle; decide +kernel


/-! ### The clauses on the effective scale, lists of entries, staged samples and stalls -/

/-- A zone of lane 0 in entry 2, with these results. -/
def zoned (kind : ZoneKind) (enabled predicting exiting : Bool) : State := held.setZone 2 fun _ =>
  { record := some { (zoneArgs 2 9 0 0).record with kind := kind, enabled := enabled }, predicting := predicting,
    breached := false, exiting := exiting }
def trimmed (n : Nat) : State := stage.setGrant 0 fun _ =>
  { heldGrant with holder := some (stationHold 0 { abs 500 with trim := n }) }
def cueingAt (x : PlayState) : State := (pass x 97 400).setPlay { (pass x 97 400).play with cueScale := some 16384 }
/-- Each term of R9, and full speed; the cap of a cue at 16384 is that of section 7.12. -/
theorem witness_EffectiveScale : ScaleTerm openRig 0 4096 ∧ openRig.rig.record.frozen = false ∧
    openRig.effScale 0 = 4096 ∧ velocityCap 1200 (openRig.effScale 0) = 75 ∧ velocityCap 1 65535 = 0 ∧
    (held.effScale 0 = 65536 ∧ (trimmed 7).effScale 0 = 7 ∧ (trimmed 0).effScale 0 = 0 ∧ (trimmed 7).effScale 1 = 65536) ∧
    ((cueingAt .cueing).effScale 0 = 16384 ∧ (cueingAt .rolling).effScale 0 = 65536 ∧ velocityCap 1200 16384 = 300) ∧
    ((zoned .slow true true false).effScale 0 = 9 ∧ (zoned .slow true false false).effScale 0 = 65536 ∧
      (zoned .slow false true false).effScale 0 = 65536 ∧ (zoned .keepOut true true true).effScale 0 = 9 ∧
      (zoned .keepOut true true false).effScale 0 = 65536 ∧ (zoned .slow true true false).effScale 1 = 65536) :=
  ⟨.inr (.inr (.inr (.inr ⟨by decide +kernel, rfl⟩))), by decide +kernel⟩
/-- R53, R57: the entries of a list, two of them for one lane, one beyond the lanes and one for a lane held by no one. -/
theorem witness_ListsOfEntries : Takes (rx 0) pulling ∧
    (let s := after (.demand (rx 0) (.fields [{ lane := 0, kind := .step, value := -7 }, { lane := 0, kind := .step, value := 10 },
        { lane := 12, kind := .abs, value := 274877906945 }, { lane := 1, kind := .abs, value := 1 }])) pulling
     ctxAt s 0 = some { kind := .step, d := some 3, o := 0, trim := 65536 } ∧
       s.ports[0].replies.map (fun x => (x.ignored, x.badValue, x.lensInvalid, x.adjusted)) = [(2, true, false, true)]) ∧
    (let s := after (.trim (rx 0) (.fields [{ lane := 255, scale := 5 }, { lane := 0, scale := 65537 }, { lane := 0, scale := 8 }])) pulling
     (ctxAt s 0).map (fun c => c.trim) = some 8 ∧
       s.ports[0].replies.map (fun x => (x.ignored, x.badValue, x.adjusted)) = [(1, true, true)]) :=
  ⟨by unfold Takes; decide +kernel, by decide +kernel⟩
def markedSample (o marks : Nat) (p : Int) : StagedSample := { offset := o, marks := byteOf marks, pos := [7, p] }
/-- The next staged sample goes to offset 65533, one before the last. -/
def nearEnd : Upload := { nextOffset := 65533, spanOpen := false }
/-- R94, R191: each condition at its bound; offsets first. -/
theorem witness_SampleFollows :
    SampleFollows 2 nearEnd [] (staged 65533) ∧ SampleFollows 2 nearEnd [staged 65533] (staged 65534) ∧
      ¬ SampleFollows 2 nearEnd [staged 65533, staged 65534] (staged 65535) ∧ ¬ SampleFollows 2 nearEnd [] (staged 65534) := by
  unfold SampleFollows; decide +kernel
theorem witness_SampleFollows_positions :
    ¬ SampleFollows 3 nearEnd [] (staged 65533) ∧ SampleFollows 2 nearEnd [] (markedSample 65533 5 274877906944) ∧
      ¬ SampleFollows 2 nearEnd [] (markedSample 65533 0 274877906945) := by
  unfold SampleFollows; decide +kernel
theorem witness_SampleFollows_marks :
    ¬ SampleFollows 2 nearEnd [] (markedSample 65533 8 0) ∧ ¬ SampleFollows 2 nearEnd [] (markedSample 65533 3 0) ∧
      ¬ SampleFollows 2 nearEnd [] (markedSample 65533 2 0) := by
  unfold SampleFollows; decide +kernel
theorem witness_SampleFollows_span :
    SampleFollows 2 nearEnd [markedSample 65533 1 0] (markedSample 65534 2 0) ∧
      ¬ SampleFollows 2 nearEnd [markedSample 65533 1 0] (markedSample 65534 1 0) := by
  unfold SampleFollows; decide +kernel
/-- R94: the first sample that fails, and a chunk that leaves its span open. -/
theorem witness_ChunkOutcomes :
    checkChunk 2 0 nearEnd [staged 65533, staged 65534, staged 65535] = .error 2 ∧
    checkChunk 2 0 { nextOffset := 4, spanOpen := true } [markedSample 4 2 0, markedSample 5 1 0] =
      .ok { nextOffset := 6, spanOpen := true } ∧
    opened.mem.slots[6].header.isSome = true := by
  decide +kernel
/-- ROLLING since frame 97 with frame 101 due, the stall count and the buffer given. -/
def frameDue (n : Nat) (buffer : List BufSample) : State :=
  endOf ((rollingWith Marks.none 400).setPlay { (rollingWith Marks.none 400).play with stallCount := n, buffer := buffer })
theorem witness_StalledFrameStart :
    IssuesTick .frameStart { stageEnd.tb with f := 101, t := 0, frameTime := 40000 } (frameDue 7 [bufAt 4 Marks.none]) ∧
    NoDriveFails (frameDue 7 [bufAt 4 Marks.none]) ∧
    ((frameDue 7 []).tb.lock ≠ .flywheel ∧ (frameDue 7 []).safety.stop = .run ∧ (frameDue 7 []).play.state = .rolling ∧
      (frameDue 7 []).play.fRoll = some 97 ∧ 101 - 97 < (frameDue 7 []).play.len ∧ (frameDue 7 []).play.lacks 4 = true ∧
      (frameDue 7 []).play.defersAt 4 = false ∧ ∀ z : ZoneNo, (frameDue 7 []).safety.zones[z].record = none) ∧
    (let u := (after .frameStart (frameDue 7 [bufAt 4 Marks.none])).play
     u.state = .rolling ∧ u.k = some 4 ∧ u.stallCount = 8 ∧ u.spoiled = true ∧ (u.stallDemands.map fun d => d[0]) = some (some 40)) ∧
    (after .frameStart (frameDue 0 [])).play.stallCount = 1 ∧
    (after .frameStart (frameDue 8 [bufAt 4 Marks.none])).play = Playback.reset ∧
    (let s := frameDue 8 [bufAt 4 Marks.none, bufAt 5 Marks.none]
     s.play.lacks 4 = false ∧ (after .frameStart s).play.stallCount = 0 ∧ (after .frameStart s).play.state = .rolling) ∧
    (let s := frameDue 8 [bufAt 4 deferMark]
     s.play.defersAt 4 = true ∧ (after .frameStart s).play.state = .deferred ∧ (after .frameStart s).play.stallCount = 0) ∧
    (let s := endOf (armedAt 101 4 (some 97))
     s.play.armed = some (101, 4) ∧ (after .frameStart s).play.state = .rolling ∧ (after .frameStart s).play.k = some 4) ∧
    (lacking.tb.t = 0 ∧ lacking.play.lacks (lacking.play.k.getD 0) = true ∧ (tickWork lacking).play.stallCount = 1 ∧
      (tickWork (rollingWith Marks.none 400)).play.stallCount = 0 ∧ NoDriveFails lacking) := by
  refine ⟨?_, by unfold NoDriveFails; decide +kernel, ?_⟩
  · right; decide +kernel
  · unfold NoDriveFails; decide +kernel
/-- Section 11.2 (R186, R188): an event number takes four bytes; DRIVE_POWER is event 9 in the order of R181. -/
theorem test_event_bytes : encEvent { f := 803, t := 5, body := .drivePower true } =
    [0, 0, 0, 9, 0, 0, 0, 0, 0, 0, 3, 0x23, 5, 1] := by decide +kernel

end Sys2Proof.Tests
end

section
/-! PROOFS. The target of a held step (O30, R7): the lane records under the operations of one lane step, what a commit
stores in T, and the statement. -/

namespace Sys2Proof.Machine

open Sys2Proof

/-! ### What leaves the lane records alone -/

@[simp] theorem raiseFor_lanes (aud : Port → Bool) (body : EventBody) (s : State) : (raiseFor aud body s).lanes = s.lanes :=
  (raiseFor_frame aud body s).lanes

@[simp] theorem raiseAll_lanes (body : EventBody) (s : State) : (raiseAll body s).lanes = s.lanes :=
  (raiseAll_frame body s).lanes

@[simp] theorem raiseMotion_lanes (body : EventBody) (s : State) : (raiseMotion body s).lanes = s.lanes :=
  (raiseMotion_frame body s).lanes

@[simp] theorem raiseLane_lanes (l : Lane) (who : Option Holder) (body : EventBody) (s : State) :
    (raiseLane l who body s).lanes = s.lanes :=
  (raiseLane_frame l who body s).lanes

@[simp] theorem setPower_lanes (on : Bool) (s : State) : (setPower on s).lanes = s.lanes := (setPower_keeps on s).1

@[simp] theorem queueDir_lanes (i : SlotNo) (s : State) : (queueDir i s).lanes = s.lanes := by
  have h := congrArg State.lanes (queueReserved_queue (.dir i) s).2.2
  rwa [State.setMem_lanes] at h

@[simp] theorem completeSlot_lanes (i : SlotNo) (f : Header → Header) (s : State) :
    (completeSlot i f s).lanes = s.lanes := by
  simp [completeSlot, State.setSlot]

@[simp] theorem emptySlot_lanes (i : SlotNo) (s : State) : (emptySlot i s).lanes = s.lanes := by
  simp only [emptySlot, queueDir_lanes, State.setSlot, State.setMem_lanes]
  exact forEach_frame State.lanes (fun b u => State.setMem_lanes u _) _ s

@[simp] theorem recIdle_lanes (outcome : RecOutcome) (n : Nat) (interrupted implied : Bool) (s : State) :
    (recIdle outcome n interrupted implied s).lanes = s.lanes := by
  simp [recIdle]

@[simp] theorem drainFinish_lanes (s : State) : (drainFinish s).lanes = s.lanes := by
  unfold drainFinish
  split
  · split
    · rfl
    · dsimp only
      split <;> simp
  · rfl

@[simp] theorem recordEnds_lanes (outcome : RecOutcome) (s : State) : (recordEnds outcome s).lanes = s.lanes := by
  unfold recordEnds
  split <;> simp

@[simp] theorem leaveLane_lanes (l : Lane) (why : EndReason) (s : State) : (leaveLane l why s).lanes = s.lanes := by
  cases h : s.grants[l].holder with
  | none => rw [leaveLane_none h]
  | some hold => exact (leaveLane_frame h why).lanes

@[simp] theorem endPlayback_lanes (outcome : PlayOutcome) (s : State) : (endPlayback outcome s).lanes = s.lanes := by
  unfold endPlayback
  split
  · rfl
  · simp only [playIdle, State.setMem_lanes, State.setPlay_lanes, raiseMotion_lanes]
    refine forEach_frame State.lanes (fun l u => ?_) _ s
    split <;> simp

@[simp] theorem stopEntry_lanes (s : State) : (stopEntry s).lanes = s.lanes := by simp [stopEntry]

@[simp] theorem addCause_lanes (x : StopState) (k : CauseKind) (s : State) : (addCause x k s).lanes = s.lanes := by
  rw [(addCause_frame x k s).lanes]
  split <;> simp

@[simp] theorem changeStop_lanes (new : StopState) (asker : Option Port) (party : Option Party) (why : Option StopReason)
    (s : State) : (changeStop new asker party why s).lanes = s.lanes :=
  (changeStop_frame new asker party why s).lanes

@[simp] theorem cancelRelease_lanes (why : StopReason) (s : State) : (cancelRelease why s).lanes = s.lanes :=
  (cancelRelease_frame why s).lanes

/-- R145, R146: a cause event, with the stop entry it may bring, moves no lane. -/
@[simp] theorem causeEvents_lanes (ks : List CauseKind) (s : State) : (causeEvents ks s).lanes = s.lanes := by
  have added : ∀ x, (forEach ks (addCause x) s).lanes = s.lanes := fun x =>
    forEach_frame State.lanes (addCause_lanes x) ks s
  unfold causeEvents
  split
  · rfl
  · dsimp only
    split
    · simp [added]
    · exact added _
    · split <;> simp [added]
    · split <;> simp [added]

@[simp] theorem raiseClip_lanes (l : Lane) (c : Candidate) (s : State) : (raiseClip l c s).lanes = s.lanes := by
  unfold raiseClip
  repeat' split
  all_goals simp

@[simp] theorem commitAll_lanes (cs : Vector Candidate 12) (s : State) :
    (commitAll cs s).lanes = (commitLanes cs s).lanes :=
  forEach_frame State.lanes (fun l u => raiseClip_lanes l cs[l] u) _ _

@[simp] theorem writeBackAll_lanes (cs : Vector Candidate 12) (s : State) : (writeBackAll cs s).lanes = s.lanes := rfl

/-! ### What a lane step commits -/

/-- R5, R15: in RUN, with no zone that predicts on the candidates, the lane step commits them. -/
theorem laneStep_lanes_run {s : State} (hr : s.safety.stop = .run)
    (hz : predictedZones s (s.candidateMotion (s.candidates s.runCandidate)) = []) :
    (laneStep s).lanes = (commitLanes (s.candidates s.runCandidate) s).lanes := by
  simp [laneStep, runStep, hr, hz]

/-- R5, R18, R140: outside RUN, and in RUN where a zone predicts on the candidates, the lane step commits a form without a
target: the stop step or rest. -/
theorem laneStep_lanes_stop {s : State}
    (h : s.safety.stop ≠ .run ∨ predictedZones s (s.candidateMotion (s.candidates s.runCandidate)) ≠ []) :
    ∃ f : Lane → Candidate, (∀ l, (f l).target = none) ∧
      (laneStep s).lanes = (commitLanes (s.candidates f) s).lanes := by
  cases hs : s.safety.stop with
  | run =>
    have hz := h.resolve_left (not_not_intro hs)
    exact ⟨fun l => stopStep s.lanes[l], fun _ => rfl, by simp [laneStep, runStep, hs, hz]⟩
  | stopping => exact ⟨fun l => stopStep s.lanes[l], fun _ => rfl, by simp [laneStep, hs]⟩
  | stopped => exact ⟨fun l => restStep s.lanes[l], fun _ => rfl, by simp [laneStep, hs]⟩
  | releasing => exact ⟨fun l => restStep s.lanes[l], fun _ => rfl, by simp [laneStep, hs]⟩

section Stepped

variable {s : State} {l : Lane} (hp : s.lanes[l].present = true) (ha : s.lanes[l].condition = .active)

include hp ha

/-- R15: a present ACTIVE lane's candidate is the form's. -/
theorem candidates_stepped (f : Lane → Candidate) : (s.candidates f)[l] = f l := by
  simp only [Fin.getElem_fin] at hp ha
  simp [State.candidates, LaneRec.stepped, hp, ha]

/-- R16: the commit of a present ACTIVE lane stores its form's target in T, and leaves T where the form has none. -/
theorem commitLanes_candidates_t (f : Lane → Candidate) (hm : s.missFaults l = false) :
    (commitLanes (s.candidates f) s).lanes[l].t = (f l).target.getD s.lanes[l].t := by
  have hd : (dropMissing s).lanes[l] = s.lanes[l] := by rw [dropMissing_lane, hm]; rfl
  rw [commitLanes, State.setLanes_lanes, mapAll_get, hd, candidates_stepped hp ha]
  simp only [commitLane, hp, ha, Bool.not_true, Bool.false_eq_true, if_false, if_true]

/-- R5, R6: a held lane's candidate in RUN has the clamped T0 as its target. -/
theorem laneStep_t_held {h : Hold} (hh : s.grants[l].holder = some h) (hm : s.missFaults l = false)
    (hr : s.safety.stop = .run) (hz : predictedZones s (s.candidateMotion (s.candidates s.runCandidate)) = []) :
    (laneStep s).lanes[l].t = clampInt s.lanes[l].softMin s.lanes[l].softMax (s.heldTarget l h) := by
  rw [laneStep_lanes_run hr hz, commitLanes_candidates_t hp ha _ hm, State.runCandidate, hh]
  rfl

/-- R15, R18: where the lane step commits no held step, T stays, in a lane that a miss of this tick disables too. -/
theorem laneStep_t_stop
    (h : s.safety.stop ≠ .run ∨ predictedZones s (s.candidateMotion (s.candidates s.runCandidate)) ≠ []) :
    (laneStep s).lanes[l].t = s.lanes[l].t := by
  obtain ⟨f, hf, hl⟩ := laneStep_lanes_stop h
  rw [hl]
  cases hm : s.missFaults l with
  | true => rw [commitLanes_missed hm ha]
  | false => rw [commitLanes_candidates_t hp ha f hm, hf, Option.getD_none]

end Stepped

/-! ### The target alone -/

/-- R7: a clamp changes a value beyond one of the ends alone, into that end. -/
theorem clampInt_cases (lo hi x : Int) :
    clampInt lo hi x = x ∨ (x < lo ∧ clampInt lo hi x = lo) ∨ (hi < x ∧ clampInt lo hi x = hi) := by
  unfold clampInt
  split <;> [skip; split] <;> simp_all

theorem clampInt_clampInt {lo hi : Int} (h : lo ≤ hi) (x : Int) : clampInt lo hi (clampInt lo hi x) = clampInt lo hi x :=
  have ⟨above, below⟩ := clampInt_range (x := x) h
  clampInt_inside above below

/-- R7, R8: the held step from T0 is the held step from T, but for the excess T0 − T. -/
theorem heldStep_clamped {x : LaneRec} (h : x.softMin ≤ x.softMax) (t0 : Int) (gain sEff : Nat) :
    heldStep x t0 gain sEff =
      { heldStep x (clampInt x.softMin x.softMax t0) gain sEff with excess := t0 - clampInt x.softMin x.softMax t0 } := by
  simp only [heldStep, clampInt_clampInt h]

/-- Settles O30: the first part is the clamp, which a second clamp leaves; the second follows the lane step to its commit. -/
theorem heldStepTarget : Obligations.HeldStepTarget := by
  unfold Obligations.HeldStepTarget
  constructor
  · intro x t0 gain sEff h
    exact ⟨clampInt_cases _ _ t0, rfl, heldStep_clamped h t0 gain sEff⟩
  · intro s l h hp ha hh
    exact ⟨laneStep_t_held hp ha hh, laneStep_t_stop hp ha⟩

end Sys2Proof.Machine
end

section
/-! PROOFS. The ends of the array's erases and reserved-area writes (O47, R66, R76, R83 to R85, R165, R167): what the
scheduler and the transmitters leave of a completion's work, what each completion does, and the statement. -/

namespace Sys2Proof.Machine

open Sys2Proof

/-! ### Events that a port does not lose silently -/

/-- The event is in the port's queue, or the port reports that events were lost (R181). -/
def Noted (e : Event) (q : StationPort) : Prop := e ∈ q.events ∨ q.eventsLost = true

theorem noted_pushEvent_self (e : Event) (q : StationPort) : Noted e (pushEvent e q) := by
  unfold Noted pushEvent
  split <;> simp

theorem Noted.pushEvent {e : Event} {q : StationPort} (h : Noted e q) (x : Event) : Noted e (pushEvent x q) := by
  unfold Machine.pushEvent
  split
  · exact h.imp_left (List.mem_append_left _)
  · exact .inr rfl

theorem Noted.pumpPort {e : Event} {q : StationPort} (h : Noted e q) : Noted e (pumpPort q) := by
  unfold Machine.pumpPort
  repeat' split
  all_goals exact h

/-- R181: the MOTION station of an ACTIVE link has the event, or the indication that it lost one. -/
theorem noted_raiseMotion {s : State} {p : Port} (hl : s.ports[p].link = .active) (hr : s.ports[p].role = some .motion)
    (body : EventBody) : Noted { f := s.tb.f, t := s.tb.t, body := body } (raiseMotion body s).ports[p] := by
  have hm : s.isMotion p = true := by simp only [State.isMotion, State.isActive, hl, hr, decide_true, Bool.and_self]
  have ha : s.isActive p = true := by simp only [State.isActive, hl, decide_true]
  rw [raiseMotion, raiseFor_port, hm, ha]
  exact noted_pushEvent_self _ _

/-! ### What the end of a command leaves of a completion's work -/

/-- What the scheduler and the transmitters can do with the reserved area and what it stores (R76, R81): they start a
write that waits, queue directory writes, store block states, and take no event back. -/
structure ArrayWork (s t : State) : Prop where
  stored : t.mem.stored = { s.mem.stored with blocks := t.mem.stored.blocks }
  programFail : t.mem.programFail = s.mem.programFail
  waits : ∀ r ∈ t.mem.reservedQueue, r ∈ s.mem.reservedQueue ∨ ∃ i, r = .dir i
  profile : ∀ k : ProfileNo, t.lens.slots[k] = s.lens.slots[k] ∨
    (Reserved.profile k ∈ s.mem.reservedQueue ∧ t.lens.slots[k] = { s.lens.slots[k] with store := .writing })
  rig : t.rig = s.rig ∨ (Reserved.rig ∈ s.mem.reservedQueue ∧ t.rig = { s.rig with store := .writing })
  noted : ∀ (p : Port) (e : Event), Noted e s.ports[p] → Noted e t.ports[p]

namespace ArrayWork

theorem refl (s : State) : ArrayWork s s := ⟨rfl, rfl, fun _ => .inl, fun _ => .inl rfl, .inl rfl, fun _ _ => id⟩

theorem trans {s t u : State} (a : ArrayWork s t) (b : ArrayWork t u) : ArrayWork s u where
  stored := by rw [b.stored, a.stored]
  programFail := b.programFail.trans a.programFail
  waits r h := (b.waits r h).elim (a.waits r) .inr
  profile k := by
    rcases b.profile k with hb | ⟨hw, hb⟩
    · rw [hb]
      exact a.profile k
    · have hs := (a.waits _ hw).resolve_right (by simp)
      rcases a.profile k with ha | ⟨-, ha⟩ <;> exact .inr ⟨hs, by rw [hb, ha]⟩
  rig := by
    rcases b.rig with hb | ⟨hw, hb⟩
    · rw [hb]
      exact a.rig
    · have hs := (a.waits _ hw).resolve_right (by simp)
      rcases a.rig with ha | ⟨-, ha⟩ <;> exact .inr ⟨hs, by rw [hb, ha]⟩
  noted p e h := b.noted p e (a.noted p e h)

variable {s t : State} (h : ArrayWork s t)

include h

theorem setMem {m : TakeMemory} (hs : m.stored = { t.mem.stored with blocks := m.stored.blocks })
    (hf : m.programFail = t.mem.programFail)
    (hq : ∀ r ∈ m.reservedQueue, r ∈ t.mem.reservedQueue ∨ ∃ i, r = .dir i) : ArrayWork s (t.setMem m) :=
  h.trans ⟨hs, hf, hq, fun _ => .inl rfl, .inl rfl, fun _ _ => id⟩

/-- A change of the take memory outside the reserved area. -/
theorem setMem_outside {m : TakeMemory} (hs : m.stored = t.mem.stored) (hf : m.programFail = t.mem.programFail)
    (hq : m.reservedQueue = t.mem.reservedQueue) : ArrayWork s (t.setMem m) :=
  h.setMem (by rw [hs]) hf (by rw [hq]; exact fun _ => .inl)

theorem setRecorder (x : Recorder) : ArrayWork s (t.setRecorder x) :=
  h.trans ⟨rfl, rfl, fun _ => .inl, fun _ => .inl rfl, .inl rfl, fun _ _ => id⟩

theorem raiseMotion (body : EventBody) : ArrayWork s (raiseMotion body t) := by
  refine h.trans ⟨rfl, rfl, fun _ => .inl, fun _ => .inl rfl, .inl rfl, fun p e hn => ?_⟩
  rw [Machine.raiseMotion, raiseFor_port]
  split
  · exact hn.pushEvent _
  · exact hn

theorem pump : ArrayWork s (pump t) :=
  h.trans ⟨rfl, rfl, fun _ => .inl, fun _ => .inl rfl, .inl rfl, fun p _ hn => by rw [pump_port]; exact hn.pumpPort⟩

theorem setOp (op : ArrayOp) : ArrayWork s (setOp op t) := h.setMem_outside rfl rfl rfl

theorem setBlock (b : BlockNo) (f : Block → Block) : ArrayWork s (t.setBlock b f) := h.setMem_outside rfl rfl rfl

theorem setSlot (i : SlotNo) (f : Slot → Slot) : ArrayWork s (t.setSlot i f) := h.setMem_outside rfl rfl rfl

theorem setBuffer (k : Fin 2) (f : StageBuffer → StageBuffer) : ArrayWork s (t.setBuffer k f) :=
  h.setMem_outside rfl rfl rfl

theorem storeBlock (b : BlockNo) : ArrayWork s (storeBlock b t) := h.setMem rfl rfl fun _ => .inl

theorem queueDir (i : SlotNo) : ArrayWork s (queueDir i t) := by
  unfold Machine.queueDir queueReserved
  split
  · exact h
  · refine h.setMem rfl rfl fun r hr => ?_
    rcases List.mem_append.mp hr with hr | hr
    · exact .inl hr
    · exact .inr ⟨i, List.mem_singleton.mp hr⟩

theorem emptySlot (i : SlotNo) : ArrayWork s (emptySlot i t) :=
  ((forEach_keeps (P := ArrayWork s) (fun b _ hu => hu.setBlock b _) _ h).setSlot i _).queueDir i

theorem completeSlot (i : SlotNo) (f : Header → Header) : ArrayWork s (completeSlot i f t) := (h.setSlot i _).queueDir i

/-! ### The ends of a recording and of an upload with no room -/

theorem recIdle (outcome : RecOutcome) (n : Nat) (interrupted implied : Bool) :
    ArrayWork s (recIdle outcome n interrupted implied t) := (h.setRecorder _).raiseMotion _

theorem drainFinish : ArrayWork s (drainFinish t) := by
  unfold Machine.drainFinish
  split
  · split
    · exact h
    · dsimp only
      split
      · exact (h.emptySlot _).recIdle _ _ _ _
      · exact (h.completeSlot _ _).recIdle _ _ _ _
  · exact h

theorem recordEnds (outcome : RecOutcome) : ArrayWork s (recordEnds outcome t) := by
  unfold Machine.recordEnds
  split
  · exact h
  · exact (h.setRecorder _).recIdle _ _ _ _
  · exact (h.setRecorder _).drainFinish
  · exact h.setRecorder _

theorem recordNoRoom (i : SlotNo) : ArrayWork s (recordNoRoom i t) := ((h.setRecorder _).recordEnds _).drainFinish

theorem chunkNoRoom (k : Fin 2) : ArrayWork s (chunkNoRoom k t) := (h.setBuffer k _).raiseMotion _

theorem uploadNoRoom (i : SlotNo) (k : Fin 2) : ArrayWork s (uploadNoRoom i k t) := by
  unfold Machine.uploadNoRoom
  dsimp only
  split
  · exact ((h.chunkNoRoom k).chunkNoRoom _).setMem_outside rfl rfl rfl
  · exact (h.chunkNoRoom k).setMem_outside rfl rfl rfl

/-! ### The operations the scheduler starts -/

theorem placeNext {i : SlotNo} {u : State} {b : BlockNo} {n : Nat} (hp : t.placeNext i = some (u, b, n)) :
    ArrayWork s u := by
  rcases placeNext_cases hp with ⟨rfl, -⟩ | ⟨-, rfl, -⟩
  · exact h
  · exact (h.setBlock b _).setSlot i _

theorem startPlayRead : ArrayWork s (startPlayRead t) := by
  unfold Machine.startPlayRead
  split
  · exact h
  · exact h.setOp _

theorem startSampleProgram {i : SlotNo} {u : State} (hu : startSampleProgram i t = some u) : ArrayWork s u := by
  obtain ⟨⟨v, b, n⟩, hp, rfl⟩ := Option.map_eq_some_iff.mp hu
  exact (h.placeNext hp).setOp _

theorem startChunkPart {i : SlotNo} {k : Fin 2} {u : State} (hu : startChunkPart i k t = some u) : ArrayWork s u := by
  obtain ⟨⟨v, b, n⟩, hp, rfl⟩ := Option.map_eq_some_iff.mp hu
  exact ((h.placeNext hp).setBuffer k _).setOp _

theorem startErase : ArrayWork s (startErase t) := by
  unfold Machine.startErase
  split
  · exact (h.setBlock _ _).setOp _
  · split
    · exact ((h.setBlock _ _).storeBlock _).setOp _
    · exact h

/-- R66, R76, R165: the write that starts leaves the queue, and its owner, if it has one, is WRITING. -/
theorem startReserved : ArrayWork s (startReserved t) := by
  refine h.trans ?_
  unfold Machine.startReserved
  split
  · exact .refl t
  next r rest hq =>
    have left : ∀ x ∈ rest, x ∈ t.mem.reservedQueue ∨ ∃ i, x = .dir i := fun x hx => .inl (by simp [hq, hx])
    have waited : r ∈ t.mem.reservedQueue := by simp [hq]
    cases r with
    | dir i =>
      have taken : ArrayWork t (t.setMem { t.mem with reservedQueue := rest }) := (refl t).setMem rfl rfl left
      exact (taken.setSlot i _).setOp _
    | profile k =>
      refine ⟨rfl, rfl, left, fun j => ?_, .inl rfl, fun _ _ => id⟩
      by_cases hj : k = j
      · subst hj
        exact .inr ⟨waited, updAt_same _ _ _⟩
      · exact .inl (updAt_other hj)
    | rig => exact ⟨rfl, rfl, left, fun _ => .inl rfl, .inr ⟨waited, rfl⟩, fun _ _ => id⟩

theorem scheduleRounds (n : Nat) : ArrayWork s (scheduleRounds n t) := by
  induction n generalizing t with
  | zero => exact h
  | succ n ih =>
    have sampleWork : ArrayWork s (match t.recorder.slot with
        | none => t
        | some i => match Machine.startSampleProgram i t with
          | some u => u
          | none => Machine.scheduleRounds n (Machine.recordNoRoom i t)) := by
      split
      · exact h
      · split
        · next hu => exact h.startSampleProgram hu
        · exact ih (h.recordNoRoom _)
    unfold Machine.scheduleRounds
    dsimp only
    split
    · exact h.startPlayRead
    split
    · exact sampleWork
    split
    · exact h.startPlayRead
    split
    · exact sampleWork
    split
    · exact h.startReserved
    split
    · split
      · next hu => exact h.startChunkPart hu
      · exact ih (h.uploadNoRoom _ _)
    · split
      · exact h.setOp _
      · split
        · exact h
        · exact h.startErase

end ArrayWork

theorem arrayWork_settle (s : State) : ArrayWork s (settle s) := by
  refine ArrayWork.pump ?_
  unfold schedule
  split
  · exact .refl s
  · split
    · exact .refl s
    · exact (ArrayWork.refl s).scheduleRounds 3

/-- R81: a busy array starts nothing. -/
theorem settle_mem_busy {s : State} (h : s.mem.op.isSome = true) : (settle s).mem = s.mem := by
  rw [settle, (pump_frame _).mem, schedule, h]
  simp

/-! ### The completions -/

section Completions

variable {s : State} {b : BlockNo}

theorem exec_eraseDone (h : s.mem.op = some (.erase b)) (verified : Bool) :
    exec (.eraseDone verified) s = .next (settle (eraseEnd b verified s)) := by
  simp only [exec, execEraseDone, eraseCompletes, h]

theorem exec_eraseSuspendDone_finished (h : s.mem.op = some (.suspend b)) (verified : Bool) :
    exec (.eraseSuspendDone (.finished verified)) s = .next (settle (eraseEnd b verified s)) := by
  simp only [exec, execEraseSuspendDone, suspendCompletes, h]

theorem exec_eraseSuspendDone_unfinished (h : s.mem.op = some (.suspend b)) :
    exec (.eraseSuspendDone .unfinished) s =
      .next (settle (freeArray (s.setBlock b fun x => { x with state := .erasing true }))) := by
  simp only [exec, execEraseSuspendDone, suspendCompletes, h]

theorem exec_eraseResumeDone {again : Bool} (h : s.mem.op = some (.resume b again)) :
    exec .eraseResumeDone s = .next (settle (setOp (if again then .suspend b else .erase b) s)) := by
  simp only [exec, execEraseResumeDone, resumeCompletes, h]

/-- R83, R84: an erase ends by its own completion or by a suspend that comes after its end. -/
theorem exec_erase_ends {c : Instr} {verified : Bool} (h : (c = .eraseDone verified ∧ s.mem.op = some (.erase b)) ∨
    (c = .eraseSuspendDone (.finished verified) ∧ s.mem.op = some (.suspend b))) :
    exec c s = .next (settle (eraseEnd b verified s)) := by
  rcases h with ⟨rfl, h⟩ | ⟨rfl, h⟩
  · exact exec_eraseDone h verified
  · exact exec_eraseSuspendDone_finished h verified

end Completions

/-! ### The end of an erase (R83) -/

/-- A block that is FREE is one the next allocation may take: the lowest FREE block is not above it (R78). -/
theorem lowestFree_of_free {s : State} {b : BlockNo} (h : s.mem.blocks[b].state = .free) :
    ∃ x, s.lowestFree = some x ∧ x ≤ b ∧ s.mem.blocks[x].state = .free := by
  unfold State.lowestFree
  cases hf : (List.finRange 64).find? fun b => s.mem.blocks[b].state = .free with
  | none => exact absurd h (by simpa using List.find?_eq_none.mp hf b (List.mem_finRange b))
  | some x =>
    have hx : s.mem.blocks[x].state = .free := by simpa using List.find?_some hf
    obtain ⟨-, i, hi, rfl, hlow⟩ := List.find?_eq_some_iff_getElem.mp hf
    refine ⟨_, rfl, ?_, hx⟩
    by_contra hb
    have hlt : b.val < i := Fin.lt_def.mp (by simpa using hb)
    exact absurd h (by simpa using hlow b hlt)

theorem not_free_of_lowestFree_none {s : State} (h : s.lowestFree = none) (b : BlockNo) :
    s.mem.blocks[b].state ≠ .free := fun hb => by
  obtain ⟨x, hx, -⟩ := lowestFree_of_free hb
  rw [h] at hx
  cases hx

theorem eraseEnd_op (b : BlockNo) (verified : Bool) (s : State) : (eraseEnd b verified s).mem.op = none := by
  cases verified <;> rfl

theorem eraseEnd_stored (b : BlockNo) (verified : Bool) (s : State) :
    (eraseEnd b verified s).mem.stored.blocks[b] = if verified then .free else .bad := by
  cases verified <;> simp [eraseEnd, storeBlock, State.setBlock, (raiseMotion_frame _ _).mem]

/-- Every block but the erased one is as it was. -/
theorem eraseEnd_verified_block (b c : BlockNo) (s : State) :
    (eraseEnd b true s).mem.blocks[c] = if b = c then { state := .free, data := [] } else s.mem.blocks[c] :=
  updAt_get s.mem.blocks b c _

/-- R78, R83: the erased block is FREE for the next allocation, which takes it where no other block was FREE. -/
theorem eraseEnd_verified_lowestFree (b : BlockNo) (s : State) :
    ∃ x, (eraseEnd b true s).lowestFree = some x ∧ x ≤ b ∧ (s.lowestFree = none → x = b) := by
  obtain ⟨x, hx, hle, hfree⟩ := lowestFree_of_free (s := eraseEnd b true s) (b := b)
    (by simp only [eraseEnd_verified_block, if_true])
  refine ⟨x, hx, hle, fun hn => ?_⟩
  rw [eraseEnd_verified_block] at hfree
  split at hfree
  · next e => exact e.symm
  · exact absurd hfree (not_free_of_lowestFree_none hn x)

/-- R83, R181: a failed erase is reported to the MOTION station. -/
theorem noted_eraseEnd_failed {s : State} {p : Port} (b : BlockNo) (hl : s.ports[p].link = .active)
    (hr : s.ports[p].role = some .motion) :
    Noted { f := s.tb.f, t := s.tb.t, body := .blockBad b } (eraseEnd b false s).ports[p] :=
  noted_raiseMotion (s := storeBlock b _) hl hr (.blockBad b)

/-! ### The end of a reserved-area write (R76) -/

/-- The take memory once the write has ended: the content stored, or PROGRAM_FAIL and the stored copies as they were. -/
def afterWrite (w : ReservedWrite) (ok : Bool) (m : TakeMemory) : TakeMemory :=
  if ok then { m with op := none, stored := storeContent w m.stored } else { m with op := none, programFail := true }

theorem afterWrite_queue (w : ReservedWrite) (ok : Bool) (m : TakeMemory) :
    (afterWrite w ok m).reservedQueue = m.reservedQueue := by
  cases ok <;> rfl

/-- The state in which the scheduler chooses next once the write has ended. -/
def written (w : ReservedWrite) (ok : Bool) (s : State) : State := writeEnds w ok (s.setMem (afterWrite w ok s.mem))

theorem exec_reservedWriteDone {s : State} {w : ReservedWrite} (h : s.mem.op = some (.reserved w)) (ok : Bool) :
    exec (.reservedWriteDone ok) s = .next (settle (written w ok s)) := by
  cases ok <;> simp only [exec, execReservedWriteDone, reservedDone, h] <;> rfl

theorem freezeEnds_frame (ok : Bool) (s : State) :
    SameButQueues (s.setRig { s.rig with
      record := { s.rig.record with frozen := s.rig.record.frozen || ok }
      freezePending := false }) (freezeEnds ok s) := raiseMotion_frame _ _

theorem writeEnds_mem (w : ReservedWrite) (ok : Bool) (s : State) : (writeEnds w ok s).mem = s.mem := by
  cases w with
  | dir => rfl
  | profile => rfl
  | rig c =>
    unfold writeEnds
    dsimp only
    split
    · exact (freezeEnds_frame _ _).mem
    · rfl

/-- R165, R167: the rig record's store state follows the end of its write; a freeze write ends the freeze, and freezes the
record where it succeeds. -/
theorem writeEnds_rig (content : RigRecord) (ok : Bool) (s : State) :
    (writeEnds (.rig content) ok s).rig =
      { record := { s.rig.record with frozen := s.rig.record.frozen || (content.frozen && s.rig.freezePending && ok) }
        store := storeAfter ok (s.mem.reservedQueue.contains .rig)
        freezePending := s.rig.freezePending && !content.frozen } := by
  unfold writeEnds
  dsimp only
  split
  · next hf =>
    obtain ⟨hc, hp⟩ := Bool.and_eq_true_iff.mp hf
    rw [(freezeEnds_frame _ _).rig]
    simp [hc, hp]
  · next hf => cases hp : s.rig.freezePending <;> simp_all

section Written

variable (s : State)

theorem written_mem (w : ReservedWrite) (ok : Bool) : (written w ok s).mem = afterWrite w ok s.mem := writeEnds_mem _ _ _

theorem written_stored (w : ReservedWrite) : (written w true s).mem.stored = storeContent w s.mem.stored := by
  rw [written_mem]; rfl

theorem written_failed_stored (w : ReservedWrite) : (written w false s).mem.stored = s.mem.stored := by
  rw [written_mem]; rfl

theorem written_programFail (w : ReservedWrite) (ok : Bool) :
    (written w ok s).mem.programFail = (s.mem.programFail || !ok) := by
  rw [written_mem]
  cases ok <;> simp [afterWrite]

theorem written_queue (w : ReservedWrite) (ok : Bool) : (written w ok s).mem.reservedQueue = s.mem.reservedQueue := by
  rw [written_mem, afterWrite_queue]

/-- R66: the profile's store state follows the end of its write. -/
theorem written_profile (k : ProfileNo) (content : Profile) (ok : Bool) :
    (written (.profile k content) ok s).lens.slots[k] = { s.lens.slots[k] with
      store := storeAfter ok (s.mem.reservedQueue.contains (.profile k)) } := by
  rw [← afterWrite_queue (.profile k content) ok s.mem]
  exact updAt_same _ _ _

theorem written_rig (content : RigRecord) (ok : Bool) :
    (written (.rig content) ok s).rig =
      { record := { s.rig.record with frozen := s.rig.record.frozen || (content.frozen && s.rig.freezePending && ok) }
        store := storeAfter ok (s.mem.reservedQueue.contains .rig)
        freezePending := s.rig.freezePending && !content.frozen } := by
  rw [written, writeEnds_rig, State.setMem_rig, State.setMem_mem, afterWrite_queue]

/-- R167, R181: the end of a freeze write is reported to the MOTION station. -/
theorem noted_written_freeze {s : State} {content : RigRecord} {p : Port} (hc : content.frozen = true)
    (hf : s.rig.freezePending = true) (hl : s.ports[p].link = .active) (hr : s.ports[p].role = some .motion) (ok : Bool) :
    Noted { f := s.tb.f, t := s.tb.t, body := .rigFrozen ok } (written (.rig content) ok s).ports[p] := by
  simp only [written, writeEnds, State.setMem_rig, hc, hf, Bool.and_self, if_true]
  exact noted_raiseMotion (s := State.setRig _ _) hl hr _

end Written

/-- A table after a list of entries was written, at an index where the entries that name it agree: their value, or, where
none names it, the value that was there. -/
theorem foldl_updAt_get {α : Type} {n : Nat} {c : Fin n} {y : α} {es : List (Fin n × α)} (v : Vector α n)
    (same : ∀ z, (c, z) ∈ es → z = y) (given : (c, y) ∈ es ∨ v[c] = y) :
    (es.foldl (fun v e => updAt v e.1 fun _ => e.2) v)[c] = y := by
  induction es generalizing v with
  | nil => simpa using given
  | cons e es ih =>
    refine ih _ (fun z hz => same z (List.mem_cons_of_mem _ hz)) ?_
    rw [updAt_get]
    split
    · next he => exact .inr (same e.2 (by simp [← he]))
    · next he =>
      refine given.imp_left fun hy => (List.mem_cons.mp hy).resolve_left ?_
      rintro rfl
      exact he rfl

/-- R76: a directory write stores the slot's record and the states of the blocks it carries. -/
theorem storeContent_dir (i : SlotNo) (content : SlotRecord) (released : List (BlockNo × BlockState)) (x : Stored) :
    (storeContent (.dir i content released) x).slots[i] = content ∧
    (∀ j : SlotNo, j ≠ i → (storeContent (.dir i content released) x).slots[j] = x.slots[j]) ∧
    ∀ c : BlockNo,
      ((∀ y, (c, y) ∉ released) → (storeContent (.dir i content released) x).blocks[c] = x.blocks[c]) ∧
      ∀ y, (c, y) ∈ released → (∀ z, (c, z) ∈ released → z = y) →
        (storeContent (.dir i content released) x).blocks[c] = y :=
  ⟨updAt_same _ _ _, fun _ hj => updAt_other (Ne.symm hj), fun _ =>
    ⟨fun hn => foldl_updAt_get _ (fun z hz => absurd hz (hn z)) (.inr rfl),
      fun _ hy same => foldl_updAt_get _ same (.inl hy)⟩⟩

/-! ### What the scheduler leaves of the store states -/

namespace ArrayWork

variable {s t : State} (h : ArrayWork s t)

include h

theorem profile_idle {k : ProfileNo} (hk : Reserved.profile k ∉ s.mem.reservedQueue) :
    t.lens.slots[k] = s.lens.slots[k] := (h.profile k).resolve_right fun ⟨hw, _⟩ => hk hw

theorem profile_waiting {k : ProfileNo} (hk : s.lens.slots[k].store = .writeWaiting) :
    t.lens.slots[k].store = .writeWaiting ∨ t.lens.slots[k].store = .writing := by
  rcases h.profile k with ht | ⟨-, ht⟩
  · exact .inl (by rw [ht, hk])
  · exact .inr (by rw [ht])

theorem rig_idle (hr : Reserved.rig ∉ s.mem.reservedQueue) : t.rig = s.rig := h.rig.resolve_right fun ⟨hw, _⟩ => hr hw

theorem rig_waiting (hr : s.rig.store = .writeWaiting) : t.rig.store = .writeWaiting ∨ t.rig.store = .writing := by
  rcases h.rig with ht | ⟨-, ht⟩
  · exact .inl (by rw [ht, hr])
  · exact .inr (by rw [ht])

theorem rig_record : t.rig.record = s.rig.record := by
  rcases h.rig with ht | ⟨-, ht⟩ <;> rw [ht]

theorem rig_freezePending : t.rig.freezePending = s.rig.freezePending := by
  rcases h.rig with ht | ⟨-, ht⟩ <;> rw [ht]

theorem stored_slots : t.mem.stored.slots = s.mem.stored.slots := by rw [h.stored]

theorem stored_profiles : t.mem.stored.profiles = s.mem.stored.profiles := by rw [h.stored]

theorem stored_rig : t.mem.stored.rig = s.mem.stored.rig := by rw [h.stored]

end ArrayWork

/-! ### The statement's parts -/

section ReservedWrites

variable {s : State}

/-- What a completed reserved-area write leads to, up to the scheduler and the transmitters. -/
theorem reservedWriteDone_work {w : ReservedWrite} (h : s.mem.op = some (.reserved w)) (ok : Bool) :
    ∃ t, exec (.reservedWriteDone ok) s = .next t ∧ ArrayWork (written w ok s) t :=
  ⟨_, exec_reservedWriteDone h ok, arrayWork_settle _⟩

theorem reservedWrite_fails {w : ReservedWrite} (h : s.mem.op = some (.reserved w)) :
    ∃ t, exec (.reservedWriteDone false) s = .next t ∧ t.mem.programFail = true ∧
      t.mem.stored.slots = s.mem.stored.slots := by
  obtain ⟨t, ht, hw⟩ := reservedWriteDone_work h false
  refine ⟨t, ht, ?_, ?_⟩
  · rw [hw.programFail, written_programFail, Bool.not_false, Bool.or_true]
  · rw [hw.stored_slots, written_failed_stored]

theorem dirWrite_succeeds {i : SlotNo} {record : SlotRecord} {released : List (BlockNo × BlockState)}
    (h : s.mem.op = some (.reserved (.dir i record released))) :
    ∃ t, exec (.reservedWriteDone true) s = .next t ∧ t.mem.stored.slots[i] = record ∧
      t.mem.programFail = s.mem.programFail := by
  obtain ⟨t, ht, hw⟩ := reservedWriteDone_work h true
  refine ⟨t, ht, ?_, ?_⟩
  · rw [hw.stored_slots, written_stored, (storeContent_dir i record released _).1]
  · rw [hw.programFail, written_programFail, Bool.not_true, Bool.or_false]

section Profile

variable {k : ProfileNo} {content : Profile} (h : s.mem.op = some (.reserved (.profile k content)))

include h

theorem profileWrite_succeeds : ∃ t, exec (.reservedWriteDone true) s = .next t ∧
    t.mem.stored.profiles[k] = some content ∧
    (Reserved.profile k ∉ s.mem.reservedQueue → t.lens.slots[k] = { s.lens.slots[k] with store := .stored }) := by
  obtain ⟨t, ht, hw⟩ := reservedWriteDone_work h true
  refine ⟨t, ht, ?_, fun hk => ?_⟩
  · rw [hw.stored_profiles, written_stored]
    exact updAt_same _ _ _
  · rw [hw.profile_idle (by rwa [written_queue]), written_profile]
    simp [hk, storeAfter]

theorem profileWrite_fails : ∃ t, exec (.reservedWriteDone false) s = .next t ∧
    t.mem.stored.profiles[k] = s.mem.stored.profiles[k] ∧
    (Reserved.profile k ∉ s.mem.reservedQueue → t.lens.slots[k] = { s.lens.slots[k] with store := .failed }) := by
  obtain ⟨t, ht, hw⟩ := reservedWriteDone_work h false
  refine ⟨t, ht, ?_, fun hk => ?_⟩
  · rw [hw.stored_profiles, written_failed_stored]
  · rw [hw.profile_idle (by rwa [written_queue]), written_profile]
    simp [hk, storeAfter]

theorem profileWrite_waits (ok : Bool) (hk : Reserved.profile k ∈ s.mem.reservedQueue) :
    ∃ t, exec (.reservedWriteDone ok) s = .next t ∧
      (t.lens.slots[k].store = .writeWaiting ∨ t.lens.slots[k].store = .writing) := by
  obtain ⟨t, ht, hw⟩ := reservedWriteDone_work h ok
  refine ⟨t, ht, hw.profile_waiting ?_⟩
  rw [written_profile]
  simp [hk, storeAfter]

end Profile

section RigRecords

variable {content : RigRecord} (h : s.mem.op = some (.reserved (.rig content)))

include h

theorem rigWrite_succeeds : ∃ t, exec (.reservedWriteDone true) s = .next t ∧ t.mem.stored.rig = some content ∧
    (content.frozen = true → s.rig.freezePending = true → t.rig.record.frozen = true ∧ t.rig.freezePending = false) ∧
    (content.frozen = false → t.rig.record = s.rig.record ∧ t.rig.freezePending = s.rig.freezePending) := by
  obtain ⟨t, ht, hw⟩ := reservedWriteDone_work h true
  refine ⟨t, ht, ?_, fun hc hf => ?_, fun hc => ?_⟩
  · rw [hw.stored_rig, written_stored]
    rfl
  · simp [hw.rig_record, hw.rig_freezePending, written_rig, hc, hf]
  · simp [hw.rig_record, hw.rig_freezePending, written_rig, hc]

theorem rigWrite_ends (ok : Bool) : ∃ t, exec (.reservedWriteDone ok) s = .next t ∧
    (ok = false → t.mem.stored.rig = s.mem.stored.rig ∧ t.rig.record = s.rig.record) ∧
    (Reserved.rig ∉ s.mem.reservedQueue → t.rig.store = if ok then .stored else .failed) ∧
    (Reserved.rig ∈ s.mem.reservedQueue → t.rig.store = .writeWaiting ∨ t.rig.store = .writing) ∧
    (content.frozen = true → s.rig.freezePending = true → t.rig.freezePending = false ∧
      ∀ p : Port, s.ports[p].link = .active → s.ports[p].role = some .motion →
        (∃ e ∈ t.ports[p].events, e.body = .rigFrozen ok) ∨ t.ports[p].eventsLost = true) ∧
    (content.frozen = false ∨ s.rig.freezePending = false → t.rig.freezePending = s.rig.freezePending) := by
  obtain ⟨t, ht, hw⟩ := reservedWriteDone_work h ok
  refine ⟨t, ht, fun hk => ?_, fun hr => ?_, fun hr => hw.rig_waiting ?_, fun hc hf => ⟨?_, fun p hl hm => ?_⟩,
    fun hn => ?_⟩
  · subst hk
    simp [hw.stored_rig, written_failed_stored, hw.rig_record, written_rig]
  · rw [hw.rig_idle (by rwa [written_queue]), written_rig]
    simp [hr, storeAfter]
  · rw [written_rig]
    simp [hr, storeAfter]
  · simp [hw.rig_freezePending, written_rig, hc]
  · exact (hw.noted p _ (noted_written_freeze hc hf hl hm ok)).imp_left fun he => ⟨_, he, rfl⟩
  · rw [hw.rig_freezePending, written_rig]
    rcases hn with hn | hn <;> simp [hn]

end RigRecords

end ReservedWrites

/-- Settles O47: each completion is the end of its operation followed by the scheduler's choice, of which `ArrayWork` says
what it leaves of the write's content, of the store states and of the events raised. -/
theorem eraseAndReservedWriteComplete : Obligations.EraseAndReservedWriteComplete := by
  unfold Obligations.EraseAndReservedWriteComplete
  intro b s
  refine ⟨fun c hc => ?verified, fun c hc => ?failed, exec_eraseSuspendDone_unfinished, fun again h => ?resumed,
    fun w h => ⟨?fails, ?dir, ?dirState, ?profile, ?profileEnds, ?rig, ?rigEnds⟩⟩
  case verified =>
    exact ⟨exec_erase_ends hc, eraseEnd_op b true s, eraseEnd_stored b true s, eraseEnd_verified_lowestFree b s⟩
  case failed =>
    exact ⟨exec_erase_ends hc, eraseEnd_op b false s, eraseEnd_stored b false s, rfl, fun p hl hr =>
      (arrayWork_settle _).noted p _ (noted_eraseEnd_failed b hl hr)⟩
  case resumed => exact ⟨_, exec_eraseResumeDone h, settle_mem_busy rfl⟩
  case fails =>
    obtain ⟨t, ht, hf, hs⟩ := reservedWrite_fails h
    exact ⟨t, ht, hf, fun i => by rw [hs]⟩
  case dir =>
    rintro i record released rfl
    exact dirWrite_succeeds h
  case dirState =>
    rintro i record released rfl
    obtain ⟨hi, hj, hb⟩ := storeContent_dir i record released s.mem.stored
    exact ⟨_, exec_reservedWriteDone h true, hi, hj, rfl, rfl, hb⟩
  case profile =>
    rintro k content rfl
    exact profileWrite_succeeds h
  case profileEnds =>
    rintro k content rfl
    exact ⟨profileWrite_fails h, profileWrite_waits h⟩
  case rig =>
    rintro content rfl
    exact rigWrite_succeeds h
  case rigEnds =>
    rintro content ok rfl
    exact rigWrite_ends h ok

end Sys2Proof.Machine
end

section
/-! PROOFS. What keeps a property of states: for each operation of the machine, which smaller operations the property has
to survive. An invariant, or the equation that says that a field is left alone, is proved for the smaller operations, and
the lemmas of this file carry it to the larger ones. -/

namespace Sys2Proof.Machine

open Sys2Proof

/-! ### The take memory and the Recorder -/

/-- The change of the take memory leaves the stored rig record alone and begins no write of one. -/
def RigKept (m m' : TakeMemory) : Prop :=
  m'.stored.rig = m.stored.rig ∧ (m'.op = m.op ∨ ∀ r, m'.op ≠ some (.reserved (.rig r)))

theorem RigKept.same {m m' : TakeMemory} (hs : m'.stored.rig = m.stored.rig) (ho : m'.op = m.op) : RigKept m m' :=
  ⟨hs, .inl ho⟩

theorem dropRead_cases (p : ReadDest → Bool) (op : Option ArrayOp) :
    dropRead p op = op ∨ ∃ i n d, op = some (.read i n d) ∧ dropRead p op = some (.read i n .dropped) := by
  unfold dropRead
  split
  · next i n d =>
    cases h : p d with
    | false => exact .inl (by simp)
    | true => exact .inr ⟨i, n, d, rfl, by simp⟩
  · exact .inl rfl

theorem orphanChunk_cases (op : Option ArrayOp) :
    orphanChunk op = op ∨ ∃ i b k n l, op = some (.chunkPart i b k n l) ∧
      orphanChunk op = some (.chunkPart i b k n false) := by
  unfold orphanChunk
  split
  · next i b k n l => exact .inr ⟨i, b, k, n, l, rfl, rfl⟩
  · exact .inl rfl

theorem rigKept_dropRead (p : ReadDest → Bool) (m : TakeMemory) : RigKept m { m with op := dropRead p m.op } := by
  refine ⟨rfl, ?_⟩
  rcases dropRead_cases p m.op with h | ⟨i, n, d, -, h⟩
  · exact .inl h
  · exact .inr fun r => by simp [h]

/-- The property survives events. -/
structure KeepsEvents (P : State → Prop) : Prop where
  raise : ∀ aud body s, P s → P (raiseFor aud body s)

namespace KeepsEvents

variable {P : State → Prop} (k : KeepsEvents P) {s : State}

include k

theorem raiseAll (body : EventBody) (h : P s) : P (raiseAll body s) := k.raise _ _ _ h
theorem raiseMotion (body : EventBody) (h : P s) : P (raiseMotion body s) := k.raise _ _ _ h
theorem raiseLane (l : Lane) (x : Option Holder) (body : EventBody) (h : P s) : P (raiseLane l x body s) := k.raise _ _ _ h

end KeepsEvents

/-- The property survives every change of the take memory, but for writes of the rig record, and of the Recorder whose
write queue does not grow beyond 8. -/
structure KeepsTakes (P : State → Prop) : Prop extends KeepsEvents P where
  mem : ∀ m s, RigKept s.mem m → P s → P (s.setMem m)
  recorder : ∀ r s, r.queue.length ≤ max 8 s.recorder.queue.length → P s → P (s.setRecorder r)

namespace KeepsTakes

variable {P : State → Prop} (k : KeepsTakes P) {s : State}

include k

/-- A change of the take memory that is none of the operation in progress or of the stored copies. -/
theorem table {m : TakeMemory} (hs : m.stored.rig = s.mem.stored.rig) (ho : m.op = s.mem.op) (h : P s) : P (s.setMem m) :=
  k.mem _ _ (.same hs ho) h

/-- A change of the Recorder that adds no sample to the write queue. -/
theorem recorderQueue {r : Recorder} (hq : r.queue = s.recorder.queue ∨ r.queue = []) (h : P s) : P (s.setRecorder r) :=
  k.recorder _ _ (by rcases hq with hq | hq <;> simp [hq]) h

theorem setSlot (i : SlotNo) (f : Slot → Slot) (h : P s) : P (s.setSlot i f) := k.table rfl rfl h
theorem setBlock (b : BlockNo) (f : Block → Block) (h : P s) : P (s.setBlock b f) := k.table rfl rfl h
theorem setBuffer (i : Fin 2) (f : StageBuffer → StageBuffer) (h : P s) : P (s.setBuffer i f) := k.table rfl rfl h
theorem storeBlock (b : BlockNo) (h : P s) : P (storeBlock b s) := k.table rfl rfl h
theorem emptyBuffers (h : P s) : P (emptyBuffers s) := k.table rfl rfl h

theorem freeArray (h : P s) : P (freeArray s) := k.mem _ _ ⟨rfl, .inr fun r => by simp⟩ h

theorem setOp {op : ArrayOp} (ho : ∀ r, op ≠ .reserved (.rig r)) (h : P s) : P (setOp op s) :=
  k.mem _ _ ⟨rfl, .inr fun r hr => ho r (by simpa using hr)⟩ h

theorem queueReserved (r : Reserved) (h : P s) : P (queueReserved r s) := by
  unfold Machine.queueReserved
  split
  · exact h
  · exact k.table rfl rfl h

theorem queueDir (i : SlotNo) (h : P s) : P (queueDir i s) := k.queueReserved _ h

theorem emptySlot (i : SlotNo) (h : P s) : P (emptySlot i s) :=
  k.queueDir i (k.setSlot i _ (forEach_keeps (fun b _ hs => k.setBlock b _ hs) _ h))

theorem completeSlot (i : SlotNo) (f : Header → Header) (h : P s) : P (completeSlot i f s) :=
  k.queueDir i (k.setSlot i _ h)

theorem programFailed (b : BlockNo) (h : P s) : P (programFailed b s) :=
  k.storeBlock b (k.table rfl rfl (k.setBlock b _ h))

theorem eraseEnd (b : BlockNo) (verified : Bool) (h : P s) : P (eraseEnd b verified s) := by
  have freed : P (s.setMem { s.mem with op := none }) := k.freeArray h
  unfold Machine.eraseEnd
  dsimp only
  split
  · exact k.storeBlock b (k.setBlock b _ freed)
  · exact k.raiseMotion _ (k.storeBlock b (k.table rfl rfl (k.setBlock b _ freed)))

theorem suspendErase (h : P s) : P (suspendErase s) := by
  unfold Machine.suspendErase
  split
  · exact k.mem _ _ ⟨rfl, .inr fun r => by simp⟩ h
  · exact k.mem _ _ ⟨rfl, .inr fun r => by simp⟩ h
  · exact h

theorem discardUpload (h : P s) : P (discardUpload s) := by
  unfold Machine.discardUpload
  split
  · exact h
  · next i hi =>
    refine k.mem _ _ ⟨rfl, ?_⟩ (k.emptySlot i (k.emptyBuffers h))
    rcases orphanChunk_cases (Machine.emptySlot i (Machine.emptyBuffers s)).mem.op with ho | ⟨_, _, _, _, _, -, ho⟩
    · exact .inl ho
    · exact .inr fun r => by simp [ho]

theorem dropFetch (p : Port) (h : P s) : P (dropFetch p s) := k.mem _ _ (rigKept_dropRead _ s.mem) h

theorem chunkNoRoom (i : Fin 2) (h : P s) : P (chunkNoRoom i s) := k.raiseMotion _ (k.setBuffer i _ h)

theorem uploadNoRoom (i : SlotNo) (b : Fin 2) (h : P s) : P (uploadNoRoom i b s) := by
  unfold Machine.uploadNoRoom
  dsimp only
  split
  · exact k.table rfl rfl (k.chunkNoRoom _ (k.chunkNoRoom b h))
  · exact k.table rfl rfl (k.chunkNoRoom b h)

theorem recIdle (outcome : RecOutcome) (n : Nat) (interrupted implied : Bool) (h : P s) :
    P (recIdle outcome n interrupted implied s) :=
  k.raiseMotion _ (k.recorderQueue (.inr rfl) h)

theorem drainFinish (h : P s) : P (drainFinish s) := by
  unfold Machine.drainFinish
  split
  · split
    · exact h
    · dsimp only
      split
      · exact k.recIdle _ _ _ _ (k.emptySlot _ h)
      · exact k.recIdle _ _ _ _ (k.completeSlot _ _ h)
  · exact h

theorem recordEnds (outcome : RecOutcome) (h : P s) : P (recordEnds outcome s) := by
  unfold Machine.recordEnds
  split
  · exact h
  · exact k.recIdle _ _ _ _ (k.recorderQueue (.inl rfl) h)
  · exact k.drainFinish (k.recorderQueue (.inl rfl) h)
  · exact k.recorderQueue (.inl rfl) h

theorem recordNoRoom (i : SlotNo) (h : P s) : P (recordNoRoom i s) :=
  k.drainFinish (k.recordEnds _ (k.recorderQueue (.inr rfl) h))

theorem composeSample (h : P s) : P (composeSample s) := by
  unfold Machine.composeSample
  dsimp only
  split
  · exact h
  · split
    · next hq =>
      have queued : P (s.setRecorder { s.recorder with
          composed := s.recorder.composed + 1
          marks := Marks.none
          spanOpen := spanAfter s.recorder.spanOpen s.recorder.marks
          queue := s.recorder.queue ++ [{ offset := s.recorder.composed, marks := s.recorder.marks,
                                          pos := (LaneSet.members s.recorder.lanes).map fun l => s.lanes[l].p }] }) :=
        k.recorder _ _ (by simp only [List.length_append, List.length_singleton]; omega) h
      split
      · exact k.recordEnds _ queued
      · exact queued
    · exact k.recordEnds _ h

theorem recordStart (i : SlotNo) (h : P s) : P (recordStart i s) := by
  unfold Machine.recordStart
  split
  · exact k.recordEnds _ h
  · exact k.raiseMotion _ (k.queueDir i (k.setSlot i _ (k.recorderQueue (.inl rfl) h)))

theorem recorderFrame (h : P s) : P (recorderFrame s) := by
  unfold Machine.recorderFrame
  split
  · split
    · split
      · exact k.recordStart _ h
      · exact h
    · exact h
  · split
    · exact k.drainFinish (k.recorderQueue (.inl rfl) h)
    · exact h
  · exact h

/-! ### The operations the scheduler starts -/

theorem allocate (i : SlotNo) (b : BlockNo) (h : P s) : P (allocate i b s) := k.setSlot i _ (k.setBlock b _ h)

theorem placeNext {i : SlotNo} {b : BlockNo} {n : Nat} {t : State} (ht : s.placeNext i = some (t, b, n)) (h : P s) :
    P t := by
  rcases placeNext_cases ht with ⟨rfl, -⟩ | ⟨-, rfl, -⟩
  · exact h
  · exact k.allocate i b h

theorem startPlayRead (h : P s) : P (startPlayRead s) := by
  unfold Machine.startPlayRead
  split
  · exact h
  · exact k.setOp (by simp) h

theorem startSampleProgram {i : SlotNo} {t : State} (ht : startSampleProgram i s = some t) (h : P s) : P t := by
  obtain ⟨⟨u, b, n⟩, hp, rfl⟩ := Option.map_eq_some_iff.mp ht
  exact k.setOp (by simp) (k.placeNext hp h)

theorem startChunkPart {i : SlotNo} {b : Fin 2} {t : State} (ht : startChunkPart i b s = some t) (h : P s) : P t := by
  obtain ⟨⟨u, x, n⟩, hp, rfl⟩ := Option.map_eq_some_iff.mp ht
  exact k.setOp (by simp) (k.setBuffer b _ (k.placeNext hp h))

theorem startErase (h : P s) : P (startErase s) := by
  unfold Machine.startErase
  split
  · exact k.setOp (by simp) (k.setBlock _ _ h)
  · split
    · exact k.setOp (by simp) (k.storeBlock _ (k.setBlock _ _ h))
    · exact h

/-! ### Completions of PROGRAMs, erases and resumes -/

theorem sampleProgrammed (ok : Bool) (h : P s) : P (sampleProgrammed ok s) := by
  unfold Machine.sampleProgrammed
  split
  · dsimp only
    split
    · split
      · exact k.storeBlock _ (k.freeArray h)
      · next i b _ _ x rest hq =>
        refine k.drainFinish (k.recorder _ _ ?_ (k.storeBlock _ (k.setSlot _ _ (k.setBlock _ _ (k.freeArray h)))))
        change rest.length ≤ max 8 s.recorder.queue.length
        rw [hq, List.length_cons]
        omega
    · exact k.programFailed _ (k.freeArray h)
  · exact h

theorem chunkProgrammed (i : SlotNo) (b : BlockNo) (c : Fin 2) (n : Nat) (h : P s) : P (chunkProgrammed i b c n s) := by
  unfold Machine.chunkProgrammed
  dsimp only
  have stored := k.storeBlock b (k.setSlot i (fun y => { y with header := y.header.map fun h =>
    { h with length := h.length + (s.mem.buffers[c].samples.take n).length } }) (k.setBlock b (fun y => { y with
      data := y.data ++ (s.mem.buffers[c].samples.take n).map fun x => storeSample x.offset (marksOf x.marks) x.pos }) h))
  split
  · exact k.raiseMotion _ (k.setBuffer c _ stored)
  · exact k.setBuffer c _ stored

theorem partDone (ok : Bool) (h : P s) : P (partDone ok s) := by
  unfold Machine.partDone
  split
  · dsimp only
    split
    · exact k.chunkProgrammed _ _ _ _ (k.freeArray h)
    · exact k.programFailed _ (k.setBuffer _ _ (k.freeArray h))
    · exact k.storeBlock _ (k.freeArray h)
    · exact k.storeBlock _ (k.table rfl rfl (k.setBlock _ _ (k.freeArray h)))
  · exact h

theorem eraseCompletes (verified : Bool) (h : P s) : P (eraseCompletes verified s) := by
  unfold Machine.eraseCompletes
  split
  · exact k.eraseEnd _ _ h
  · exact h

theorem suspendCompletes (r : SuspendEnd) (h : P s) : P (suspendCompletes r s) := by
  unfold Machine.suspendCompletes
  split
  · split
    · exact k.freeArray (k.setBlock _ _ h)
    · exact k.eraseEnd _ _ h
  · exact h

theorem resumeCompletes (h : P s) : P (resumeCompletes s) := by
  unfold Machine.resumeCompletes
  split
  · exact k.setOp (fun r => by split <;> simp) h
  · exact h

end KeepsTakes

/-! ### The scheduler and the transmitters -/

/-- The property survives what the end of a command does. -/
structure KeepsArray (P : State → Prop) : Prop extends KeepsTakes P where
  pump : ∀ s, P s → P (pump s)
  reserve : ∀ s, P s → P (startReserved s)

namespace KeepsArray

variable {P : State → Prop} (k : KeepsArray P) {s : State}

include k

theorem scheduleRounds (n : Nat) (h : P s) : P (scheduleRounds n s) := by
  induction n generalizing s with
  | zero => exact h
  | succ n ih =>
    have sampleWork : P (match s.recorder.slot with
        | none => s
        | some i => match Machine.startSampleProgram i s with
          | some u => u
          | none => Machine.scheduleRounds n (Machine.recordNoRoom i s)) := by
      split
      · exact h
      · split
        · next hu => exact k.startSampleProgram hu h
        · exact ih (k.recordNoRoom _ h)
    unfold Machine.scheduleRounds
    dsimp only
    split
    · exact k.startPlayRead h
    split
    · exact sampleWork
    split
    · exact k.startPlayRead h
    split
    · exact sampleWork
    split
    · exact k.reserve _ h
    split
    · split
      · next hu => exact k.startChunkPart hu h
      · exact ih (k.uploadNoRoom _ _ h)
    · split
      · exact k.setOp (by simp) h
      · split
        · exact h
        · exact k.startErase h

theorem schedule (h : P s) : P (schedule s) := by
  unfold Machine.schedule
  split
  · exact h
  · split
    · exact h
    · exact k.scheduleRounds 3 h

theorem settle (h : P s) : P (settle s) := k.pump _ (k.schedule h)

end KeepsArray

/-! ### The Playback Unit -/

/-- The property survives the Playback Unit's work: it does not tell one active playback from another, it admits the end of
a playback, the leaving of a lane and the return of the playback contexts. -/
structure KeepsPlay (P : State → Prop) : Prop extends KeepsEvents P where
  play : ∀ x s, (x.state = .idle ∨ s.play.state ≠ .idle) → P s → P (s.setPlay x)
  leave : ∀ l why s, P s → P (leaveLane l why s)
  contexts : ∀ s, P s → P (resetPlayContexts s)
  dropPlay : ∀ s, P s → P (s.setMem { s.mem with op := dropRead isPlayRead s.mem.op })

namespace KeepsPlay

variable {P : State → Prop} (k : KeepsPlay P) {s : State}

include k

theorem playIdle (outcome : PlayOutcome) (h : P s) : P (playIdle outcome s) :=
  k.dropPlay _ (k.play _ _ (.inl rfl) (k.raiseMotion _ h))

theorem endPlayback (outcome : PlayOutcome) (h : P s) : P (endPlayback outcome s) := by
  unfold Machine.endPlayback
  split
  · exact h
  · refine k.playIdle _ (forEach_keeps (fun l s hs => ?_) _ h)
    split
    · exact k.leave _ _ _ hs
    · exact hs

theorem raiseSegmentStart (h : P s) : P (raiseSegmentStart s) := k.raiseMotion _ h

theorem beginSegment (j : Nat) (ha : s.play.state ≠ .idle) (h : P s) : P (beginSegment j s) := by
  unfold Machine.beginSegment
  dsimp only
  split
  · exact h
  · exact k.raiseSegmentStart (k.contexts _ (k.play _ _ (.inr ha) h))

theorem actMarks (j : Nat) (ha : s.play.state ≠ .idle) (h : P s) : P (actMarks j s) := by
  unfold Machine.actMarks
  split
  · exact h
  · next x hx =>
    have cued : ∀ b : Bool, P (if b then Machine.raiseMotion (.playMark j s.tb.f) s else s) ∧
        (if b then Machine.raiseMotion (.playMark j s.tb.f) s else s).play.state ≠ .idle := by
      intro b
      cases b
      · exact ⟨h, ha⟩
      · exact ⟨k.raiseMotion _ h, ha⟩
    dsimp only
    split
    · exact k.beginSegment j (cued _).2 (cued _).1
    · exact (cued _).1

theorem endSegment (ha : s.play.state ≠ .idle) (h : P s) : P (endSegment s) := k.contexts _ (k.play _ _ (.inr ha) h)

theorem finishPass (ha : s.play.state ≠ .idle) (h : P s) : P (finishPass s) := by
  unfold Machine.finishPass
  split
  · exact k.raiseMotion _ (k.dropPlay _ (k.play _ _ (.inr ha) h))
  · exact k.endPlayback _ h

theorem rollingFrame (ha : s.play.state ≠ .idle) (h : P s) : P (rollingFrame s) := by
  unfold Machine.rollingFrame
  dsimp only
  split
  · exact k.finishPass ha (k.play _ _ (.inr ha) h)
  · have acted := fun j => k.actMarks (s := (s.setPlay { s.play with k := some (s.tb.f - s.play.fRoll.getD 0) }).setPlay
      { s.play with
        k := some (s.tb.f - s.play.fRoll.getD 0)
        buffer := s.play.buffer.filter fun x => s.tb.f - s.play.fRoll.getD 0 ≤ x.index
        marksDue := (s.play.sample (s.tb.f - s.play.fRoll.getD 0)).isNone }) j ha (k.play _ _ (.inr ha) (k.play _ _ (.inr ha) h))
    split
    · exact k.endPlayback _ (acted _)
    · exact acted _

theorem playbackFrame (h : P s) : P (playbackFrame s) := by
  unfold Machine.playbackFrame
  dsimp only
  split
  · next hs =>
    split
    · split
      · split
        · exact k.endPlayback _ h
        · refine k.rollingFrame ?_ ?_
          · split <;> exact fun hc => by cases hc
          · have active : s.play.state ≠ .idle := by simp [hs]
            split
            · exact k.raiseMotion _ (k.play _ _ (.inr active) h)
            · exact k.play _ _ (.inr active) h
      · exact h
    · exact h
  · next hs => exact k.rollingFrame (by simp [hs]) h
  · split
    · split
      · exact k.endPlayback _ h
      · exact h
    · exact h
  · exact h

theorem stallStep (h : P s) : P (stallStep s) := by
  unfold Machine.stallStep
  dsimp only
  split
  · exact h
  · next hs =>
    have ha : s.play.state ≠ .idle := by
      intro hi
      exact hs (by simp [hi])
    split
    · exact k.play _ _ (.inr ha) h
    · split
      · exact k.actMarks _ ha (k.play _ _ (.inr ha) h)
      · exact k.play _ _ (.inr ha) h

theorem playBefore (h : P s) : P (playBefore s) := by
  refine k.play _ _ ?_ (k.stallStep h)
  by_cases hi : (Machine.stallStep s).play.state = .idle
  · exact .inl hi
  · exact .inr hi

theorem trackingTest (ha : s.play.state ≠ .idle) (h : P s) : P (trackingTest s) := by
  unfold Machine.trackingTest
  split
  · exact h
  · dsimp only
    split
    · exact k.play _ _ (.inr ha) h
    · exact k.raiseMotion _ (k.play _ _ (.inr ha) h)

theorem readyTest (ha : s.play.state ≠ .idle) (h : P s) : P (readyTest s) := by
  unfold Machine.readyTest
  split
  · exact k.raiseMotion _ (k.play _ _ (.inr ha) h)
  · exact h

theorem playAfter (h : P s) : P (playAfter s) := by
  unfold Machine.playAfter
  split
  · next hs => exact k.trackingTest (by simp [hs]) h
  · next hs => exact k.readyTest (by simp [hs]) h
  · exact h

theorem playRead (index : Nat) (x : StoredSample) (lanes : LaneSet) (h : P s) : P (playRead index x lanes s) := by
  have kept : s.play.state = .idle ∨ s.play.state ≠ .idle := Decidable.em _
  unfold Machine.playRead
  dsimp only
  split
  · split
    · exact k.raiseSegmentStart (k.play _ _ kept h)
    · exact k.play _ _ kept h
  · exact k.play _ _ kept h

theorem segmentEarly (r : Nat) (ha : s.play.state ≠ .idle) (h : P s) : P (segmentEarly r s) :=
  k.play _ _ (.inr ha) (k.endSegment (s := Machine.raiseMotion _ s) ha (k.raiseMotion _ h))

theorem segmentLate (r : Nat) (ha : s.play.state ≠ .idle) (h : P s) : P (segmentLate r s) := by
  have ended := k.endSegment (s := Machine.raiseMotion (.segmentEnd r true) s) ha (k.raiseMotion _ h)
  unfold Machine.segmentLate
  dsimp only
  split
  · exact k.finishPass (fun hc => by cases hc) (k.play _ _ (.inr ha) ended)
  · exact k.play _ _ (.inr ha) ended

end KeepsPlay

end Sys2Proof.Machine
end

section
/-! PROOFS. What keeps a property of states, continued: causes and stops, drive exchanges, the lane step, frames, pulses,
and the step as a whole. -/

namespace Sys2Proof.Machine

open Sys2Proof

/-! ### Causes and stop states -/

/-- The property survives the endings of a stop entry, changes of the Safety Monitor that leave drive power alone, and
changes of drive power with the outputs that follow it. -/
structure KeepsStops (P : State → Prop) : Prop extends KeepsEvents P where
  recordEnds : ∀ outcome s, P s → P (recordEnds outcome s)
  endPlayback : ∀ outcome s, P s → P (endPlayback outcome s)
  safety : ∀ x s, x.drivePower = s.safety.drivePower → P s → P (s.setSafety x)
  power : ∀ on s, P s → P (setPower on s)

namespace KeepsStops

variable {P : State → Prop} (k : KeepsStops P) {s : State}

include k

theorem stopEntry (h : P s) : P (stopEntry s) := k.endPlayback _ _ (k.recordEnds _ _ h)

theorem addCause (after : StopState) (c : CauseKind) (h : P s) : P (addCause after c s) := by
  unfold Machine.addCause
  split
  · exact h
  · exact k.raiseAll _ (k.safety _ _ rfl h)

theorem changeStop (new : StopState) (asker : Option Port) (party : Option Party) (why : Option StopReason) (h : P s) :
    P (changeStop new asker party why s) :=
  k.raiseAll _ (k.safety _ _ rfl h)

theorem cancelRelease (why : StopReason) (h : P s) : P (cancelRelease why s) :=
  k.changeStop _ _ _ _ (k.safety _ _ rfl h)

theorem causeEvents (cs : List CauseKind) (h : P s) : P (causeEvents cs s) := by
  have added : P (forEach cs (Machine.addCause (stopAfterCause s.safety.stop)) s) :=
    forEach_keeps (fun c s hs => k.addCause _ c hs) cs h
  unfold Machine.causeEvents
  dsimp only
  split
  · exact h
  · split
    · exact k.stopEntry (k.changeStop _ _ _ _ added)
    · exact added
    · split
      · exact k.power _ _ added
      · exact added
    · split
      · exact k.power _ _ (k.cancelRelease _ added)
      · exact k.cancelRelease _ added

theorem stoppedTest (h : P s) : P (stoppedTest s) := by
  have stopped := k.changeStop .stopped none none (some .reached) (k.safety { s.safety with unparkInRamp := false } s rfl h)
  unfold Machine.stoppedTest
  split
  · dsimp only
    split
    · exact k.power _ _ stopped
    · exact stopped
  · exact h

theorem askerLost (p : Port) (h : P s) : P (askerLost p s) := by
  unfold Machine.askerLost
  split
  · split
    · exact k.cancelRelease _ h
    · exact h
  · exact h

theorem openWindow (rx : Rx) (h : P s) : P (openWindow rx s) := k.changeStop _ _ _ _ (k.safety _ _ rfl h)

theorem clearExit (z : ZoneNo) (h : P s) : P (clearExit z s) := by
  unfold Machine.clearExit
  dsimp only
  split
  · exact k.raiseAll _ (k.safety _ _ rfl h)
  · exact h

theorem evaluateZones (h : P s) : P (evaluateZones s) := by
  unfold Machine.evaluateZones
  dsimp only
  exact k.causeEvents _ (forEach_keeps (fun z _ hs => k.clearExit z hs) _ (k.safety _ _ rfl h))

end KeepsStops

/-! ### The drives -/

/-- The property survives drive exchanges: changes of the channels that leave the outputs alone, drive causes, and the
settling of a present lane. -/
structure KeepsDrives (P : State → Prop) : Prop where
  channels : ∀ (v : Vector Channel 12) s,
    (∀ l : Lane, v[l].enable = s.drives.channels[l].enable ∧ v[l].brake = s.drives.channels[l].brake) →
      P s → P (s.setDrives { s.drives with channels := v })
  driveCause : ∀ why l s, P s → P (driveCause why l s)
  settled : ∀ (l : Lane) count s, s.lanes[l].present = true → P s → P (s.setLane l (settleLane count))

namespace KeepsDrives

variable {P : State → Prop} (k : KeepsDrives P) {s : State}

include k

theorem setChannel (l : Lane) {f : Channel → Channel} (hf : ∀ c, (f c).enable = c.enable ∧ (f c).brake = c.brake) (h : P s) :
    P (s.setChannel l f) := by
  refine k.channels _ _ (fun j => ?_) h
  rw [updAt_get]
  split
  · exact hf _
  · exact ⟨rfl, rfl⟩

theorem driveFault (l : Lane) (h : P s) : P (driveFault l s) := by
  unfold Machine.driveFault
  split
  · exact h
  · split
    · exact h
    · exact k.driveCause _ _ _ (k.setChannel l (fun _ => ⟨rfl, rfl⟩) h)

theorem judgeMissing (l : Lane) (h : P s) : P (judgeMissing l s) := by
  have missed := k.setChannel l (f := fun c =>
    { c with status := .missing, missing := min 2 (c.missing + 1), exchange := none }) (fun _ => ⟨rfl, rfl⟩) h
  unfold Machine.judgeMissing
  dsimp only
  split
  · exact k.driveFault l missed
  · exact missed

theorem takeMissing (l : Lane) (h : P s) : P (takeMissing l s) := by
  unfold Machine.takeMissing
  split
  · exact k.judgeMissing l h
  · exact h

theorem followCheck (l : Lane) (sent : Option Int) (count : Int) (h : P s) : P (followCheck l sent count s) := by
  unfold Machine.followCheck
  split
  · dsimp only
    split
    · exact k.driveCause _ _ _ h
    · exact h
  · exact h

theorem replyOk (l : Lane) (sent : Option Int) (count : Int) (hp : s.lanes[l].present = true) (h : P s) :
    P (replyOk l sent count s) := by
  have noted := k.setChannel l (f := fun c =>
    { c with latestCount := some count, status := .ok, missing := 0, faultReported := false, settled := true,
             exchange := none }) (fun _ => ⟨rfl, rfl⟩) h
  unfold Machine.replyOk
  dsimp only
  split
  · exact k.settled l count _ hp noted
  · exact k.followCheck _ _ _ noted

theorem takeReply (l : Lane) (f t : Nat) (status : DriveStatus) (count : Int) (h : P s) :
    P (takeReply l f t status count s) := by
  unfold Machine.takeReply
  split
  · exact h
  · next hp =>
    have hp : s.lanes[l].present = true := by simpa [State.lanePresent] using hp
    split
    · exact h
    · split
      · split
        · exact k.replyOk l _ count hp h
        · exact k.driveFault l (k.setChannel l (fun _ => ⟨rfl, rfl⟩) h)
      · exact h

theorem exchangeAll (h : P s) : P (exchangeAll s) := by
  refine k.channels _ _ (fun l => ?_) h
  rw [mapAll_get]
  unfold sendExchange
  split <;> exact ⟨rfl, rfl⟩

theorem exchangeTick (h : P s) : P (exchangeTick s) :=
  k.exchangeAll (forEach_keeps (fun l _ hs => k.takeMissing l hs) _ h)

end KeepsDrives

/-- A drive cause is the disabling of its lane with the outputs that follow, and a cause event (R150). -/
theorem driveCause_keeps {P : State → Prop} (disable : ∀ why l s, P s → P (refreshOutputs (s.setLane l (disableLane why))))
    (cause : ∀ cs s, P s → P (causeEvents cs s)) (why : DisableReason) (l : Lane) (s : State) (h : P s) :
    P (driveCause why l s) :=
  cause _ _ (disable _ _ _ h)

/-! ### The tick -/

/-- The property survives a lane step with what leads into it and follows it. -/
structure KeepsStep (P : State → Prop) : Prop extends KeepsEvents P where
  playBefore : ∀ s, P s → P (playBefore s)
  playAfter : ∀ s, P s → P (playAfter s)
  commitRun : ∀ s, s.safety.stop = .run → P s → P (commitLanes (s.candidates s.runCandidate) s)
  commitStop : ∀ s, s.safety.stop = .run ∨ s.safety.stop = .stopping → P s →
    P (commitLanes (s.candidates fun l => stopStep s.lanes[l]) s)
  commitRest : ∀ s, P s → P (commitLanes (s.candidates fun l => restStep s.lanes[l]) s)
  writeBack : ∀ cs s, P s → P (writeBackAll cs s)
  causes : ∀ cs s, P s → P (causeEvents cs s)
  stoppedTest : ∀ s, P s → P (stoppedTest s)

namespace KeepsStep

variable {P : State → Prop} (k : KeepsStep P) {s : State}

include k

theorem raiseClips (cs : Vector Candidate 12) (h : P s) : P (forEach allLanes (fun l s => raiseClip l cs[l] s) s) := by
  refine forEach_keeps (fun l s hs => ?_) _ h
  unfold raiseClip
  split
  · split
    · exact k.raiseLane _ _ _ hs
    · exact hs
  · exact hs

theorem runStep (hr : s.safety.stop = .run) (h : P s) : P (runStep s) := by
  unfold Machine.runStep
  dsimp only
  split
  · exact k.writeBack _ _ (k.raiseClips _ (k.commitRun s hr h))
  · exact k.causes _ _ (k.raiseClips _ (k.commitStop s (.inl hr) h))

theorem laneStep (h : P s) : P (laneStep s) := by
  unfold Machine.laneStep
  split
  · next hs => exact k.runStep hs h
  · next hs => exact k.raiseClips _ (k.commitStop s (.inr hs) h)
  · exact k.raiseClips _ (k.commitRest s h)
  · exact k.raiseClips _ (k.commitRest s h)

/-- The step from what the Playback Unit does before it to its tests after it. -/
theorem step (h : P s) : P (Machine.playAfter (Machine.stoppedTest (Machine.laneStep (Machine.playBefore s)))) :=
  k.playAfter _ (k.stoppedTest _ (k.laneStep (k.playBefore _ h)))

end KeepsStep

/-- The property survives a whole tick. -/
structure KeepsTick (P : State → Prop) : Prop extends KeepsStep P where
  compose : ∀ s, P s → P (composeSample s)
  exchange : ∀ s, P s → P (exchangeTick s)
  telemetry : ∀ hs s, P s → P (formTelemetry hs s)
  evaluate : ∀ s, P s → P (evaluateZones s)

theorem KeepsTick.tickWork {P : State → Prop} (k : KeepsTick P) {s : State} (h : P s) : P (tickWork s) := by
  unfold Machine.tickWork
  dsimp only
  split
  · exact k.evaluate _ (k.telemetry _ _ (k.exchange _ (k.compose _ (k.step h))))
  · exact k.evaluate _ (k.exchange _ (k.step h))

/-! ### Frames and pulses -/

/-- The property survives the frame-start work, but for the clock. -/
structure KeepsFrame (P : State → Prop) : Prop where
  recordEnds : ∀ outcome s, P s → P (recordEnds outcome s)
  endPlayback : ∀ outcome s, P s → P (endPlayback outcome s)
  recorderFrame : ∀ s, P s → P (recorderFrame s)
  playbackFrame : ∀ s, P s → P (playbackFrame s)
  tick : ∀ s, P s → P (tickWork s)

/-- A frame start, where the property survives the opening of the frame itself. -/
theorem KeepsFrame.beginFrame {P : State → Prop} (k : KeepsFrame P) {s : State} (time : Nat)
    (h : P (s.setTb (openFrame time (flywheelFrame (applySettings s.tb))))) : P (beginFrame time s) := by
  refine k.tick _ ?_
  unfold openWork
  dsimp only
  split
  · exact k.playbackFrame _ (k.recorderFrame _ (k.endPlayback _ _ (k.recordEnds _ _ h)))
  · exact k.playbackFrame _ (k.recorderFrame _ h)

/-- The property survives frames and every change of the clock. -/
structure KeepsClock (P : State → Prop) : Prop extends KeepsFrame P where
  tb : ∀ b s, P s → P (s.setTb b)

namespace KeepsClock

variable {P : State → Prop} (k : KeepsClock P) {s : State}

include k

theorem beginAt (time : Nat) (h : P s) : P (beginFrame time s) := k.beginFrame time (k.tb _ _ h)

theorem frameStart (h : P s) : P (frameStart s) := by
  unfold Machine.frameStart
  split
  · exact k.beginAt _ h
  · exact h

theorem overdueFrame (h : P s) : P (overdueFrame s) := by
  unfold Machine.overdueFrame
  split
  · split
    · exact k.beginAt _ h
    · exact h
  · exact h

theorem servoTick (h : P s) : P (servoTick s) := by
  unfold Machine.servoTick
  split
  · exact h
  · exact k.tick _ (k.tb _ _ h)

theorem missingPulse (h : P s) : P (missingPulse s) := by
  unfold Machine.missingPulse
  split
  · exact k.tb _ _ h
  · exact h

theorem searchPulse (time : Nat) (h : P s) : P (searchPulse time s) := by
  unfold Machine.searchPulse
  dsimp only
  split
  · exact k.tb _ _ h
  · split
    · exact k.tb _ _ h
    · split
      · exact k.beginAt _ (k.tb _ _ h)
      · exact k.tb _ _ h

theorem lockedPulse (time : Nat) (h : P s) : P (lockedPulse time s) := by
  unfold Machine.lockedPulse
  dsimp only
  split
  · exact k.tb _ _ h
  · split
    · exact k.beginAt _ (k.tb _ _ h)
    · exact k.tb _ _ h

theorem flywheelPulse (time : Nat) (h : P s) : P (flywheelPulse time s) := by
  unfold Machine.flywheelPulse
  dsimp only
  split
  · exact k.beginAt _ (k.tb _ _ h)
  · split
    · exact k.tb _ _ h
    · exact h

theorem referencePulse (time : Nat) (h : P s) : P (referencePulse time s) := by
  unfold Machine.referencePulse
  split
  · exact k.searchPulse time h
  · exact k.lockedPulse time h
  · exact k.flywheelPulse time h
  · exact h

end KeepsClock

/-! ### Requests -/

/-- The judgement leaves a state with the property. -/
def KeptBy (P : State → Prop) (j : Judge) : Prop := ∀ s, P s → P (j s).1

theorem KeptBy.forRoles {P : State → Prop} {rs : List Role} {p : Port} {j : Judge}
    (h : ∀ s, s.roleIn p rs = true → P s → P (j s).1) : KeptBy P (forRoles rs p j) := by
  intro s hs
  unfold Machine.forRoles
  split
  · next hr => exact h s hr hs
  · exact hs

/-- The property survives what the taking of a request does apart from its judgement. `room p` is what holds while the port p
has room for its answer: the property itself, unless the property bounds the reply path. -/
structure KeepsTaking (P : State → Prop) (room : Port → State → Prop) : Prop where
  note : ∀ rx s, P s → P (noteValid rx s)
  other : ∀ (p : Port) s, s.ports[p].link = .offer → P s → P (otherInOffer p s)
  lost : ∀ p s, P s → P (s.setPort p latchRequestsLost)
  enter : ∀ (p : Port) s, countedReplies s.ports[p] < 8 → P s → room p s
  leave : ∀ p s, room p s → P s
  answer : ∀ p (r : Reply) s, room p s → P (pushReply p r s)

namespace KeepsTaking

variable {P : State → Prop} {room : Port → State → Prop} (k : KeepsTaking P room) {s : State}

include k

theorem takeActive {α : Type} (rx : Rx) (body : Body α) {judge : α → Judge}
    (hj : ∀ a s, s.isActive rx.port = true → room rx.port s →
      ((judge a s).2.isSome = true → room rx.port (judge a s).1) ∧ ((judge a s).2 = none → P (judge a s).1))
    (ha : s.isActive rx.port = true) (h : P s) : P (takeActive rx body judge s) := by
  unfold Machine.takeActive
  split
  · exact h
  · split
    · exact k.lost _ _ h
    · next hc =>
      have entered := k.enter rx.port s (by omega) h
      split
      · exact k.answer _ _ _ entered
      · next a =>
        obtain ⟨answered, unanswered⟩ := hj a s ha entered
        split
        · next he => rw [he] at answered; exact k.answer _ _ _ (answered rfl)
        · next he => rw [he] at unanswered; exact unanswered rfl

theorem takeRequest {α : Type} (rx : Rx) (body : Body α) {judge : α → Judge}
    (hj : ∀ a s, s.isActive rx.port = true → room rx.port s →
      ((judge a s).2.isSome = true → room rx.port (judge a s).1) ∧ ((judge a s).2 = none → P (judge a s).1))
    (h : P s) : P (takeRequest rx body judge s) := by
  have noted := k.note rx s h
  unfold Machine.takeRequest
  dsimp only
  split
  · exact noted
  · next hl => exact k.other _ _ hl noted
  · exact noted
  · next hl => exact k.takeActive rx body hj (by rw [State.isActive, hl]; rfl) noted
  · exact noted

/-- A judgement that keeps what holds while there is room. -/
theorem judged {α : Type} (rx : Rx) (body : Body α) {judge : α → Judge}
    (hj : ∀ a s, s.isActive rx.port = true → room rx.port s → room rx.port (judge a s).1) (h : P s) :
    P (Machine.takeRequest rx body judge s) :=
  k.takeRequest rx body (fun a s ha hs => ⟨fun _ => hj a s ha hs, fun _ => k.leave _ _ (hj a s ha hs)⟩) h

end KeepsTaking

end Sys2Proof.Machine
end

section
/-! PROOFS. What keeps a property of states, concluded: the judgements of the requests, the link events and every command. -/

namespace Sys2Proof.Machine

open Sys2Proof

/-! ### The judgements -/

/-- A list of entries taken one by one keeps what each of them keeps. -/
theorem foldl_keeps {α β : Type} {P : State → Prop} {f : State × β → α → State × β} (h : ∀ acc e, P acc.1 → P (f acc e).1)
    (es : List α) {acc : State × β} (ha : P acc.1) : P (es.foldl f acc).1 := by
  induction es generalizing acc with
  | nil => exact ha
  | cons e es ih => exact ih (h acc e ha)

/-- The property survives changes of the grant states. -/
structure KeepsGrants (P : State → Prop) : Prop where
  gain : ∀ l who level s, P s → P (gainLane l who level s)
  wait : ∀ l p level s, P s → P (waitLane l p level s)
  leave : ∀ l why s, P s → P (leaveLane l why s)
  grant : ∀ l f s, P s → P (s.setGrant l f)

namespace KeepsGrants

variable {P : State → Prop} (k : KeepsGrants P) {s : State}

include k

theorem judgeAcquire (p : Port) (ls : LaneSet) (h : P s) : P (judgeAcquire p ls s).1 := by
  unfold Machine.judgeAcquire
  split
  · exact h
  · refine foldl_keeps (fun acc i ha => ?_) _ h
    unfold acquireIndex
    dsimp only
    split
    · exact ha
    · split
      · split
        · exact ha
        split
        · exact ha
        split
        · exact ha
        split
        · exact ha
        split
        · exact k.gain _ _ _ _ ha
        · exact k.wait _ _ _ _ ha
      · exact ha

theorem judgeYield (p : Port) (ls : LaneSet) (h : P s) : P (judgeYield p ls s).1 := by
  unfold Machine.judgeYield
  split
  · exact h
  · refine foldl_keeps (fun acc i ha => ?_) _ h
    unfold yieldIndex
    dsimp only
    split
    · exact ha
    · split
      · exact k.leave _ _ _ ha
      · split
        · exact k.grant _ _ _ ha
        · exact ha

theorem judgeDemand (p : Port) (es : List DemandEntry) (h : P s) : P (judgeDemand p es s).1 := by
  refine foldl_keeps (P := P) (f := demandEntry p) (acc := (s, Tally.zero)) (fun acc e ha => ?_) es h
  unfold demandEntry
  dsimp only
  split
  · exact ha
  · split
    · exact ha
    · split
      · exact ha
      · split
        · exact ha
        · exact k.grant _ _ _ ha

theorem judgeTrim (p : Port) (es : List TrimEntry) (h : P s) : P (judgeTrim p es s).1 := by
  refine foldl_keeps (P := P) (f := trimEntry p) (acc := (s, Tally.zero)) (fun acc e ha => ?_) es h
  unfold trimEntry
  dsimp only
  split
  · exact ha
  · split
    · exact ha
    · split
      · exact k.grant _ _ _ ha
      · split
        · exact k.grant _ _ _ ha
        · exact ha

end KeepsGrants

namespace KeepsTakes

variable {P : State → Prop} (k : KeepsTakes P) {s : State}

include k

theorem judgeTakeFetch (rx : Rx) (a : FetchArgs) (h : P s) : P (judgeTakeFetch rx a s).1 := by
  unfold Machine.judgeTakeFetch
  split
  · exact h
  · split
    · exact h
    split
    · exact h
    split
    · exact h
    split
    · exact h
    · exact k.table rfl rfl h

theorem judgeRecord (a : RecordArgs) (h : P s) : P (judgeRecord a s).1 := by
  unfold Machine.judgeRecord
  split
  · exact h
  · split
    · exact h
    split
    · exact h
    split
    · exact h
    split
    · exact h
    split
    · exact h
    split
    · exact h
    · exact k.suspendErase (k.recorderQueue (.inr rfl) h)

theorem judgeMark (m : MarkKind) (h : P s) : P (judgeMark m s).1 := by
  unfold Machine.judgeMark
  dsimp only
  split
  · exact h
  split
  · exact h
  · exact k.recorderQueue (.inl rfl) h

theorem judgeRecordEnd (u : Unit) (h : P s) : P (judgeRecordEnd u s).1 := by
  unfold Machine.judgeRecordEnd
  split
  · exact h
  · exact h
  · exact k.recordEnds _ h
  · split
    · exact h
    · exact k.recorderQueue (.inl rfl) h

theorem judgeTakeProtect (a : ProtectArgs) (h : P s) : P (judgeTakeProtect a s).1 := by
  unfold Machine.judgeTakeProtect
  split
  · exact h
  · dsimp only
    split
    · exact h
    · split
      · exact k.setSlot _ _ h
      · split
        · exact h
        · exact k.setSlot _ _ h
      · exact k.setSlot _ _ h

theorem judgeTakeErase (slot : Nat) (h : P s) : P (judgeTakeErase slot s).1 := by
  unfold Machine.judgeTakeErase
  split
  · exact h
  · dsimp only
    split
    · exact h
    split
    · exact h
    · exact k.emptySlot _ h

theorem judgeTakeOpen (a : OpenArgs) (h : P s) : P (judgeTakeOpen a s).1 := by
  unfold Machine.judgeTakeOpen
  split
  · exact h
  · split
    · exact h
    split
    · exact h
    split
    · exact h
    split
    · exact h
    · exact k.queueDir _ (k.table rfl rfl (k.emptyBuffers (k.setSlot _ _ h)))

theorem judgeStage (xs : List StagedSample) (h : P s) : P (judgeStage xs s).1 := by
  unfold Machine.judgeStage
  split
  · exact h
  split
  · exact h
  split
  · exact h
  split
  · exact h
  · exact k.setBuffer _ _ h

theorem judgeStageCommit (u : Unit) (h : P s) : P (judgeStageCommit u s).1 := by
  unfold Machine.judgeStageCommit
  split
  · split
    · exact k.table rfl rfl (k.setBuffer _ _ h)
    · exact k.table rfl rfl (k.setBuffer _ _ h)
  · exact h

theorem judgeTakeClose (u : Unit) (h : P s) : P (judgeTakeClose u s).1 := by
  unfold Machine.judgeTakeClose
  split
  · exact h
  · split
    · exact h
    split
    · exact h
    · exact k.completeSlot _ _ h

theorem judgeTakeDiscard (u : Unit) (h : P s) : P (judgeTakeDiscard u s).1 := by
  unfold Machine.judgeTakeDiscard
  split
  · exact h
  · exact k.discardUpload h

theorem judgeStatusClear (u : Unit) (h : P s) : P (judgeStatusClear u s).1 := k.table rfl rfl h

theorem protectLine (closed : Bool) (h : P s) : P (if s.mem.protectClosed = closed then s
    else s.setMem { s.mem with
      protectClosed := closed, slots := mapAll s.mem.slots fun _ x => protectSlot closed x }) := by
  split
  · exact h
  · exact k.table rfl rfl h

end KeepsTakes

namespace KeepsPlay

variable {P : State → Prop} (k : KeepsPlay P) {s : State}

include k

theorem judgeRoll (start : Option Nat) (h : P s) : P (judgeRoll start s).1 := by
  unfold Machine.judgeRoll
  split
  · exact h
  split
  · exact h
  · next hr =>
    refine k.play _ _ (.inr fun hi => hr (.inl ?_)) h
    rw [hi]
    exact fun hc => by cases hc

theorem judgeSegmentDone (u : Unit) (h : P s) : P (judgeSegmentDone u s).1 := by
  unfold Machine.judgeSegmentDone
  dsimp only
  split
  · exact h
  split
  · exact h
  · next hd =>
    have ha : s.play.state ≠ .idle := fun hi => hd (.inl (by rw [hi]; exact fun hc => by cases hc))
    split
    · exact k.segmentEarly _ ha h
    · exact k.segmentLate _ ha h

theorem judgeUncue (u : Unit) (h : P s) : P (judgeUncue u s).1 := by
  unfold Machine.judgeUncue
  split
  · exact h
  · exact k.endPlayback _ h
  · exact k.endPlayback _ h

end KeepsPlay

/-- A CUE keeps what its acceptance keeps; it is accepted in RUN only (R115). -/
theorem judgeCue_keeps {P : State → Prop} {a : CueArgs} {s : State}
    (begun : ∀ i h part scale endMode, s.safety.stop = .run → s.play.state = .idle → P (beginCue i h part scale endMode s))
    (h : P s) : P (judgeCue a s).1 := by
  unfold judgeCue
  dsimp only
  split
  · exact h
  split
  · exact h
  split
  · exact h
  split
  · exact h
  next hi =>
  split
  · exact h
  split
  · exact h
  next hr =>
  split
  · exact h
  split
  · exact h
  split
  · exact h
  · exact begun _ _ _ _ _ (by simpa using hr) (by simpa [State.playActive] using hi)

/-- The property survives every judgement of a request. -/
structure KeepsJudges (P : State → Prop) : Prop where
  acquire : ∀ p ls s, s.isActive p = true → P s → P (judgeAcquire p ls s).1
  yield : ∀ p ls, KeptBy P (judgeYield p ls)
  demand : ∀ p es, KeptBy P (judgeDemand p es)
  trim : ∀ p es, KeptBy P (judgeTrim p es)
  stop : ∀ p u, KeptBy P (judgeStop p u)
  query : ∀ t, KeptBy P (judgeQuery t)
  fetch : ∀ rx a, KeptBy P (judgeTakeFetch rx a)
  releaseAsk : ∀ rx u, KeptBy P (judgeReleaseAsk rx u)
  releaseAgree : ∀ p u, KeptBy P (judgeReleaseAgree p u)
  park : ∀ u, KeptBy P (judgePark u)
  unpark : ∀ u, KeptBy P (judgeUnpark u)
  profileLoad : ∀ a, KeptBy P (judgeProfileLoad a)
  profileSelect : ∀ a, KeptBy P (judgeProfileSelect a)
  shapeSet : ∀ a, KeptBy P (judgeShapeSet a)
  limitsSet : ∀ a, KeptBy P (judgeLimitsSet a)
  timebaseSet : ∀ a, KeptBy P (judgeTimebaseSet a)
  zoneSet : ∀ a, KeptBy P (judgeZoneSet a)
  zoneDrop : ∀ a, KeptBy P (judgeZoneDrop a)
  presenceSet : ∀ a, KeptBy P (judgePresenceSet a)
  record : ∀ a, KeptBy P (judgeRecord a)
  mark : ∀ a, KeptBy P (judgeMark a)
  recordEnd : ∀ a, KeptBy P (judgeRecordEnd a)
  cue : ∀ a, KeptBy P (judgeCue a)
  roll : ∀ a, KeptBy P (judgeRoll a)
  segmentDone : ∀ a, KeptBy P (judgeSegmentDone a)
  uncue : ∀ a, KeptBy P (judgeUncue a)
  takeProtect : ∀ a, KeptBy P (judgeTakeProtect a)
  takeErase : ∀ a, KeptBy P (judgeTakeErase a)
  takeOpen : ∀ a, KeptBy P (judgeTakeOpen a)
  stage : ∀ a, KeptBy P (judgeStage a)
  stageCommit : ∀ a, KeptBy P (judgeStageCommit a)
  takeClose : ∀ a, KeptBy P (judgeTakeClose a)
  takeDiscard : ∀ a, KeptBy P (judgeTakeDiscard a)
  statusClear : ∀ a, KeptBy P (judgeStatusClear a)
  rigWrite : ∀ a, KeptBy P (judgeRigWrite a)
  rigFreeze : ∀ a, KeptBy P (judgeRigFreeze a)

/-! ### The commands -/

/-- The property survives what each command does before the scheduler and the transmitters choose, and their choice. -/
structure KeepsCommands (P : State → Prop) (room : Port → State → Prop := fun _ => P) : Prop extends
    KeepsTaking P room where
  judges : ∀ p, KeepsJudges (room p)
  leaving : ∀ rx u s, room rx.port s → P (judgeLeave rx u s).1
  settle : ∀ s, P s → P (settle s)
  pump : ∀ s, P s → P (pump s)
  powerUp : ∀ lines d s, P s → P (powerUp lines d s)
  endStarting : ∀ s, P s → P (endStarting s)
  frameStart : ∀ s, P s → P (frameStart s)
  overdueFrame : ∀ s, P s → P (overdueFrame s)
  servoTick : ∀ s, P s → P (servoTick s)
  referencePulse : ∀ time s, P s → P (referencePulse time s)
  missingPulse : ∀ s, P s → P (missingPulse s)
  takeReply : ∀ l f t status count s, P s → P (takeReply l f t status count s)
  takeMissing : ∀ l s, P s → P (takeMissing l s)
  stopLineAssert : ∀ s, P s → P (stopLineAssert s)
  stopLineDeassert : ∀ s, P s → P (stopLineDeassert s)
  releasePulse : ∀ s, P s → P (releasePulse s)
  setPresence : ∀ i on s, P s → P (setPresence i on s)
  windowExpiry : ∀ time s, P s → P (windowExpiry time s)
  protectLine : ∀ closed s, P s → P (if s.mem.protectClosed = closed then s
    else s.setMem { s.mem with protectClosed := closed, slots := mapAll s.mem.slots fun _ x => protectSlot closed x })
  readDone : ∀ s, P s → P (readDone s)
  sampleProgrammed : ∀ ok s, P s → P (sampleProgrammed ok s)
  partDone : ∀ ok s, P s → P (partDone ok s)
  eraseCompletes : ∀ verified s, P s → P (eraseCompletes verified s)
  suspendCompletes : ∀ r s, P s → P (suspendCompletes r s)
  resumeCompletes : ∀ s, P s → P (resumeCompletes s)
  reservedDone : ∀ ok s, P s → P (reservedDone ok s)
  idleFill : ∀ (p : Port) time s, s.starting = false → s.ports[p].link = .down → P s → P (enterOffer p time s)
  offerDue : ∀ p time s, P s → P (offerDue p time s)
  takeAbility : ∀ rx body s, P s → P (takeAbility rx body s)
  checkError : ∀ p s, P s → P (s.setPort p latchCheckError)
  negotiationFailed : ∀ p time s, P s → P (negotiationFailed p time s)
  failedOver : ∀ p time recognises s, P s → P (failedOver p time recognises s)
  leaveActive : ∀ p why s, P s → P (leaveActive p why s)
  frameSent : ∀ p s, P s → P (frameSent p s)

namespace KeepsCommands

variable {P : State → Prop} {room : Port → State → Prop} (k : KeepsCommands P room) {s : State}

include k

theorem request {α : Type} (rx : Rx) (body : Body α) {judge : α → Judge} (hj : ∀ a, KeptBy (room rx.port) (judge a))
    (h : P s) : P (Machine.settle (takeRequest rx body judge s)) :=
  k.settle _ (k.toKeepsTaking.judged rx body (fun a s _ hs => hj a s hs) h)

/-- A request taken from a list of roles. -/
theorem roleRequest {α : Type} (rs : List Role) (rx : Rx) (body : Body α) {judge : α → Judge}
    (hj : ∀ a, KeptBy (room rx.port) (judge a)) (h : P s) :
    P (Machine.settle (takeRequest rx body (fun a => forRoles rs rx.port (judge a)) s)) :=
  k.request rx body (fun a => .forRoles fun s _ hs => hj a s hs) h

theorem nextOwnFrame (h : P s) : P (nextOwnFrame s) := by
  unfold Machine.nextOwnFrame
  split
  · exact k.frameStart s h
  · exact k.overdueFrame s h

/-- What every command keeps. -/
theorem exec {c : Instr} {t : State} (ht : exec c s = .next t) (h : P s) : P t := by
  cases c with
  | powerUp lines d => cases ht; exact k.powerUp _ _ _ h
  | startingEnd => cases ht; exact k.settle _ (k.endStarting _ h)
  | frameStart => cases ht; exact k.settle _ (k.frameStart _ h)
  | servoTick => cases ht; exact k.settle _ (k.servoTick _ h)
  | referencePulse time => cases ht; exact k.settle _ (k.referencePulse _ _ h)
  | overdueFrameStart => cases ht; exact k.settle _ (k.overdueFrame _ h)
  | missingPulse => cases ht; exact k.missingPulse _ h
  | flywheelToSearch =>
    cases ht
    split
    · exact k.settle _ (k.frameStart _ h)
    · exact h
  | stallLimit =>
    cases ht
    refine k.settle _ ?_
    unfold stallLimit
    split
    · exact k.nextOwnFrame h
    · exact h
  | deferMissed =>
    cases ht
    refine k.settle _ ?_
    unfold deferMissed
    split
    · exact k.nextOwnFrame h
    · exact h
  | driveReply l f t status count => cases ht; exact k.settle _ (k.takeReply _ _ _ _ _ _ h)
  | driveReplyMissing l => cases ht; exact k.settle _ (k.takeMissing _ _ h)
  | stopLineAssert => cases ht; exact k.settle _ (k.stopLineAssert _ h)
  | stopLineDeassert => cases ht; exact k.stopLineDeassert _ h
  | releasePulse => cases ht; exact k.settle _ (k.releasePulse _ h)
  | presenceAssert line => cases ht; exact k.setPresence _ _ _ h
  | presenceDeassert line => cases ht; exact k.setPresence _ _ _ h
  | protectLineChange closed => cases ht; exact k.protectLine _ _ h
  | releaseWindowExpiry time => cases ht; exact k.settle _ (k.windowExpiry _ _ h)
  | arrayReadDone => cases ht; exact k.settle _ (k.readDone _ h)
  | programSampleDone ok => cases ht; exact k.settle _ (k.sampleProgrammed _ _ h)
  | chunkPartDone ok => cases ht; exact k.settle _ (k.partDone _ _ h)
  | eraseDone verified => cases ht; exact k.settle _ (k.eraseCompletes _ _ h)
  | eraseSuspendDone r => cases ht; exact k.settle _ (k.suspendCompletes _ _ h)
  | eraseResumeDone => cases ht; exact k.settle _ (k.resumeCompletes _ h)
  | reservedWriteDone ok => cases ht; exact k.settle _ (k.reservedDone _ _ h)
  | idleFill p time =>
    cases ht
    split
    · exact h
    · next hs =>
      split
      · next hl => exact k.idleFill p time s (by simpa using hs) hl h
      · exact h
  | abilityOffer due => cases ht; exact k.offerDue _ _ _ h
  | ability rx body => cases ht; exact k.pump _ (k.takeAbility _ _ _ h)
  | otherFrameInOffer rx =>
    cases ht
    split
    · next hl => exact k.pump _ (k.other _ _ (by rw [noteValid_link]; exact hl) (k.note _ _ h))
    · exact h
  | discardedFrame p =>
    cases ht
    split
    · exact h
    · exact k.checkError _ _ h
  | negotiationDeadline p time => cases ht; exact k.negotiationFailed _ _ _ h
  | failedTimeout p time recognises => cases ht; exact k.failedOver _ _ _ _ h
  | linkSilence p time =>
    cases ht
    split
    · exact k.settle _ (k.leaveActive _ _ _ h)
    · exact h
  | leaveReplySent p =>
    cases ht
    split
    · exact k.settle _ (k.leaveActive _ _ _ h)
    · exact h
  | frameSent p => cases ht; exact k.settle _ (k.frameSent _ _ h)
  | unknownRequest rx => cases ht; exact k.request rx _ (fun _ _ hs => hs) h
  | acquire rx body => cases ht; exact k.settle _ (k.toKeepsTaking.judged rx body (fun a s => (k.judges _).acquire rx.port a s) h)
  | yield rx body => cases ht; exact k.request rx body ((k.judges _).yield _) h
  | demand rx body => cases ht; exact k.request rx body ((k.judges _).demand _) h
  | trim rx body => cases ht; exact k.request rx body ((k.judges _).trim _) h
  | stop rx body => cases ht; exact k.request rx body ((k.judges _).stop _) h
  | query rx body => cases ht; exact k.request rx body (k.judges _).query h
  | takeFetch rx body => cases ht; exact k.request rx body ((k.judges _).fetch _) h
  | ping rx body => cases ht; exact k.request rx body (fun _ _ hs => hs) h
  | leave rx body =>
    cases ht
    exact k.settle _ (k.toKeepsTaking.takeRequest rx body (fun a s _ hs => ⟨nofun, fun _ => k.leaving rx a s hs⟩) h)
  | releaseAsk rx body => cases ht; exact k.roleRequest _ rx body ((k.judges _).releaseAsk _) h
  | releaseAgree rx body => cases ht; exact k.roleRequest _ rx body ((k.judges _).releaseAgree _) h
  | park rx body => cases ht; exact k.roleRequest _ rx body (k.judges _).park h
  | unpark rx body => cases ht; exact k.roleRequest _ rx body (k.judges _).unpark h
  | profileLoad rx body => cases ht; exact k.roleRequest _ rx body (k.judges _).profileLoad h
  | profileSelect rx body => cases ht; exact k.roleRequest _ rx body (k.judges _).profileSelect h
  | shapeSet rx body => cases ht; exact k.roleRequest _ rx body (k.judges _).shapeSet h
  | limitsSet rx body => cases ht; exact k.roleRequest _ rx body (k.judges _).limitsSet h
  | timebaseSet rx body => cases ht; exact k.roleRequest _ rx body (k.judges _).timebaseSet h
  | zoneSet rx body => cases ht; exact k.roleRequest _ rx body (k.judges _).zoneSet h
  | zoneDrop rx body => cases ht; exact k.roleRequest _ rx body (k.judges _).zoneDrop h
  | presenceSet rx body => cases ht; exact k.roleRequest _ rx body (k.judges _).presenceSet h
  | record rx body => cases ht; exact k.roleRequest _ rx body (k.judges _).record h
  | mark rx body => cases ht; exact k.roleRequest _ rx body (k.judges _).mark h
  | recordEnd rx body => cases ht; exact k.roleRequest _ rx body (k.judges _).recordEnd h
  | cue rx body => cases ht; exact k.roleRequest _ rx body (k.judges _).cue h
  | roll rx body => cases ht; exact k.roleRequest _ rx body (k.judges _).roll h
  | segmentDone rx body => cases ht; exact k.roleRequest _ rx body (k.judges _).segmentDone h
  | uncue rx body => cases ht; exact k.roleRequest _ rx body (k.judges _).uncue h
  | takeProtect rx body => cases ht; exact k.roleRequest _ rx body (k.judges _).takeProtect h
  | takeErase rx body => cases ht; exact k.roleRequest _ rx body (k.judges _).takeErase h
  | takeOpen rx body => cases ht; exact k.roleRequest _ rx body (k.judges _).takeOpen h
  | stage rx body => cases ht; exact k.roleRequest _ rx body (k.judges _).stage h
  | stageCommit rx body => cases ht; exact k.roleRequest _ rx body (k.judges _).stageCommit h
  | takeClose rx body => cases ht; exact k.roleRequest _ rx body (k.judges _).takeClose h
  | takeDiscard rx body => cases ht; exact k.roleRequest _ rx body (k.judges _).takeDiscard h
  | takeStatusClear rx body => cases ht; exact k.roleRequest _ rx body (k.judges _).statusClear h
  | rigWrite rx body => cases ht; exact k.roleRequest _ rx body (k.judges _).rigWrite h
  | rigFreeze rx body => cases ht; exact k.roleRequest _ rx body (k.judges _).rigFreeze h

/-- What every step keeps: the front command runs on a state that differs in the queue alone. -/
theorem step {t : State} (ht : step s = .next t) (queue : ∀ x, P s → P (s.setPending x)) (h : P s) : P t := by
  unfold Machine.step at ht
  split at ht
  · cases ht; exact h
  · exact k.exec ht (queue _ h)

end KeepsCommands

end Sys2Proof.Machine
end

section
/-! PROOFS. What keeps a property of states, for the station links: what a port's link can become, and what only changes a
port's queues, times and flags (chapter 10). -/

namespace Sys2Proof.Machine

open Sys2Proof

/-- The ports stand in the same link states, roles and levels. -/
def SameLinks (v w : Vector StationPort 4) : Prop :=
  ∀ p : Port, w[p].link = v[p].link ∧ w[p].role = v[p].role ∧ w[p].level = v[p].level

/-- No port has more events waiting than it had, or more REPLYs that count. -/
def QueuesWithin (v w : Vector StationPort 4) : Prop :=
  ∀ p : Port, w[p].events.length ≤ v[p].events.length ∧ countedReplies w[p] ≤ countedReplies v[p]

theorem sameLinks_updAt {v : Vector StationPort 4} {p : Port} {f : StationPort → StationPort}
    (h : (f v[p]).link = v[p].link ∧ (f v[p]).role = v[p].role ∧ (f v[p]).level = v[p].level) :
    SameLinks v (updAt v p f) := by
  intro q
  rw [updAt_get]
  split
  · next e => subst e; exact h
  · exact ⟨rfl, rfl, rfl⟩

theorem queuesWithin_updAt {v : Vector StationPort 4} {p : Port} {f : StationPort → StationPort}
    (h : (f v[p]).events.length ≤ v[p].events.length ∧ countedReplies (f v[p]) ≤ countedReplies v[p]) :
    QueuesWithin v (updAt v p f) := by
  intro q
  rw [updAt_get]
  split
  · next e => subst e; exact h
  · exact ⟨Nat.le_refl _, Nat.le_refl _⟩

/-- The port's link is not ACTIVE, and DOWN only after STARTING: it may move (R170, R172). -/
def MayMove (s : State) (p : Port) : Prop := s.ports[p].link ≠ .active ∧ (s.ports[p].link = .down → s.starting = false)

theorem mayMove_of_link {s : State} {p : Port} {l : LinkState} (hl : s.ports[p].link = l) (ha : l ≠ .active)
    (hd : l ≠ .down) : MayMove s p :=
  ⟨hl.trans_ne ha, fun h => absurd (hl.symm.trans h) hd⟩

/-- What the link of a port that is not ACTIVE can become (R172 to R176): OFFER or FAILED with no role, DOWN again with the
role it has, ACKNOWLEDGE in a role of which MOTION is free, or ACTIVE at the level of a role of which MOTION is its own. A
port leaves DOWN only after STARTING. -/
def LinkMove (s : State) (p : Port) (q : StationPort) : Prop :=
  MayMove s p ∧
    (((q.link = .offer ∨ q.link = .failed) ∧ q.role = none) ∨
    (q.link = .down ∧ s.ports[p].link = .failed ∧ q.role = s.ports[p].role) ∨
    (q.link = .acknowledge ∧ ∃ r, q.role = some r ∧ (r = .motion → s.motionFree = true)) ∨
    (q.link = .active ∧ ∃ r, q.role = some r ∧ q.level = roleLevel r ∧ (r = .motion → s.holdsMotion p = true)))

/-- The property survives the moves of the links that are not ACTIVE, all that leaves the links alone and no queue longer,
and the answers of a port that has room for them. -/
structure KeepsLinks (P : State → Prop) (room : Port → State → Prop := fun _ => P) : Prop extends KeepsEvents P where
  same : ∀ v s, SameLinks s.ports v → QueuesWithin s.ports v → P s → P (s.setPorts v)
  move : ∀ p f s, LinkMove s p (f s.ports[p]) →
    (f s.ports[p]).events.length ≤ s.ports[p].events.length ∧ countedReplies (f s.ports[p]) ≤ countedReplies s.ports[p] →
      P s → P (s.setPort p f)
  enter : ∀ (p : Port) s, countedReplies s.ports[p] < 8 → P s → room p s
  leave : ∀ p s, room p s → P s
  answer : ∀ p (r : Reply) s, room p s → P (pushReply p r s)
  leaving : ∀ rx u s, room rx.port s → P (judgeLeave rx u s).1

namespace KeepsLinks

variable {P : State → Prop} {room : Port → State → Prop} (k : KeepsLinks P room) {s : State}

include k

/-- A change of one port's queues, times and flags. -/
theorem queues (p : Port) {f : StationPort → StationPort}
    (hf : (f s.ports[p]).link = s.ports[p].link ∧ (f s.ports[p]).role = s.ports[p].role ∧
      (f s.ports[p]).level = s.ports[p].level)
    (hq : (f s.ports[p]).events.length ≤ s.ports[p].events.length ∧
      countedReplies (f s.ports[p]) ≤ countedReplies s.ports[p]) (h : P s) : P (s.setPort p f) :=
  k.same _ _ (sameLinks_updAt hf) (queuesWithin_updAt hq) h

/-- A change of one port's times and flags. -/
theorem flags (p : Port) {f : StationPort → StationPort}
    (hf : (f s.ports[p]).link = s.ports[p].link ∧ (f s.ports[p]).role = s.ports[p].role ∧
      (f s.ports[p]).level = s.ports[p].level)
    (he : (f s.ports[p]).events = s.ports[p].events) (hr : (f s.ports[p]).replies = s.ports[p].replies) (h : P s) :
    P (s.setPort p f) :=
  k.queues p hf ⟨by rw [he], by rw [countedReplies, hr, countedReplies]⟩ h

theorem pump (h : P s) : P (pump s) := by
  refine k.same _ _ (fun p => ?_) (fun p => ?_) h <;> rw [mapAll_get] <;>
    obtain ⟨hl, hr, hv, -, -, he, hq⟩ := pumpPort_keeps s.ports[p]
  · exact ⟨hl, hr, hv⟩
  · exact ⟨by rw [he], by rw [countedReplies, hq, countedReplies]⟩

/-- The REPLY of a fetch is not counted in its path (R179). -/
theorem fetchReply (p : Port) {r : Reply} (hr : r.kind = .fetch) (h : P s) : P (pushReply p r s) := by
  unfold Machine.pushReply
  split
  · refine k.queues p ⟨rfl, rfl, rfl⟩ ⟨Nat.le_refl _, ?_⟩ h
    simp [countedReplies, hr]
  · exact h

theorem formTelemetry (holders : Vector (Option Holder) 12) (h : P s) : P (formTelemetry holders s) := by
  refine k.same _ _ (fun p => ?_) (fun p => ?_) h <;> rw [mapAll_get]
  · split <;> exact ⟨rfl, rfl, rfl⟩
  · split <;> exact ⟨Nat.le_refl _, Nat.le_refl _⟩

theorem clearLatched (h : P s) : P (clearLatched s) := by
  refine k.same _ _ (fun p => ?_) (fun p => ?_) h <;> rw [mapAll_get]
  · exact ⟨rfl, rfl, rfl⟩
  · exact ⟨Nat.le_refl _, Nat.le_refl _⟩

theorem noteValid (rx : Rx) (h : P s) : P (noteValid rx s) := k.flags _ ⟨rfl, rfl, rfl⟩ rfl rfl h

theorem sendOffer (p : Port) (due : Nat) (h : P s) : P (sendOffer p due s) := k.flags _ ⟨rfl, rfl, rfl⟩ rfl rfl h

theorem offerDue (p : Port) (time : Nat) (h : P s) : P (offerDue p time s) := by
  rcases offerDue_cases p time s with ⟨d, -, -, -, hd⟩ | hd <;> rw [hd]
  · exact k.sendOffer p d h
  · exact h

theorem enterOffer (p : Port) (time : Nat) (hp : MayMove s p) (h : P s) : P (enterOffer p time s) :=
  k.sendOffer _ _ (k.move _ _ _ ⟨hp, .inl ⟨.inl rfl, rfl⟩⟩ ⟨Nat.le_refl _, Nat.le_refl _⟩ h)

theorem becomeActive (p : Port) (role : Role) (hp : MayMove s p) (hm : role = .motion → s.holdsMotion p = true) (h : P s) :
    P (becomeActive p role s) :=
  k.raiseMotion _ (k.move _ _ _ ⟨hp, .inr (.inr (.inr ⟨rfl, _, rfl, rfl, hm⟩))⟩ ⟨Nat.zero_le _, Nat.zero_le _⟩ h)

theorem otherInOffer (p : Port) (hl : s.ports[p].link = .offer) (h : P s) : P (otherInOffer p s) := by
  have counted := k.flags p (f := fun q => { q with
    otherRun := s.ports[p].otherRun + 1, abilityRole := none, abilityCount := 0 }) ⟨rfl, rfl, rfl⟩ rfl rfl h
  have hl' : (s.setPort p fun q => { q with
      otherRun := s.ports[p].otherRun + 1, abilityRole := none, abilityCount := 0 }).ports[p].link = .offer := by
    rw [State.setPort, State.setPorts_ports, updAt_same]
    exact hl
  unfold Machine.otherInOffer
  dsimp only
  split
  · exact k.becomeActive _ _ (mayMove_of_link hl' (by decide) (by decide)) (by simp) counted
  · exact counted

theorem taking : KeepsTaking P room where
  note rx _ := k.noteValid rx
  other p _ := k.otherInOffer p
  lost p _ := k.flags p ⟨rfl, rfl, rfl⟩ rfl rfl
  enter := k.enter
  leave := k.leave
  answer := k.answer

theorem abilityInOffer (rx : Rx) (body : Body Ability) (hl : s.ports[rx.port].link = .offer) (h : P s) :
    P (abilityInOffer rx body s) := by
  unfold Machine.abilityInOffer
  dsimp only
  split
  · exact k.flags _ ⟨rfl, rfl, rfl⟩ rfl rfl h
  · next a =>
    split
    · exact k.flags _ ⟨rfl, rfl, rfl⟩ rfl rfl h
    · generalize (if s.ports[rx.port].abilityRole = some a.wanted then _ else 1) = n
      split
      · refine k.sendOffer _ _ ?_
        rw [State.setPort, State.setPort, State.setPorts_setPorts, State.setPorts_ports]
        have moved := k.move rx.port (fun q => { q with
          abilityRole := some a.wanted, abilityCount := n, otherRun := 0,
          link := .acknowledge, role := some (s.grantedRole a.wanted) }) s
          ⟨mayMove_of_link hl (by decide) (by decide), .inr (.inr (.inl ⟨rfl, _, rfl, fun hm => ?_⟩))⟩
          ⟨Nat.le_refl _, Nat.le_refl _⟩ h
        · have compose : ∀ (f g : StationPort → StationPort),
              updAt (updAt s.ports rx.port f) rx.port g = updAt s.ports rx.port fun q => g (f q) := by
            intro f g
            refine Vector.ext fun i hi => ?_
            simp only [updAt_getNat]
            split <;> rfl
          rw [compose]
          exact moved
        · unfold State.grantedRole at hm
          split at hm
          · split at hm
            · next hf => exact hf
            · cases hm
          · next hn => exact absurd hm hn
      · exact k.flags _ ⟨rfl, rfl, rfl⟩ rfl rfl h

theorem backToOffer (p : Port) (time : Nat) (hl : s.ports[p].link = .acknowledge) (h : P s) : P (backToOffer p time s) :=
  k.sendOffer _ _ (k.move _ _ _ ⟨mayMove_of_link hl (by decide) (by decide), .inl ⟨.inl rfl, rfl⟩⟩
    ⟨Nat.le_refl _, Nat.le_refl _⟩ h)

theorem abilityInAcknowledge (rx : Rx) (body : Body Ability) (hl : s.ports[rx.port].link = .acknowledge) (h : P s) :
    P (abilityInAcknowledge rx body s) := by
  unfold Machine.abilityInAcknowledge
  dsimp only
  split
  · next r hr =>
    split
    · refine k.becomeActive _ _ (mayMove_of_link hl (by decide) (by decide)) (fun hm => ?_) h
      simp only [State.holdsMotion, hl, hr, hm, decide_true, Bool.true_or, Bool.and_self]
    · exact k.backToOffer _ _ hl h
  · exact k.backToOffer _ _ hl h

theorem takeAbility (rx : Rx) (body : Body Ability) (h : P s) : P (takeAbility rx body s) := by
  have noted := k.noteValid rx h
  unfold Machine.takeAbility
  dsimp only
  split
  · exact noted
  · next hl => exact k.abilityInOffer rx body hl noted
  · next hl => exact k.abilityInAcknowledge rx body hl noted
  · exact noted
  · exact noted

theorem negotiationFailed (p : Port) (time : Nat) (h : P s) : P (negotiationFailed p time s) := by
  unfold Machine.negotiationFailed
  dsimp only
  split
  · exact h
  · split
    · next hc =>
      have hl : s.ports[p].link = .offer ∨ s.ports[p].link = .acknowledge := by
        simp only [Bool.and_eq_true, Bool.or_eq_true, decide_eq_true_eq] at hc
        exact hc.1
      have hp : MayMove s p := hl.elim (mayMove_of_link · (by decide) (by decide)) (mayMove_of_link · (by decide) (by decide))
      exact k.move _ _ _ ⟨hp, .inl ⟨.inr rfl, rfl⟩⟩ ⟨Nat.le_refl _, Nat.le_refl _⟩ h
    · exact h

theorem failedOver (p : Port) (time : Nat) (recognises : Bool) (h : P s) : P (failedOver p time recognises s) := by
  unfold Machine.failedOver
  dsimp only
  split
  · exact h
  · split
    · next hc =>
      have hl : s.ports[p].link = .failed := by
        simp only [Bool.and_eq_true, decide_eq_true_eq] at hc
        exact hc.1
      split
      · exact k.enterOffer p time (mayMove_of_link hl (by decide) (by decide)) h
      · exact k.move _ _ _ ⟨mayMove_of_link hl (by decide) (by decide), .inr (.inl ⟨rfl, hl, rfl⟩)⟩
          ⟨Nat.le_refl _, Nat.le_refl _⟩ h
    · exact h

theorem judgeQuery (t : TableName) : KeptBy P (judgeQuery t) := by
  intro s h
  unfold Machine.judgeQuery
  dsimp only
  split
  · exact k.clearLatched h
  · exact h

end KeepsLinks

end Sys2Proof.Machine
end

section
/-! PROOFS. Properties that the grants, the lanes, the drives, the stops and the playback have no part in: what they have
to survive, and that no command touches the queue of waiting commands (O2). -/

namespace Sys2Proof.Machine

open Sys2Proof

/-! ### Operations of several units -/

/-- A link that leaves ACTIVE, by the units it touches (R177). -/
theorem leaveActive_keeps {P : State → Prop} {p : Port} {s : State} (why : DownReason)
    (raise : ∀ aud body s, P s → P (raiseFor aud body s)) (remove : ∀ ends l s, P s → P (removeStation p ends l s))
    (playIdle : ∀ o s, P s → P (playIdle o s)) (asker : ∀ s, P s → P (askerLost p s))
    (recordEnds : ∀ o s, P s → P (recordEnds o s)) (discard : ∀ s, P s → P (discardUpload s))
    (dropped : P (dropPort p s)) : P (leaveActive p why s) := by
  have removed := fun ends => forEach_keeps (fun l s hs => remove ends l s hs) allLanes dropped
  unfold leaveActive
  dsimp only
  refine raise _ _ _ ?_
  split
  · refine discard _ (recordEnds _ _ (asker _ ?_))
    split
    · exact playIdle _ _ (removed _)
    · exact removed _
  · refine asker _ ?_
    split
    · exact playIdle _ _ (removed _)
    · exact removed _

/-- A frame that was sent, by what it takes from its port (R180). -/
theorem frameSent_keeps {P : State → Prop} {p : Port} {s : State}
    (telemetry : ∀ x : Telemetry, P (s.setPort p fun q => { q with sending := none, eventsLost := q.eventsLost && !x.eventsLost }))
    (event : P (s.setPort p fun q => { q with sending := none, events := q.events.tail }))
    (free : s.ports[p].replies = [] → P (s.setPort p fun q => { q with sending := none }))
    (part : ∀ r rest, s.ports[p].replies = r :: rest →
      P (s.setPort p fun q => { q with sending := none, replies := { r with framesSent := r.framesSent + 1 } :: rest }))
    (last : ∀ r rest, s.ports[p].replies = r :: rest →
      P (s.setPort p fun q => { q with sending := none, replies := rest }))
    (fetch : ∀ s, P s → P (dropFetch p s)) (leave : ∀ s, P s → P (leaveActive p .leave s)) (h : P s) :
    P (frameSent p s) := by
  unfold frameSent
  split
  · exact h
  · exact telemetry _
  · unfold replyFrameSent
    split
    · next hr => exact free hr
    · next r rest hr =>
      split
      · dsimp only
        split
        · exact last r rest hr
        · exact fetch _ (last r rest hr)
        · exact leave _ (last r rest hr)
      · exact part r rest hr
  · exact event

/-- The head of a reply path counts the same after one of its frames has been sent. -/
theorem countedReplies_bump {q : StationPort} {r : Reply} {rest : List Reply} (h : q.replies = r :: rest) :
    countedReplies { q with sending := none, replies := { r with framesSent := r.framesSent + 1 } :: rest } =
      countedReplies q := by
  simp only [countedReplies, h, List.filter_cons]
  split <;> rfl

theorem countedReplies_rest {q : StationPort} {r : Reply} {rest : List Reply} (h : q.replies = r :: rest) :
    countedReplies { q with sending := none, replies := rest } ≤ countedReplies q := by
  simp only [countedReplies, h, List.filter_cons]
  split <;> simp

/-- A READ that completes hands its sample to the Playback Unit or to a fetch (R98, R118). -/
theorem readDone_keeps {P : State → Prop} {s : State} (free : ∀ i n d, s.mem.op = some (.read i n d) → P s → P (freeArray s))
    (fetches : ∀ f s, P s → P (s.setMem { s.mem with fetches := f })) (play : KeepsPlay P)
    (answer : ∀ p (r : Reply) s, r.kind = .fetch → P s → P (pushReply p r s)) (h : P s) : P (readDone s) := by
  unfold readDone
  split
  · next i n d hop =>
    have freed := free i n d hop h
    dsimp only
    split
    · exact play.playRead _ _ _ freed
    · have fetched := fun f => fetches f _ freed
      unfold fetchRead
      dsimp only
      split
      · split
        · exact answer _ _ _ rfl (fetched _)
        · exact fetched _
      · exact fetched _
    · exact freed
  · exact h

theorem removeStation_keeps {P : State → Prop} (grants : KeepsGrants P) (p : Port) (ends : Bool) (l : Lane) (s : State)
    (h : P s) : P (removeStation p ends l s) := by
  unfold removeStation
  dsimp only
  split
  · exact grants.leave _ _ _ (grants.grant _ _ _ h)
  · split
    · exact grants.leave _ _ _ (grants.grant _ _ _ h)
    · exact grants.grant _ _ _ h

/-- The begin of a reserved-area write, by the units whose content it takes (R82). -/
theorem startReserved_keeps {P : State → Prop} (mem : ∀ x s, P s → P (s.setMem x)) (lens : ∀ x s, P s → P (s.setLens x))
    (rig : ∀ x s, P s → P (s.setRig x)) (s : State) (h : P s) : P (startReserved s) := by
  unfold startReserved
  split
  · exact h
  · dsimp only
    split
    · exact mem _ _ (mem _ _ (mem _ _ h))
    · exact mem _ _ (lens _ _ (mem _ _ h))
    · exact mem _ _ (rig _ _ (mem _ _ h))

theorem reservedDone_keeps {P : State → Prop} (raise : KeepsEvents P) (mem : ∀ x s, P s → P (s.setMem x))
    (lens : ∀ x s, P s → P (s.setLens x)) (rig : ∀ x s, P s → P (s.setRig x)) (ok : Bool) (s : State) (h : P s) :
    P (reservedDone ok s) := by
  have ends : ∀ w s, P s → P (writeEnds w ok s) := by
    intro w s h
    unfold writeEnds
    split
    · exact h
    · exact lens _ _ h
    · dsimp only
      split
      · exact raise.raiseMotion _ (rig _ _ (rig _ _ h))
      · exact rig _ _ h
  unfold reservedDone
  split
  · refine ends _ _ ?_
    split
    · exact mem _ _ (mem _ _ h)
    · exact mem _ _ (mem _ _ h)
  · exact h

theorem setPower_survives {P : State → Prop} (raise : KeepsEvents P) (safety : ∀ x s, P s → P (s.setSafety x))
    (drives : ∀ x s, P s → P (s.setDrives x)) (on : Bool) (s : State) (h : P s) : P (setPower on s) := by
  unfold setPower
  split
  · exact h
  · exact raise.raiseAll _ (drives _ _ (safety _ _ h))

/-- The operations of the Grant Table, where every change of a grant state is survived. -/
theorem keepsGrants_of {P : State → Prop} (raise : KeepsEvents P) (grants : ∀ x s, P s → P (s.setGrants x))
    (nextArrival : ∀ x s, P s → P (s.setNextArrival x)) : KeepsGrants P where
  gain l who level s h := by
    unfold gainLane
    dsimp only
    refine raise.raiseLane _ _ _ ?_
    split
    · exact raise.raiseLane _ _ _ (grants _ _ h)
    · exact grants _ _ h
  wait l p level s h := raise.raiseLane _ _ _ (nextArrival _ _ (grants _ _ h))
  leave l why s h := by
    unfold leaveLane
    split
    · exact h
    · have chosen := fun x y => raise.raiseLane l x y (grants (updAt s.grants l fun _ =>
        chooseNext s.lens l s.lanes[l].p s.grants[l]) s h)
      dsimp only
      split
      · exact raise.raiseLane _ _ _ (chosen _ _)
      · exact raise.raiseLane _ _ _ (chosen _ _)
      · exact chosen _ _
  grant l f s h := grants _ _ h

theorem clearLane_keeps {P : State → Prop} (raise : KeepsEvents P) (grants : ∀ x s, P s → P (s.setGrants x)) (l : Lane)
    (s : State) (h : P s) : P (clearLane l s) := by
  unfold clearLane
  dsimp only
  split
  · exact grants _ _ h
  · exact raise.raise _ _ _ (grants _ _ h)

theorem enterRun_keeps {P : State → Prop} (raise : KeepsEvents P) (lanes : ∀ x s, P s → P (s.setLanes x))
    (safety : ∀ x s, P s → P (s.setSafety x)) (drives : ∀ x s, P s → P (s.setDrives x))
    (grants : ∀ x s, P s → P (s.setGrants x)) (party : Party) (s : State) (h : P s) : P (enterRun party s) := by
  have entered := fun w v x y z g b => raise.raiseAll b (safety w _ (grants g _ (safety v _ (drives x _ (safety y _ (lanes z _
    (safety { s.safety with causes := [], release := none } s h)))))))
  unfold enterRun
  dsimp only
  split
  · exact raise.raiseAll _ (entered _ _ _ _ _ _ _)
  · exact entered _ _ _ _ _ _ _

/-! ### The operations of the machine -/

/-- The property survives what the other units have the take memory and the Recorder do, what the array completes and starts,
and the judgements of the requests about takes. -/
structure KeepsWork (P : State → Prop) : Prop extends KeepsEvents P where
  queueReserved : ∀ r s, P s → P (queueReserved r s)
  recordEnds : ∀ o s, P s → P (recordEnds o s)
  composeSample : ∀ s, P s → P (composeSample s)
  recorderFrame : ∀ s, P s → P (recorderFrame s)
  discardUpload : ∀ s, P s → P (discardUpload s)
  dropPlay : ∀ s, P s → P (s.setMem { s.mem with op := dropRead isPlayRead s.mem.op })
  dropFetch : ∀ p s, P s → P (dropFetch p s)
  freeRead : ∀ i n d s, s.mem.op = some (.read i n d) → P s → P (freeArray s)
  fetches : ∀ f s, P s → P (s.setMem { s.mem with fetches := f })
  schedule : ∀ s, P s → P (schedule s)
  protectLine : ∀ closed s, P s → P (if s.mem.protectClosed = closed then s
    else s.setMem { s.mem with protectClosed := closed, slots := mapAll s.mem.slots fun _ x => protectSlot closed x })
  sampleProgrammed : ∀ ok s, P s → P (sampleProgrammed ok s)
  partDone : ∀ ok s, P s → P (partDone ok s)
  eraseCompletes : ∀ verified s, P s → P (eraseCompletes verified s)
  suspendCompletes : ∀ r s, P s → P (suspendCompletes r s)
  resumeCompletes : ∀ s, P s → P (resumeCompletes s)
  fetch : ∀ rx a, KeptBy P (judgeTakeFetch rx a)
  record : ∀ a, KeptBy P (judgeRecord a)
  mark : ∀ a, KeptBy P (judgeMark a)
  recordEnd : ∀ u, KeptBy P (judgeRecordEnd u)
  takeProtect : ∀ a, KeptBy P (judgeTakeProtect a)
  takeErase : ∀ slot, KeptBy P (judgeTakeErase slot)
  takeOpen : ∀ a, KeptBy P (judgeTakeOpen a)
  stage : ∀ xs, KeptBy P (judgeStage xs)
  stageCommit : ∀ u, KeptBy P (judgeStageCommit u)
  takeClose : ∀ u, KeptBy P (judgeTakeClose u)
  takeDiscard : ∀ u, KeptBy P (judgeTakeDiscard u)
  statusClear : ∀ u, KeptBy P (judgeStatusClear u)

theorem KeepsArray.toKeepsWork {P : State → Prop} (k : KeepsArray P) : KeepsWork P where
  raise := k.raise
  queueReserved r _ := k.queueReserved r
  recordEnds o _ := k.recordEnds o
  composeSample _ := k.composeSample
  recorderFrame _ := k.recorderFrame
  discardUpload _ := k.discardUpload
  dropPlay s := k.mem _ s (rigKept_dropRead _ s.mem)
  dropFetch p _ := k.dropFetch p
  freeRead _ _ _ _ _ := k.freeArray
  fetches _ _ := k.table rfl rfl
  schedule _ := k.schedule
  protectLine closed _ := k.protectLine closed
  sampleProgrammed ok _ := k.sampleProgrammed ok
  partDone ok _ := k.partDone ok
  eraseCompletes verified _ := k.eraseCompletes verified
  suspendCompletes r _ := k.suspendCompletes r
  resumeCompletes _ := k.resumeCompletes
  fetch rx a _ := k.judgeTakeFetch rx a
  record a _ := k.judgeRecord a
  mark a _ := k.judgeMark a
  recordEnd u _ := k.judgeRecordEnd u
  takeProtect a _ := k.judgeTakeProtect a
  takeErase slot _ := k.judgeTakeErase slot
  takeOpen a _ := k.judgeTakeOpen a
  stage xs _ := k.judgeStage xs
  stageCommit u _ := k.judgeStageCommit u
  takeClose u _ := k.judgeTakeClose u
  takeDiscard u _ := k.judgeTakeDiscard u
  statusClear u _ := k.judgeStatusClear u

/-- The property survives each operation of the units that no smaller operation makes up: those of the take memory, the
grants, the lanes, the drives and the stops, and the judgements of the requests that change one of these alone. -/
structure KeepsMachine (P : State → Prop) : Prop extends KeepsWork P where
  pump : ∀ s, P s → P (pump s)
  reservedDone : ∀ ok s, P s → P (reservedDone ok s)
  lens : ∀ x s, P s → P (s.setLens x)
  play : ∀ x s, (x.state = .idle ∨ s.play.state ≠ .idle) → P s → P (s.setPlay x)
  leave : ∀ l why s, P s → P (leaveLane l why s)
  contexts : ∀ s, P s → P (resetPlayContexts s)
  monitor : ∀ x s, x.stop = s.safety.stop → x.causes = s.safety.causes → x.release = s.safety.release →
    x.drivePower = s.safety.drivePower → P s → P (s.setSafety x)
  causes : ∀ cs s, P s → P (causeEvents cs s)
  cancel : ∀ why s, s.safety.stop = .releasing ∨ s.safety.release.isSome = true → P s → P (cancelRelease why s)
  openWindow : ∀ rx s, s.safety.stop = .stopped → P s → P (openWindow rx s)
  enterRun : ∀ party s, s.safety.stop = .releasing → P s → P (enterRun party s)
  toKeepsDrives : KeepsDrives P
  acquire : ∀ p ls s, s.isActive p = true → P s → P (judgeAcquire p ls s).1
  yield : ∀ p ls, KeptBy P (judgeYield p ls)
  demand : ∀ p es, KeptBy P (judgeDemand p es)
  trim : ∀ p es, KeptBy P (judgeTrim p es)
  cue : ∀ a, KeptBy P (judgeCue a)
  park : ∀ s, P s → P (park s)
  unpark : ∀ s, P s → P (unpark s)
  shapeSet : ∀ a, KeptBy P (judgeShapeSet a)
  limitsSet : ∀ a, KeptBy P (judgeLimitsSet a)
  rigWrite : ∀ a, KeptBy P (judgeRigWrite a)
  rigFreeze : ∀ a, KeptBy P (judgeRigFreeze a)

namespace KeepsMachine

variable {P : State → Prop} (k : KeepsMachine P) {s : State}

include k

theorem toKeepsPlay : KeepsPlay P where
  raise := k.raise
  play := k.play
  leave := k.leave
  contexts := k.contexts
  dropPlay := k.dropPlay

theorem askerLost (p : Port) (h : P s) : P (askerLost p s) := by
  unfold Machine.askerLost
  split
  · next hr =>
    split
    · exact k.cancel _ _ (.inr (by rw [hr]; rfl)) h
    · exact h
  · exact h

theorem windowExpiry (time : Nat) (h : P s) : P (windowExpiry time s) := by
  unfold Machine.windowExpiry
  split
  · split
    · next hr => exact k.cancel _ _ (.inl hr.1) h
    · exact h
  · exact h

theorem stopLineAssert (h : P s) : P (stopLineAssert s) := k.causes _ _ (k.monitor _ _ rfl rfl rfl rfl h)

theorem evaluateZones (h : P s) : P (evaluateZones s) := by
  have cleared : ∀ z s, P s → P (clearExit z s) := by
    intro z s hs
    unfold clearExit
    dsimp only
    split
    · exact k.raiseAll _ (k.monitor _ _ rfl rfl rfl rfl hs)
    · exact hs
  unfold Machine.evaluateZones
  dsimp only
  exact k.causes _ _ (forEach_keeps cleared _ (k.monitor _ _ rfl rfl rfl rfl h))

theorem judgeReleaseAsk (rx : Rx) (u : Unit) : KeptBy P (judgeReleaseAsk rx u) := by
  intro s h
  unfold Machine.judgeReleaseAsk
  split
  · exact h
  · next hs =>
    rw [not_or, not_not] at hs
    exact k.openWindow rx s hs.1 h

theorem judgeReleaseAgree (p : Port) (u : Unit) : KeptBy P (judgeReleaseAgree p u) := by
  intro s h
  unfold Machine.judgeReleaseAgree
  split
  · exact h
  · next hs =>
    rw [not_or, not_not] at hs
    split
    · exact k.enterRun _ _ hs.1 h
    · exact k.cancel _ _ (.inl hs.1) h

theorem releasePulse (h : P s) : P (releasePulse s) := by
  unfold Machine.releasePulse agree
  split
  · next hs =>
    split
    · exact k.enterRun _ _ hs h
    · exact k.cancel _ _ (.inl hs) h
  · exact h

theorem judgeZoneSet (a : ZoneSetArgs) : KeptBy P (judgeZoneSet a) := by
  intro s h
  unfold Machine.judgeZoneSet
  split
  · exact h
  · split
    · exact h
    · dsimp only [doneAdjusted]
      split
      · exact k.causes _ _ (k.monitor _ _ rfl rfl rfl rfl h)
      · exact k.monitor _ _ rfl rfl rfl rfl h

theorem judgeZoneDrop (entry : Nat) : KeptBy P (judgeZoneDrop entry) := by
  intro s h
  unfold Machine.judgeZoneDrop
  split
  · exact h
  · exact k.monitor _ _ rfl rfl rfl rfl h

theorem judgePresenceSet (a : PresenceArgs) : KeptBy P (judgePresenceSet a) := by
  intro s h
  unfold Machine.judgePresenceSet
  split
  · exact h
  · split
    · exact h
    · exact k.monitor _ _ rfl rfl rfl rfl h

theorem judgePark (u : Unit) : KeptBy P (judgePark u) := by
  intro s h
  unfold Machine.judgePark
  split
  · exact h
  split
  · exact h
  · exact k.park _ h

theorem judgeUnpark (u : Unit) : KeptBy P (judgeUnpark u) := by
  intro s h
  unfold Machine.judgeUnpark
  split
  · exact h
  · exact k.unpark _ h

theorem judgeProfileLoad (a : ProfileLoadArgs) : KeptBy P (judgeProfileLoad a) := by
  intro s h
  unfold Machine.judgeProfileLoad
  split
  · exact h
  split
  · exact h
  split
  · exact h
  split
  · exact h
  · exact k.queueReserved _ _ (k.lens _ _ h)

theorem judgeProfileSelect (a : Option Nat) : KeptBy P (judgeProfileSelect a) := by
  have selected : ∀ sel s, P s → P (selectProfile sel s).1 := by
    intro sel s h
    unfold selectProfile
    split
    · exact h
    split
    · exact h
    · exact k.lens _ _ h
  intro s h
  unfold Machine.judgeProfileSelect
  split
  · exact selected _ s h
  · split
    · exact h
    · split
      · exact h
      · exact selected _ s h

theorem judges (query : ∀ t, KeptBy P (judgeQuery t)) (timebaseSet : ∀ a, KeptBy P (judgeTimebaseSet a)) :
    KeepsJudges P where
  acquire := k.acquire
  yield := k.yield
  demand := k.demand
  trim := k.trim
  stop _ _ s h := k.causes [_] s h
  query := query
  fetch := k.fetch
  releaseAsk := k.judgeReleaseAsk
  releaseAgree := k.judgeReleaseAgree
  park := k.judgePark
  unpark := k.judgeUnpark
  profileLoad := k.judgeProfileLoad
  profileSelect := k.judgeProfileSelect
  shapeSet := k.shapeSet
  limitsSet := k.limitsSet
  timebaseSet := timebaseSet
  zoneSet := k.judgeZoneSet
  zoneDrop := k.judgeZoneDrop
  presenceSet := k.judgePresenceSet
  record := k.record
  mark := k.mark
  recordEnd := k.recordEnd
  cue := k.cue
  roll a _ := k.toKeepsPlay.judgeRoll a
  segmentDone a _ := k.toKeepsPlay.judgeSegmentDone a
  uncue a _ := k.toKeepsPlay.judgeUncue a
  takeProtect := k.takeProtect
  takeErase := k.takeErase
  takeOpen := k.takeOpen
  stage := k.stage
  stageCommit := k.stageCommit
  takeClose := k.takeClose
  takeDiscard := k.takeDiscard
  statusClear := k.statusClear
  rigWrite := k.rigWrite
  rigFreeze := k.rigFreeze

/-- Every command, where the property survives what the clock does, a link's leaving ACTIVE, a power-up and the end of
STARTING. -/
theorem commands {room : Port → State → Prop} (links : KeepsLinks P room)
    (judges : ∀ p, KeepsJudges (room p)) (leaveActive : ∀ p why s, P s → P (leaveActive p why s))
    (frameStart : ∀ s, P s → P (frameStart s))
    (overdueFrame : ∀ s, P s → P (overdueFrame s)) (servoTick : ∀ s, P s → P (servoTick s))
    (referencePulse : ∀ time s, P s → P (referencePulse time s)) (missingPulse : ∀ s, P s → P (missingPulse s))
    (powerUp : ∀ lines d s, P s → P (powerUp lines d s)) (endStarting : ∀ s, P s → P (endStarting s)) :
    KeepsCommands P room where
  toKeepsTaking := links.taking
  judges := judges
  leaving := links.leaving
  settle s h := k.pump _ (k.schedule s h)
  pump := k.pump
  powerUp := powerUp
  endStarting := endStarting
  frameStart := frameStart
  overdueFrame := overdueFrame
  servoTick := servoTick
  referencePulse := referencePulse
  missingPulse := missingPulse
  takeReply l f t status count _ := k.toKeepsDrives.takeReply l f t status count
  takeMissing l _ := k.toKeepsDrives.takeMissing l
  stopLineAssert _ := k.stopLineAssert
  stopLineDeassert _ := k.monitor _ _ rfl rfl rfl rfl
  releasePulse _ := k.releasePulse
  setPresence _ _ _ := k.monitor _ _ rfl rfl rfl rfl
  windowExpiry time _ := k.windowExpiry time
  protectLine := k.protectLine
  readDone _ := readDone_keeps (fun i n d => k.freeRead i n d _) k.fetches k.toKeepsPlay fun p _ _ => links.fetchReply p
  sampleProgrammed := k.sampleProgrammed
  partDone := k.partDone
  eraseCompletes := k.eraseCompletes
  suspendCompletes := k.suspendCompletes
  resumeCompletes := k.resumeCompletes
  reservedDone := k.reservedDone
  idleFill p time _ hs hl := links.enterOffer p time ⟨hl.trans_ne (by decide), fun _ => hs⟩
  offerDue p time _ := links.offerDue p time
  takeAbility rx body _ := links.takeAbility rx body
  checkError p _ := links.flags p ⟨rfl, rfl, rfl⟩ rfl rfl
  negotiationFailed p time _ := links.negotiationFailed p time
  failedOver p time recognises _ := links.failedOver p time recognises
  leaveActive := leaveActive
  frameSent p s h := frameSent_keeps (fun _ => links.flags p ⟨rfl, rfl, rfl⟩ rfl rfl h)
    (links.queues p ⟨rfl, rfl, rfl⟩ ⟨by simp, Nat.le_refl _⟩ h)
    (fun _ => links.flags p ⟨rfl, rfl, rfl⟩ rfl rfl h)
    (fun r rest hr => links.queues p ⟨rfl, rfl, rfl⟩ ⟨Nat.le_refl _, by rw [countedReplies_bump hr]⟩ h)
    (fun r rest hr => links.queues p ⟨rfl, rfl, rfl⟩ ⟨Nat.le_refl _, countedReplies_rest hr⟩ h)
    (k.dropFetch p) (fun s => leaveActive p .leave s) h

end KeepsMachine

/-- Every command, for a property that the ports and the clock have no part in. -/
theorem KeepsMachine.unlinked {P : State → Prop} (k : KeepsMachine P) (ports : ∀ v s, P s → P (s.setPorts v))
    (tb : ∀ b s, P s → P (s.setTb b)) (leaveActive : ∀ p why s, P s → P (leaveActive p why s))
    (tick : ∀ s, P s → P (tickWork s)) (powerUp : ∀ lines d s, P s → P (powerUp lines d s))
    (endStarting : ∀ s, P s → P (endStarting s)) : KeepsCommands P :=
  have replied : ∀ p (r : Reply) s, P s → P (pushReply p r s) := fun p r s h => by
    unfold pushReply
    split
    · exact ports _ _ h
    · exact h
  have links : KeepsLinks P :=
    { raise := k.raise, same := fun v s _ _ => ports v s, move := fun _ _ s _ _ => ports _ s, enter := fun _ _ _ h => h,
      leave := fun _ _ h => h, answer := replied, leaving := fun _ _ _ h => replied _ _ _ (ports _ _ h) }
  have clock : KeepsClock P :=
    { recordEnds := k.recordEnds, endPlayback := fun o _ => k.toKeepsPlay.endPlayback o,
      recorderFrame := k.recorderFrame, playbackFrame := fun _ => k.toKeepsPlay.playbackFrame, tick := tick,
      tb := tb }
  have timebaseSet : ∀ a, KeptBy P (judgeTimebaseSet a) := fun a s h => by
    unfold judgeTimebaseSet
    split
    · exact h
    · exact tb _ _ h
  k.commands links (fun _ => k.judges links.judgeQuery timebaseSet) leaveActive (fun _ => clock.frameStart)
    (fun _ => clock.overdueFrame) (fun _ => clock.servoTick) (fun time _ => clock.referencePulse time)
    (fun _ => clock.missingPulse) powerUp endStarting

/-! ### Updates of the units -/

/-- The property survives every change of the units, but for the clock and the ports. -/
structure KeepsUnits (P : State → Prop) : Prop extends KeepsTakes P where
  pump : ∀ s, P s → P (pump s)
  anyMem : ∀ x s, P s → P (s.setMem x)
  play : ∀ x s, P s → P (s.setPlay x)
  lanes : ∀ x s, P s → P (s.setLanes x)
  grants : ∀ x s, P s → P (s.setGrants x)
  nextArrival : ∀ x s, P s → P (s.setNextArrival x)
  lens : ∀ x s, P s → P (s.setLens x)
  safety : ∀ x s, P s → P (s.setSafety x)
  drives : ∀ x s, P s → P (s.setDrives x)
  rig : ∀ x s, P s → P (s.setRig x)

/-- The property survives what touches the take memory, the Recorder and the activity of a playback, and every change of the
other units, but for the clock and the ports. -/
structure KeepsPlain (P : State → Prop) : Prop extends KeepsWork P where
  pump : ∀ s, P s → P (pump s)
  reservedDone : ∀ ok s, P s → P (reservedDone ok s)
  play : ∀ x s, (x.state = .idle ∨ s.play.state ≠ .idle) → P s → P (s.setPlay x)
  cue : ∀ a, KeptBy P (judgeCue a)
  lanes : ∀ x s, P s → P (s.setLanes x)
  grants : ∀ x s, P s → P (s.setGrants x)
  nextArrival : ∀ x s, P s → P (s.setNextArrival x)
  lens : ∀ x s, P s → P (s.setLens x)
  safety : ∀ x s, P s → P (s.setSafety x)
  drives : ∀ x s, P s → P (s.setDrives x)
  rig : ∀ x s, P s → P (s.setRig x)

theorem KeepsUnits.plain {P : State → Prop} (k : KeepsUnits P) : KeepsPlain P where
  toKeepsWork := KeepsArray.toKeepsWork
    { toKeepsTakes := k.toKeepsTakes, pump := k.pump, reserve := startReserved_keeps k.anyMem k.lens k.rig }
  pump := k.pump
  reservedDone := reservedDone_keeps k.toKeepsEvents k.anyMem k.lens k.rig
  play x s _ := k.play x s
  cue _ _ h := judgeCue_keeps (fun _ _ _ _ _ _ _ => k.suspendErase
    (forEach_keeps (fun _ _ hs => (keepsGrants_of k.toKeepsEvents k.grants k.nextArrival).gain _ _ _ _ hs) _ (k.play _ _ h))) h
  lanes := k.lanes
  grants := k.grants
  nextArrival := k.nextArrival
  lens := k.lens
  safety := k.safety
  drives := k.drives
  rig := k.rig

namespace KeepsPlain

variable {P : State → Prop} (k : KeepsPlain P) {s : State}

include k

theorem toKeepsGrants : KeepsGrants P := keepsGrants_of k.toKeepsEvents k.grants k.nextArrival

theorem toKeepsPlay : KeepsPlay P where
  raise := k.raise
  play := k.play
  leave := k.toKeepsGrants.leave
  contexts _ := k.grants _ _
  dropPlay := k.dropPlay

theorem setPower : ∀ on s, P s → P (setPower on s) := setPower_survives k.toKeepsEvents k.safety k.drives

theorem toKeepsStops : KeepsStops P where
  raise := k.raise
  recordEnds := k.recordEnds
  endPlayback o _ := k.toKeepsPlay.endPlayback o
  safety x s _ := k.safety x s
  power := k.setPower

theorem toKeepsDrives : KeepsDrives P where
  channels _ s _ := k.drives _ s
  driveCause := driveCause_keeps (fun _ _ _ h => k.drives _ _ (k.lanes _ _ h)) fun cs _ => k.toKeepsStops.causeEvents cs
  settled _ _ _ _ := k.lanes _ _

theorem tick (telemetry : ∀ hs s, P s → P (formTelemetry hs s)) : KeepsTick P where
  raise := k.raise
  playBefore _ := k.toKeepsPlay.playBefore
  playAfter _ := k.toKeepsPlay.playAfter
  commitRun _ _ h := k.lanes _ _ (k.lanes _ _ h)
  commitStop _ _ h := k.lanes _ _ (k.lanes _ _ h)
  commitRest _ h := k.lanes _ _ (k.lanes _ _ h)
  writeBack _ _ := k.grants _ _
  causes cs _ := k.toKeepsStops.causeEvents cs
  stoppedTest _ := k.toKeepsStops.stoppedTest
  compose := k.composeSample
  exchange _ := k.toKeepsDrives.exchangeTick
  telemetry := telemetry
  evaluate _ := k.toKeepsStops.evaluateZones

theorem frame (telemetry : ∀ hs s, P s → P (formTelemetry hs s)) : KeepsFrame P where
  recordEnds := k.recordEnds
  endPlayback o _ := k.toKeepsPlay.endPlayback o
  recorderFrame := k.recorderFrame
  playbackFrame _ := k.toKeepsPlay.playbackFrame
  tick _ := (k.tick telemetry).tickWork

theorem park (h : P s) : P (park s) := by
  refine k.drives _ _ (k.drives _ _ (k.lanes _ _ (forEach_keeps (fun l s hs => ?_) _ h)))
  split
  · exact clearLane_keeps k.toKeepsEvents k.grants l s hs
  · exact hs

theorem unpark (h : P s) : P (unpark s) := by
  unfold Machine.unpark
  dsimp only
  refine k.drives _ _ ?_
  have caused := fun cs v w => k.toKeepsStops.causeEvents cs (k.drives v _ (k.lanes w s h))
  split
  · exact caused _ _ _
  · exact k.safety _ _ (caused _ _ _)
  · exact k.setPower _ _ (caused _ _ _)
  · exact k.setPower _ _ (caused _ _ _)

theorem judgeShapeSet (a : ShapeArgs) : KeptBy P (judgeShapeSet a) := by
  intro s h
  unfold Machine.judgeShapeSet
  split
  · exact h
  · dsimp only
    split
    · exact h
    · exact k.lanes _ _ h

theorem judgeLimitsSet (a : LimitsArgs) : KeptBy P (judgeLimitsSet a) := by
  intro s h
  unfold Machine.judgeLimitsSet
  split
  · exact h
  · split
    · exact h
    · dsimp only
      split
      · exact h
      · exact k.lanes _ _ h

theorem judgeRigWrite (a : RigArgs) : KeptBy P (judgeRigWrite a) := by
  intro s h
  unfold Machine.judgeRigWrite
  dsimp only
  split
  · exact h
  split
  · exact h
  split
  · exact h
  split
  · exact h
  · exact k.queueReserved _ _ (k.rig _ _ (k.rig _ _ (k.lanes _ _ h)))

theorem judgeRigFreeze (u : Unit) : KeptBy P (judgeRigFreeze u) := by
  intro s h
  unfold Machine.judgeRigFreeze
  split
  · exact h
  split
  · exact h
  split
  · exact h
  · exact k.queueReserved _ _ (k.rig _ _ (k.rig _ _ h))

theorem toKeepsMachine : KeepsMachine P where
  toKeepsWork := k.toKeepsWork
  pump := k.pump
  reservedDone := k.reservedDone
  lens := k.lens
  play := k.play
  leave := k.toKeepsGrants.leave
  contexts _ := k.grants _ _
  monitor x s _ _ _ _ := k.safety x s
  causes cs _ := k.toKeepsStops.causeEvents cs
  cancel _ _ _ := k.toKeepsStops.cancelRelease _
  openWindow rx _ _ := k.toKeepsStops.openWindow rx
  enterRun party s _ := enterRun_keeps k.toKeepsEvents k.lanes k.safety k.drives k.grants party s
  toKeepsDrives := k.toKeepsDrives
  acquire p ls _ _ := k.toKeepsGrants.judgeAcquire p ls
  yield p ls _ := k.toKeepsGrants.judgeYield p ls
  demand p es _ := k.toKeepsGrants.judgeDemand p es
  trim p es _ := k.toKeepsGrants.judgeTrim p es
  cue := k.cue
  park _ := k.park
  unpark _ := k.unpark
  shapeSet := k.judgeShapeSet
  limitsSet := k.judgeLimitsSet
  rigWrite := k.judgeRigWrite
  rigFreeze := k.judgeRigFreeze

theorem judges (query : ∀ t, KeptBy P (judgeQuery t)) (timebaseSet : ∀ a, KeptBy P (judgeTimebaseSet a)) :
    KeepsJudges P := k.toKeepsMachine.judges query timebaseSet

theorem leaveActive (p : Port) (why : DownReason) (dropped : P (dropPort p s)) : P (leaveActive p why s) :=
  leaveActive_keeps why k.raise (removeStation_keeps k.toKeepsGrants p) (fun o _ => k.toKeepsPlay.playIdle o)
    (fun _ => k.toKeepsStops.askerLost p) k.recordEnds k.discardUpload dropped

/-- Every command, where the property survives what the clock does, a power-up and the end of STARTING. -/
theorem commands {room : Port → State → Prop} (links : KeepsLinks P room)
    (judges : ∀ p, KeepsJudges (room p)) (drop : ∀ p s, P s → P (dropPort p s))
    (frameStart : ∀ s, P s → P (frameStart s))
    (overdueFrame : ∀ s, P s → P (overdueFrame s)) (servoTick : ∀ s, P s → P (servoTick s))
    (referencePulse : ∀ time s, P s → P (referencePulse time s)) (missingPulse : ∀ s, P s → P (missingPulse s))
    (powerUp : ∀ lines d s, P s → P (powerUp lines d s)) (endStarting : ∀ s, P s → P (endStarting s)) :
    KeepsCommands P room :=
  k.toKeepsMachine.commands links judges (fun p why _ h => k.leaveActive p why (drop p _ h)) frameStart overdueFrame
    servoTick referencePulse missingPulse powerUp endStarting

end KeepsPlain

/-- The clock and the frames, for a property that survives every change of the clock too. -/
theorem KeepsPlain.clock {P : State → Prop} {room : Port → State → Prop} (k : KeepsPlain P) (links : KeepsLinks P room)
    (tb : ∀ b s, P s → P (s.setTb b)) : KeepsClock P where
  toKeepsFrame := k.frame fun holders _ => links.formTelemetry holders
  tb := tb

theorem judgeTimebaseSet_keeps {P : State → Prop} (tb : ∀ b s, P s → P (s.setTb b)) (a : TimebaseArgs) :
    KeptBy P (judgeTimebaseSet a) := by
  intro s h
  unfold Machine.judgeTimebaseSet
  split
  · exact h
  · exact tb _ _ h

/-- Every command, where the property survives every change of the clock. -/
theorem KeepsPlain.allCommands {P : State → Prop} {room : Port → State → Prop} (k : KeepsPlain P)
    (links : KeepsLinks P room) (judges : ∀ p, KeepsJudges (room p)) (drop : ∀ p s, P s → P (dropPort p s))
    (tb : ∀ b s, P s → P (s.setTb b)) (powerUp : ∀ lines d s, P s → P (powerUp lines d s))
    (endStarting : ∀ s, P s → P (endStarting s)) : KeepsCommands P room :=
  have c := k.clock links tb
  k.commands links judges drop (fun _ => c.frameStart) (fun _ => c.overdueFrame)
    (fun _ => c.servoTick) (fun time _ => c.referencePulse time) (fun _ => c.missingPulse) powerUp endStarting

/-! ### The queue of waiting commands -/

theorem keepsUnits_pending (x : List Instr) : KeepsUnits (fun s => s.pending = x) where
  raise _ _ _ h := h
  mem _ _ _ h := h
  recorder _ _ _ h := h
  pump _ h := h
  lanes _ _ h := h
  grants _ _ h := h
  nextArrival _ _ h := h
  lens _ _ h := h
  anyMem _ _ h := h
  play _ _ h := h
  safety _ _ h := h
  drives _ _ h := h
  rig _ _ h := h

theorem keepsLinks_pending (x : List Instr) : KeepsLinks (fun s => s.pending = x) where
  raise _ _ _ h := h
  same _ _ _ _ h := h
  move _ _ _ _ _ h := h
  enter _ _ _ h := h
  leave _ _ h := h
  answer p r s h := (pushReply_frame p r s).pending.trans h
  leaving _ _ _ h := (pushReply_frame _ _ _).pending.trans h

/-- The commands waiting outside the part stay through a power loss. -/
theorem powerUp_pending (lines : LineStates) (d : Damage) (s : State) : (powerUp lines d s).pending = s.pending := by
  rw [powerUp]

theorem endStarting_pending (s : State) : (endStarting s).pending = s.pending := by
  rw [endStarting, apply_ite State.pending, State.setStarting_pending, State.setMem_pending, ite_self]

theorem keepsCommands_pending (x : List Instr) : KeepsCommands (fun s => s.pending = x) :=
  (keepsUnits_pending x).plain.allCommands (keepsLinks_pending x)
    (fun _ => (keepsUnits_pending x).plain.judges (keepsLinks_pending x).judgeQuery (judgeTimebaseSet_keeps fun _ _ h => h)) (fun _ _ h => h) (fun _ _ h => h)
    (fun lines d s h => (powerUp_pending lines d s).trans h) fun s h => (endStarting_pending s).trans h

/-- Settles O2: no operation of the machine writes the queue. -/
theorem execLeavesTheQueue : Obligations.ExecLeavesTheQueue := by
  unfold Obligations.ExecLeavesTheQueue
  intro c s t h
  exact (keepsCommands_pending s.pending).exec h rfl

end Sys2Proof.Machine
end

section
/-! PROOFS. The ranges of the Timebase (O12, R26, R27, R35): what opens a frame, what a pulse leaves, and the settings
that wait. -/

namespace Sys2Proof.Machine

open Sys2Proof

/-- The ranges R35 gives the settings that wait. -/
def SettingsWf (a : TimebaseArgs) : Prop :=
  (∀ n, a.n = some n → 8 ≤ n ∧ n ≤ 64) ∧ (∀ p, a.period = some p → 8000 ≤ p ∧ p ≤ 50000)

/-- The ranges of R26 that a frame start needs: those of the Timebase but for the tick index and the last chance, which it
sets. -/
structure FrameReady (b : Timebase) : Prop where
  n_ge : 8 ≤ b.n
  n_le : b.n ≤ 64
  period_ge : 8000 ≤ b.internalPeriod
  period_le : b.internalPeriod ≤ 50000
  run : b.runCount < 4
  flywheel : b.flywheelCount ≤ 9
  lock : b.lock = .none ↔ b.mode = .internal
  locked : b.lock = .locked → b.lastPulse.isSome = true
  counting : b.lock = .flywheel → b.flywheelCount ≤ 8
  settings : ∀ a, b.pendingSettings = some a → SettingsWf a

/-- The ranges of R26 and R27, of the Timebase alone. -/
structure ClockWf (b : Timebase) : Prop extends FrameReady b where
  tick : b.t < b.n
  chance : b.lastChance = true → b.lock = .search

theorem timebaseWf_iff (s : State) : TimebaseWf s ↔ ClockWf s.tb := by
  unfold TimebaseWf
  constructor
  · rintro ⟨h1, h2, h3, h4, h5, h6, h7, h8, h9, h10, h11, h12⟩
    exact ⟨⟨h1, h2, h4, h5, h6, h7, h8, h9, h10, h12⟩, h3, h11⟩
  · rintro ⟨⟨h1, h2, h4, h5, h6, h7, h8, h9, h10, h12⟩, h3, h11⟩
    exact ⟨h1, h2, h3, h4, h5, h6, h7, h8, h9, h10, h11, h12⟩

/-! ### A frame start -/

theorem FrameReady.applySettings {b : Timebase} (h : FrameReady b) : FrameReady (applySettings b) := by
  unfold Machine.applySettings
  split
  · exact h
  · next a ha =>
    obtain ⟨hn, hp⟩ := h.settings a ha
    have n_range : 8 ≤ a.n.getD b.n ∧ a.n.getD b.n ≤ 64 := by
      cases hx : a.n with
      | none => exact ⟨h.n_ge, h.n_le⟩
      | some n => exact hn n hx
    have period_range : 8000 ≤ a.period.getD b.internalPeriod ∧ a.period.getD b.internalPeriod ≤ 50000 := by
      cases hx : a.period with
      | none => exact ⟨h.period_ge, h.period_le⟩
      | some p => exact hp p hx
    have lock := h.lock
    have run := h.run
    have flywheel := h.flywheel
    dsimp only
    split <;> rename_i hm hm'
    · exact ⟨n_range.1, n_range.2, period_range.1, period_range.2, run, flywheel, by simp_all, h.locked, h.counting, by simp⟩
    · exact ⟨n_range.1, n_range.2, period_range.1, period_range.2, by simp, flywheel, by simp [hm'], by simp, by simp, by simp⟩
    · exact ⟨n_range.1, n_range.2, period_range.1, period_range.2, by simp, by simp, by simp [hm'], by simp, by simp, by simp⟩
    · exact ⟨n_range.1, n_range.2, period_range.1, period_range.2, run, flywheel, by simp_all, h.locked, h.counting, by simp⟩

theorem FrameReady.flywheelFrame {b : Timebase} (h : FrameReady b) :
    FrameReady (flywheelFrame b) ∧ ((flywheelFrame b).lastChance = true → (flywheelFrame b).lock = .search) := by
  unfold Machine.flywheelFrame
  split
  · next hg =>
    have hl : b.lock = .flywheel := by
      simp only [Timebase.gaveUp, Bool.and_eq_true, decide_eq_true_eq] at hg
      exact hg.1
    have hm : b.mode ≠ .internal := fun hm => by simp [h.lock.mpr hm] at hl
    exact ⟨⟨h.n_ge, h.n_le, h.period_ge, h.period_le, by simp, by simp, by simp [hm], by simp, by simp, h.settings⟩,
      fun _ => rfl⟩
  · next hg =>
    have count : b.lock = .flywheel → b.flywheelCount + 1 ≤ 8 := fun hl => by
      have hne : b.flywheelCount ≠ 8 := fun hc => hg (by simp [Timebase.gaveUp, hl, hc])
      have := h.counting hl
      omega
    refine ⟨⟨h.n_ge, h.n_le, h.period_ge, h.period_le, h.run, ?_, h.lock, h.locked, ?_, h.settings⟩, by simp⟩
    · dsimp only
      split
      · next hl => exact Nat.le_succ_of_le (count hl)
      · exact h.flywheel
    · intro hl
      dsimp only at hl ⊢
      rw [if_pos hl]
      exact count hl

/-- R27, R33 to R35: a frame start leaves the ranges whatever the tick index and the last chance were. -/
theorem FrameReady.openFrame {b : Timebase} (h : FrameReady b) (time : Nat) :
    ClockWf (Machine.openFrame time (Machine.flywheelFrame (Machine.applySettings b))) := by
  obtain ⟨hr, hc⟩ := h.applySettings.flywheelFrame
  exact ⟨⟨hr.n_ge, hr.n_le, hr.period_ge, hr.period_le, hr.run, hr.flywheel, hr.lock, hr.locked, hr.counting, hr.settings⟩,
    Nat.lt_of_lt_of_le (Nat.zero_lt_succ 7) hr.n_ge, hc⟩

/-- The units and the ports have no part in the clock's ranges. -/
theorem keepsUnits_tb (Q : Timebase → Prop) : KeepsUnits (fun s => Q s.tb) where
  raise _ _ _ h := h
  mem _ _ _ h := h
  recorder _ _ _ h := h
  pump _ h := h
  lanes _ _ h := h
  grants _ _ h := h
  nextArrival _ _ h := h
  lens _ _ h := h
  anyMem _ _ h := h
  play _ _ h := h
  safety _ _ h := h
  drives _ _ h := h
  rig _ _ h := h

theorem keepsLinks_tb (Q : Timebase → Prop) : KeepsLinks (fun s => Q s.tb) where
  raise _ _ _ h := h
  same _ _ _ _ h := h
  move _ _ _ _ _ h := h
  enter _ _ _ h := h
  leave _ _ h := h
  answer p r s h := by
    rw [(pushReply_frame p r s).tb]
    exact h
  leaving rx u s h := by
    rw [judgeLeave, (pushReply_frame _ _ _).tb]
    exact h

theorem beginFrame_clockWf {s : State} (time : Nat) (h : FrameReady s.tb) : ClockWf (beginFrame time s).tb :=
  ((keepsUnits_tb ClockWf).plain.frame fun _ _ h => h).beginFrame time (h.openFrame time)

theorem tickWork_clockWf {s : State} (h : ClockWf s.tb) : ClockWf (tickWork s).tb :=
  ((keepsUnits_tb ClockWf).plain.tick fun _ _ h => h).tickWork h

/-! ### The Timebase's own events -/

theorem frameStart_clockWf {s : State} (h : ClockWf s.tb) : ClockWf (frameStart s).tb := by
  unfold frameStart
  split
  · exact beginFrame_clockWf _ h.toFrameReady
  · exact h

theorem overdueFrame_clockWf {s : State} (h : ClockWf s.tb) : ClockWf (overdueFrame s).tb := by
  unfold overdueFrame
  split
  · split
    · exact beginFrame_clockWf _ h.toFrameReady
    · exact h
  · exact h

/-- R27: the next tick of a frame is below N. -/
theorem ClockWf.nextTick {b c : Timebase} (h : ClockWf b) (hc : b.nextTick = some c) : ClockWf c := by
  unfold Timebase.nextTick at hc
  split at hc
  · cases hc
  · next hd =>
    cases hc
    have ht : b.t + 1 < b.n := by
      simp only [Timebase.frameDone, Bool.or_eq_true, decide_eq_true_eq] at hd
      omega
    exact ⟨⟨h.n_ge, h.n_le, h.period_ge, h.period_le, h.run, h.flywheel, h.lock, h.locked, h.counting, h.settings⟩, ht,
      h.chance⟩

theorem servoTick_clockWf {s : State} (h : ClockWf s.tb) : ClockWf (servoTick s).tb := by
  unfold servoTick
  split
  · exact h
  · next b hb => exact tickWork_clockWf (h.nextTick hb)

theorem ClockWf.toFlywheel {b : Timebase} (h : ClockWf b) : ClockWf (toFlywheel b) := by
  unfold Machine.toFlywheel
  split
  · next hl =>
    have hm : b.mode ≠ .internal := fun hm => by simp [h.lock.mpr hm] at hl
    have hc : b.lastChance = false := by
      cases hc : b.lastChance with
      | false => rfl
      | true => rw [h.chance hc] at hl; cases hl
    exact ⟨⟨h.n_ge, h.n_le, h.period_ge, h.period_le, h.run, by simp, by simp [hm], by simp, by simp, h.settings⟩, h.tick,
      by simp [hc]⟩
  · exact h

theorem missingPulse_clockWf {s : State} (h : ClockWf s.tb) : ClockWf (missingPulse s).tb := by
  unfold missingPulse
  split
  · exact h.toFlywheel
  · exact h

/-! ### Pulses -/

/-- R30, R33: what locks leaves the ranges a frame start needs. -/
theorem FrameReady.locks {b : Timebase} (h : FrameReady b) (hm : b.mode = .referenced) (w run : Nat) (time : Nat)
    (j : Option Nat) (hr : run < 4) :
    FrameReady { b with lock := .locked, workingPeriod := w, runCount := run, flywheelCount := 0, lastPulse := some time,
                        prevInterval := j } :=
  ⟨h.n_ge, h.n_le, h.period_ge, h.period_le, hr, by simp, by simp [hm], by simp, by simp, h.settings⟩

theorem ClockWf.takePulse {b : Timebase} (h : ClockWf b) (hm : b.mode = .referenced) (time : Nat) :
    ClockWf (takePulse time b) :=
  ⟨⟨h.n_ge, h.n_le, h.period_ge, h.period_le, h.run, by simp [Machine.takePulse], by simp [Machine.takePulse, hm],
    by simp [Machine.takePulse], by simp [Machine.takePulse], h.settings⟩, h.tick, by simp [Machine.takePulse]⟩

theorem runAfter_le (b : Timebase) (i : Nat) : runAfter b i ≤ b.runCount + 1 := by
  unfold runAfter
  repeat' split
  all_goals omega

/-- R29: a pulse in SEARCH that does not lock leaves a run count below 4. -/
theorem ClockWf.searched {b : Timebase} (h : ClockWf b) (hl : b.lock = .search) (time run : Nat) (j : Option Nat)
    (hr : run < 4) : ClockWf { b with lastPulse := some time, runCount := run, prevInterval := j } :=
  ⟨⟨h.n_ge, h.n_le, h.period_ge, h.period_le, hr, h.flywheel, h.lock, by simp, h.counting, h.settings⟩, h.tick,
    fun _ => hl⟩

theorem searchPulse_clockWf {s : State} (h : ClockWf s.tb) (hm : s.tb.mode = .referenced) (hl : s.tb.lock = .search)
    (time : Nat) : ClockWf (searchPulse time s).tb := by
  unfold searchPulse
  dsimp only
  split
  · exact h.takePulse hm time
  · split
    · exact h.searched hl time 0 _ (by omega)
    · next p _ =>
      split
      · exact beginFrame_clockWf _ (h.toFrameReady.locks hm _ 0 time _ (by omega))
      · next hr =>
        have := runAfter_le s.tb (time - p)
        have := h.run
        exact h.searched hl time _ _ (by omega)

theorem lockedPulse_clockWf {s : State} (h : ClockWf s.tb) (time : Nat) : ClockWf (lockedPulse time s).tb := by
  unfold lockedPulse
  dsimp only
  split
  · exact h.toFlywheel
  · split
    · exact beginFrame_clockWf _ ⟨h.n_ge, h.n_le, h.period_ge, h.period_le, h.run, h.flywheel, h.lock, by simp, h.counting,
        h.settings⟩
    · exact h.toFlywheel

theorem flywheelPulse_clockWf {s : State} (h : ClockWf s.tb) (hm : s.tb.mode = .referenced) (time : Nat) :
    ClockWf (flywheelPulse time s).tb := by
  unfold flywheelPulse
  dsimp only
  split
  · exact beginFrame_clockWf _ (h.toFrameReady.locks hm _ _ time _ h.run)
  · split
    · exact h.takePulse hm time
    · exact h

theorem referencePulse_clockWf {s : State} (h : ClockWf s.tb) (time : Nat) : ClockWf (referencePulse time s).tb := by
  unfold referencePulse
  split
  · next hm hl => exact searchPulse_clockWf h hm hl time
  · exact lockedPulse_clockWf h time
  · next hm _ => exact flywheelPulse_clockWf h hm time
  · exact h

/-! ### Settings -/

theorem settingsWf_clampSettings (a : TimebaseArgs) : SettingsWf (clampSettings a).1 := by
  constructor
  · intro n hn
    obtain ⟨x, -, rfl⟩ := Option.map_eq_some_iff.mp hn
    exact clampNat_range (by omega)
  · intro p hp
    obtain ⟨x, -, rfl⟩ := Option.map_eq_some_iff.mp hp
    exact clampNat_range (by omega)

/-- R35: a later value replaces an earlier one, and a field not carried keeps the earlier one. -/
theorem settingsWf_mergeSettings {old : Option TimebaseArgs} {new : TimebaseArgs} (ho : ∀ a, old = some a → SettingsWf a)
    (hn : SettingsWf new) : SettingsWf (mergeSettings old new) := by
  unfold mergeSettings
  split
  · exact hn
  · next o =>
    obtain ⟨on, op⟩ := ho o rfl
    constructor
    · intro n h
      cases hx : new.n with
      | none => exact on n (by simpa [hx] using h)
      | some m => exact hn.1 n (by simpa [hx] using h)
    · intro p h
      cases hx : new.period with
      | none => exact op p (by simpa [hx] using h)
      | some m => exact hn.2 p (by simpa [hx] using h)

theorem judgeTimebaseSet_clockWf (a : TimebaseArgs) : KeptBy (fun s => ClockWf s.tb) (judgeTimebaseSet a) := by
  intro s h
  unfold judgeTimebaseSet
  split
  · exact h
  · refine ⟨⟨h.n_ge, h.n_le, h.period_ge, h.period_le, h.run, h.flywheel, h.lock, h.locked, h.counting, ?_⟩, h.tick,
      h.chance⟩
    rintro a ⟨⟩
    exact settingsWf_mergeSettings h.settings (settingsWf_clampSettings _)

theorem clockWf_reset : ClockWf Timebase.reset := by
  constructor <;> simp [Timebase.reset]
  constructor <;> simp

theorem endStarting_tb (s : State) : (endStarting s).tb = s.tb := by
  rw [endStarting, apply_ite State.tb, State.setStarting_tb, State.setMem_tb, ite_self]

theorem keepsCommands_clockWf : KeepsCommands (fun s => ClockWf s.tb) :=
  (keepsUnits_tb ClockWf).plain.commands (keepsLinks_tb ClockWf)
    (fun _ => (keepsUnits_tb ClockWf).plain.judges (keepsLinks_tb ClockWf).judgeQuery judgeTimebaseSet_clockWf) (fun _ _ h => h) (fun _ => frameStart_clockWf) (fun _ => overdueFrame_clockWf)
    (fun _ => servoTick_clockWf) (fun time _ h => referencePulse_clockWf h time) (fun _ => missingPulse_clockWf)
    (fun lines d s _ => by rw [powerUp]; exact clockWf_reset) fun s h => by rw [endStarting_tb]; exact h

/-- Settles O12: the clock's ranges are kept by what opens a frame and by what a pulse leaves; nothing else writes the
clock. -/
theorem everyStepKeepsTheTimebaseRanges : Obligations.EveryStepKeepsTheTimebaseRanges := by
  unfold Obligations.EveryStepKeepsTheTimebaseRanges
  intro s t h ht
  rw [timebaseWf_iff] at h ⊢
  exact keepsCommands_clockWf.step ht (fun _ h => h) h

end Sys2Proof.Machine
end

section
/-! PROOFS. The roles of the ports (O10, R38, R170, R173): what a move of a link does to the roles and levels of the four
ports, and that every port is DOWN in STARTING. -/

namespace Sys2Proof.Machine

open Sys2Proof

/-! ### Properties of the links alone -/

/-- The units have no part in a property of the links. -/
theorem keepsUnits_links (Q : Bool → Vector StationPort 4 → Prop) (hQ : ∀ b v w, SameLinks v w → Q b v → Q b w) :
    KeepsUnits (fun s => Q s.starting s.ports) where
  raise aud body s h := hQ _ _ _ (fun p => ⟨(raiseFor_frame aud body s).link p, (raiseFor_frame aud body s).role p,
    (raiseFor_frame aud body s).level p⟩) h
  mem _ _ _ h := h
  recorder _ _ _ h := h
  pump s h := hQ _ _ _ (fun p => ⟨(pump_frame s).link p, (pump_frame s).role p, (pump_frame s).level p⟩) h
  lanes _ _ h := h
  grants _ _ h := h
  nextArrival _ _ h := h
  lens _ _ h := h
  anyMem _ _ h := h
  play _ _ h := h
  safety _ _ h := h
  drives _ _ h := h
  rig _ _ h := h

theorem endStarting_ports (s : State) : (endStarting s).ports = s.ports := by
  rw [endStarting, apply_ite State.ports, State.setStarting_ports, State.setMem_ports, ite_self]

theorem powerUp_ports (lines : LineStates) (d : Damage) (s : State) :
    (powerUp lines d s).ports = Vector.replicate 4 StationPort.reset := by
  rw [powerUp]

theorem powerUp_port (lines : LineStates) (d : Damage) (s : State) (p : Port) :
    (powerUp lines d s).ports[p] = StationPort.reset := by
  rw [powerUp_ports, Fin.getElem_fin, Vector.getElem_replicate]

/-- The ports once one of them has lost its link (R177, step 1). -/
theorem dropPort_ports (p : Port) (s : State) : (dropPort p s).ports = updAt s.ports p fun q => latchLinkLost
    { q with link := .down, role := none, level := none, events := [], replies := [], telemetry := none,
             sending := none, leaving := false, deadline := none } := rfl

theorem sameLinks_of_frame {s t : State} (h : SameButQueues s t) : SameLinks s.ports t.ports :=
  fun p => ⟨h.link p, h.role p, h.level p⟩

theorem judgeLeave_sameLinks (rx : Rx) (u : Unit) (s : State) : SameLinks s.ports (judgeLeave rx u s).1.ports := by
  have left : SameLinks s.ports (s.setPort rx.port fun q => { q with leaving := true }).ports :=
    sameLinks_updAt ⟨rfl, rfl, rfl⟩
  have sent := sameLinks_of_frame
    (pushReply_frame rx.port (Answer.done.reply rx.tag .leave) (s.setPort rx.port fun q => { q with leaving := true }))
  intro p
  obtain ⟨hl, hr, hv⟩ := left p
  obtain ⟨hl', hr', hv'⟩ := sent p
  exact ⟨hl'.trans hl, hr'.trans hr, hv'.trans hv⟩

theorem judgeLeave_starting (rx : Rx) (u : Unit) (s : State) : (judgeLeave rx u s).1.starting = s.starting :=
  (pushReply_frame _ _ _).starting

/-! ### One MOTION station -/

/-- The port holds the MOTION role, by its own record (R170). -/
def StationPort.inMotion (q : StationPort) : Bool := (q.link = .acknowledge || q.link = .active) && q.role = some .motion

/-- A port's role agrees with its link, and its level with its role (R170, R174, R177). -/
structure PortWf (q : StationPort) : Prop where
  active : q.link = .active → ∃ r, q.role = some r ∧ q.level = roleLevel r
  idle : q.link = .down ∨ q.link = .offer ∨ q.link = .failed → q.role = none

/-- Each port is well-formed, and at most one holds MOTION. -/
structure LinksWf (v : Vector StationPort 4) : Prop where
  port : ∀ p : Port, PortWf v[p]
  motion : ∀ p q : Port, v[p].inMotion = true → v[q].inMotion = true → p = q

theorem linksWf_iff (s : State) : LinksWf s.ports ↔ PortsWf s ∧ OneMotion s :=
  ⟨fun h => ⟨fun p => ⟨(h.port p).active, (h.port p).idle⟩, h.motion⟩, fun h => ⟨fun p => ⟨(h.1 p).1, (h.1 p).2⟩, h.2⟩⟩

theorem LinksWf.congr {v w : Vector StationPort 4} (hs : SameLinks v w) (h : LinksWf v) : LinksWf w := by
  have same : ∀ p : Port, w[p].inMotion = v[p].inMotion := fun p => by
    obtain ⟨hl, hr, -⟩ := hs p
    rw [StationPort.inMotion, StationPort.inMotion, hl, hr]
  refine ⟨fun p => ?_, fun p q hp hq => h.motion p q (same p ▸ hp) (same q ▸ hq)⟩
  obtain ⟨hl, hr, hv⟩ := hs p
  exact ⟨by rw [hl, hr, hv]; exact (h.port p).active, by rw [hl, hr]; exact (h.port p).idle⟩

/-- One port's record is replaced by a well-formed one that holds MOTION only where no other port does. -/
theorem LinksWf.updAt {v : Vector StationPort 4} {p : Port} {f : StationPort → StationPort} (h : LinksWf v)
    (hp : PortWf (f v[p])) (hm : (f v[p]).inMotion = true → ∀ q : Port, v[q].inMotion = true → q = p) :
    LinksWf (updAt v p f) := by
  constructor
  · intro q
    rw [updAt_get]
    split
    · next e => subst e; exact hp
    · exact h.port q
  · intro a b ha hb
    rw [updAt_get] at ha hb
    split at ha <;> split at hb
    · next ea eb => exact ea.symm.trans eb
    · next ea _ => subst ea; exact (hm ha b hb).symm
    · next _ eb => subst eb; exact hm hb a ha
    · exact h.motion a b ha hb

theorem motionFree_iff (s : State) : s.motionFree = true ↔ ∀ p : Port, s.ports[p].inMotion = false := by
  unfold State.motionFree
  rw [List.all_eq_true]
  refine ⟨fun h p => ?_, fun h p _ => ?_⟩
  · exact (Bool.not_eq_true' _).mp (h p (List.mem_finRange p))
  · exact (Bool.not_eq_true' _).mpr (h p)

/-- What a link becomes is well-formed. -/
theorem PortWf.move {s : State} {p : Port} {q : StationPort} (h : PortWf s.ports[p]) (hm : LinkMove s p q) : PortWf q := by
  obtain ⟨-, ⟨hl, hr⟩ | ⟨hl, hf, hr⟩ | ⟨hl, -⟩ | ⟨hl, r, hr, hv, -⟩⟩ := hm
  · exact ⟨fun ha => (by rcases hl with hl | hl <;> rw [hl] at ha <;> cases ha), fun _ => hr⟩
  · exact ⟨fun ha => (by rw [hl] at ha; cases ha), fun _ => hr.trans (h.idle (.inr (.inr hf)))⟩
  · exact ⟨fun ha => (by rw [hl] at ha; cases ha), fun hi => (by rw [hl] at hi; exact absurd hi (by decide))⟩
  · exact ⟨fun _ => ⟨r, hr, hv⟩, fun hi => (by rw [hl] at hi; exact absurd hi (by decide))⟩

/-- What a link becomes takes MOTION only where that is free or its own. -/
theorem LinksWf.move {s : State} {p : Port} {f : StationPort → StationPort} (h : LinksWf s.ports)
    (hm : LinkMove s p (f s.ports[p])) : LinksWf (Machine.updAt s.ports p f) := by
  refine h.updAt ((h.port p).move hm) fun hx q hq => ?_
  have role : (f s.ports[p]).role = some .motion := by
    simp only [StationPort.inMotion, Bool.and_eq_true, decide_eq_true_eq] at hx
    exact hx.2
  obtain ⟨-, ⟨-, hr⟩ | ⟨-, hf, hr⟩ | ⟨-, r, hr, hfree⟩ | ⟨-, r, hr, -, hown⟩⟩ := hm
  · rw [hr] at role; cases role
  · rw [hr, (h.port p).idle (.inr (.inr hf))] at role; cases role
  · obtain rfl : r = .motion := Option.some.inj (hr.symm.trans role)
    have := (motionFree_iff s).mp (hfree rfl) q
    rw [hq] at this
    cases this
  · obtain rfl : r = .motion := Option.some.inj (hr.symm.trans role)
    exact h.motion q p hq (hown rfl)

theorem linksWf_dropPort {s : State} (p : Port) (h : LinksWf s.ports) : LinksWf (dropPort p s).ports := by
  rw [dropPort_ports]
  exact h.updAt ⟨fun ha => (by cases ha), fun _ => rfl⟩ fun hx => by
    simp [StationPort.inMotion, latchLinkLost] at hx

theorem keepsLinks_linksWf : KeepsLinks (fun s => LinksWf s.ports) where
  raise := (keepsUnits_links (fun _ => LinksWf) fun _ _ _ => LinksWf.congr).raise
  same _ _ hs _ h := h.congr hs
  move _ _ _ hm _ h := h.move hm
  enter _ _ _ h := h
  leave _ _ h := h
  answer p r s h := h.congr (sameLinks_of_frame (pushReply_frame p r s))
  leaving rx u s h := h.congr (judgeLeave_sameLinks rx u s)

theorem linksWf_reset : LinksWf (Vector.replicate 4 StationPort.reset) := by
  have port : ∀ p : Port, (Vector.replicate 4 StationPort.reset)[p] = StationPort.reset := fun p => by
    rw [Fin.getElem_fin, Vector.getElem_replicate]
  refine ⟨fun p => ?_, fun p q hp => ?_⟩
  · rw [port]
    exact ⟨fun ha => (by cases ha), fun _ => rfl⟩
  · rw [port] at hp
    cases hp

theorem keepsCommands_linksWf : KeepsCommands (fun s => LinksWf s.ports) :=
  have k := (keepsUnits_links (fun _ => LinksWf) fun _ _ _ => LinksWf.congr).plain
  k.allCommands keepsLinks_linksWf
    (fun _ => k.judges keepsLinks_linksWf.judgeQuery (judgeTimebaseSet_keeps fun _ _ h => h)) (fun p _ => linksWf_dropPort p) (fun _ _ h => h)
    (fun lines d s _ => by rw [powerUp_ports]; exact linksWf_reset) fun s h => by rw [endStarting_ports]; exact h

/-! ### The links stay DOWN in STARTING -/

/-- The links are DOWN while the part is STARTING (R170). -/
def DownInStarting (starting : Bool) (v : Vector StationPort 4) : Prop := starting = true → ∀ p : Port, v[p].link = .down

theorem DownInStarting.congr {b : Bool} {v w : Vector StationPort 4} (hs : SameLinks v w) (h : DownInStarting b v) :
    DownInStarting b w := fun hb p => (hs p).1.trans (h hb p)

theorem keepsLinks_down : KeepsLinks (fun s => DownInStarting s.starting s.ports) where
  raise := (keepsUnits_links DownInStarting fun _ _ _ => DownInStarting.congr).raise
  same _ _ hs _ h := h.congr hs
  move p _ s hm _ h hb := by
    have hs := hm.1.2 (h hb p)
    rw [State.setPort, State.setPorts_starting, hs] at hb
    cases hb
  enter _ _ _ h := h
  leave _ _ h := h
  answer p r s h := by
    rw [(pushReply_frame p r s).starting]
    exact h.congr (sameLinks_of_frame (pushReply_frame p r s))
  leaving rx u s h := by
    rw [judgeLeave_starting]
    exact h.congr (judgeLeave_sameLinks rx u s)

theorem down_dropPort {s : State} (p : Port) (h : DownInStarting s.starting s.ports) :
    DownInStarting (dropPort p s).starting (dropPort p s).ports := by
  intro hb q
  rw [dropPort_ports, updAt_get]
  split
  · rfl
  · exact h hb q

theorem keepsCommands_down : KeepsCommands (fun s => DownInStarting s.starting s.ports) :=
  have k := (keepsUnits_links DownInStarting fun _ _ _ => DownInStarting.congr).plain
  k.allCommands keepsLinks_down
    (fun _ => k.judges keepsLinks_down.judgeQuery (judgeTimebaseSet_keeps fun _ _ h => h)) (fun p _ => down_dropPort p) (fun _ _ h => h)
    (fun lines d s _ _ p => by rw [powerUp_port]; rfl) fun s h hb p => by
      rw [endStarting_ports]
      refine h ?_ p
      unfold endStarting at hb
      split at hb
      · cases hb
      · exact hb

/-- Settles O10: a link's moves keep the roles and levels, and none starts in STARTING. -/
theorem everyStepKeepsOneMotionStation : Obligations.EveryStepKeepsOneMotionStation := by
  unfold Obligations.EveryStepKeepsOneMotionStation
  intro s t ht
  refine ⟨fun hw hm => ?_, fun hs => ?_⟩
  · rw [← linksWf_iff]
    exact keepsCommands_linksWf.step ht (fun _ h => h) ((linksWf_iff s).mpr ⟨hw, hm⟩)
  · exact keepsCommands_down.step ht (fun _ h => h) hs

end Sys2Proof.Machine
end

section
/-! PROOFS. What every request meets before its judgement (O15 to O18), an event's placing (O20), and a step (O1). -/

namespace Sys2Proof.Machine

open Sys2Proof

/-- Settles O1: a step is the front command's meaning. -/
theorem stepRunsTheFrontCommand : Obligations.StepRunsTheFrontCommand := by
  unfold Obligations.StepRunsTheFrontCommand
  refine ⟨fun c rest s h => ?_, fun s h => ?_⟩ <;> rw [step, h]

/-! ### The common form of the requests -/

/-- The command is a request that arrives with the frame: its body is taken by the port, and its judgement refuses every role
it is not taken from (section 10.5). -/
def RequestForm (c : Instr) (rx : Rx) : Prop :=
  ∃ (α : Type) (body : Body α) (judge : α → Judge),
    (∀ s, exec c s = .next (settle (takeRequest rx body judge s))) ∧ (bodyDecodes c ↔ Decodes body) ∧
      ∀ a s r, s.ports[rx.port].role = some r → r ∉ takenFrom c → judge a s = refuse .noRight s

theorem every_role (r : Role) : r ∈ [Role.motion, .arm, .lens, .assist, .observer] := by
  cases r <;> decide

/-- A request taken from every role refuses none. -/
theorem refuses_none {r : Role} {P : Prop} (h : r ∉ [Role.motion, .arm, .lens, .assist, .observer]) : P :=
  absurd (every_role r) h

/-- Every command with a frame is taken in the same way. -/
theorem requestForm {c : Instr} {rx : Rx} (h : requestFrame c = some rx) : RequestForm c rx := by
  unfold RequestForm
  cases c
  case unknownRequest => cases h; exact ⟨_, .fields (), _, fun _ => rfl, iff_of_true trivial trivial, fun _ _ _ _ hr => refuses_none hr⟩
  case acquire | yield | demand | trim | stop | query | takeFetch | ping | leave =>
    cases h; exact ⟨_, _, _, fun _ => rfl, Iff.rfl, fun _ _ _ _ hr => refuses_none hr⟩
  case releaseAsk =>
    cases h
    refine ⟨_, _, _, fun _ => rfl, Iff.rfl, fun _ _ _ hl hr => forRoles_out hl fun hm => hr ?_⟩
    revert hm
    simp only [takenFrom, List.mem_cons, List.not_mem_nil, or_false]
    tauto
  case releaseAgree =>
    cases h
    refine ⟨_, _, _, fun _ => rfl, Iff.rfl, fun _ _ _ hl hr => forRoles_out hl fun hm => hr ?_⟩
    revert hm
    simp only [takenFrom, List.mem_cons, List.not_mem_nil, or_false]
    tauto
  case park | unpark | profileLoad | profileSelect | shapeSet | limitsSet | timebaseSet | zoneSet | zoneDrop | presenceSet
    | record | mark | recordEnd | cue | roll | segmentDone | uncue | takeProtect | takeErase | takeOpen | stage | stageCommit
    | takeClose | takeDiscard | takeStatusClear | rigWrite | rigFreeze =>
    cases h; exact ⟨_, _, _, fun _ => rfl, Iff.rfl, fun _ _ _ hl hr => forRoles_out hl hr⟩
  all_goals cases h

/-- Settles O15: its judgement refuses the role. -/
theorem requestFromAnotherRoleIsRefused : Obligations.RequestFromAnotherRoleIsRefused := by
  unfold Obligations.RequestFromAnotherRoleIsRefused
  intro c rx r s hf hd ht hr hn
  obtain ⟨α, body, judge, he, hb, hj⟩ := requestForm hf
  cases body with
  | malformed => exact (hb.mp hd).elim
  | fields a =>
    rw [he, takeRequest_answered ht]
    exact hj a _ r ((noteValid_role rx s rx.port).trans hr) hn

/-- Settles O16: nothing is judged. -/
theorem malformedRequestIsRefused : Obligations.MalformedRequestIsRefused := by
  unfold Obligations.MalformedRequestIsRefused
  intro c rx s hf hd ht
  obtain ⟨α, body, judge, he, hb, -⟩ := requestForm hf
  cases body with
  | malformed => rw [he, takeRequest_malformed ht]
  | fields a => exact absurd (hb.mpr trivial) hd

/-! ### A request that is discarded -/

section Discarded

variable {α : Type} {rx : Rx} {s : State} (body : Body α) (judge : α → Judge)

theorem takeRequest_leaving (hl : s.ports[rx.port].link = .active) (hv : s.ports[rx.port].leaving = true) :
    takeRequest rx body judge s = noteValid rx s := by
  simp only [takeRequest, noteValid_link, hl, takeActive, noteValid_leaving, hv, if_true]

theorem takeRequest_full (hl : s.ports[rx.port].link = .active) (hv : s.ports[rx.port].leaving = false)
    (hc : 8 ≤ countedReplies s.ports[rx.port]) :
    takeRequest rx body judge s = (noteValid rx s).setPort rx.port latchRequestsLost := by
  simp only [takeRequest, noteValid_link, hl, takeActive, noteValid_leaving, hv, noteValid_countedReplies, hc, if_true,
    Bool.false_eq_true, if_false]

theorem takeRequest_notTaken (hl : s.ports[rx.port].link = .down ∨ s.ports[rx.port].link = .acknowledge ∨
    s.ports[rx.port].link = .failed) : takeRequest rx body judge s = noteValid rx s := by
  rcases hl with hl | hl | hl <;> simp only [takeRequest, noteValid_link, hl]

theorem takeRequest_inOffer (hl : s.ports[rx.port].link = .offer) :
    takeRequest rx body judge s = otherInOffer rx.port (noteValid rx s) := by
  simp only [takeRequest, noteValid_link, hl]

end Discarded

/-- Settles O17: by the link state and the reply path. -/
theorem requestIsDiscarded : Obligations.RequestIsDiscarded := by
  unfold Obligations.RequestIsDiscarded
  intro c rx s hf
  obtain ⟨α, body, judge, he, -, -⟩ := requestForm hf
  refine ⟨fun hl hv => ?_, fun hl hv hc => ?_, fun hl => ?_⟩ <;> rw [he]
  · rw [takeRequest_leaving body judge hl hv]
  · rw [takeRequest_full body judge hl hv hc]
    rfl
  · rw [takeRequest_notTaken body judge hl]

end Sys2Proof.Machine
end

section
/-! PROOFS. The end of a command (O3, R81, R180): what the scheduler's choice is made of, and what it can touch. -/

namespace Sys2Proof.Machine

open Sys2Proof

/-! ### The scheduler's choice -/

/-- Each operation the scheduler can start leads from P to Q, and the ends with no FREE block keep P (R81). -/
structure Schedules (P Q : State → Prop) : Prop where
  nothing : ∀ s, P s → Q s
  read : ∀ i n d s, d ≠ .dropped → P s → Q (setOp (.read i n d) s)
  sample : ∀ i s t, s.recorder.slot = some i → s.recorder.queue ≠ [] → startSampleProgram i s = some t → P s → Q t
  recordNoRoom : ∀ i s, s.recorder.slot = some i → s.recorder.queue ≠ [] → startSampleProgram i s = none → P s →
    P (recordNoRoom i s)
  reserved : ∀ s, P s → Q (startReserved s)
  chunk : ∀ i k s t, s.chunkBuffer = some k → s.uploadSlot = some i → startChunkPart i k s = some t → P s → Q t
  uploadNoRoom : ∀ i k s, s.chunkBuffer = some k → s.uploadSlot = some i → startChunkPart i k s = none → P s →
    P (uploadNoRoom i k s)
  erase : ∀ s, s.recActive = false → s.playActive = false → P s → Q (startErase s)

namespace Schedules

variable {P Q : State → Prop} (k : Schedules P Q) {s : State}

include k

theorem startPlayRead (h : P s) : Q (startPlayRead s) := by
  unfold Machine.startPlayRead
  split
  · exact k.nothing _ h
  · exact k.read _ _ _ _ (by simp) h

theorem scheduleRounds (n : Nat) (h : P s) : Q (scheduleRounds n s) := by
  induction n generalizing s with
  | zero => exact k.nothing _ h
  | succ n ih =>
    have sampleWork : 1 ≤ s.recorder.queue.length → Q (match s.recorder.slot with
        | none => s
        | some i => match Machine.startSampleProgram i s with
          | some u => u
          | none => Machine.scheduleRounds n (Machine.recordNoRoom i s)) := by
      intro hl
      have hq : s.recorder.queue ≠ [] := List.ne_nil_of_length_pos hl
      split
      · exact k.nothing _ h
      · next i hi =>
        split
        · next hu => exact k.sample i s _ hi hq hu h
        · next hu => exact ih (k.recordNoRoom i s hi hq hu h)
    unfold Machine.scheduleRounds
    dsimp only
    split
    · exact k.startPlayRead h
    split
    · exact sampleWork (by omega)
    split
    · exact k.startPlayRead h
    split
    · exact sampleWork (by assumption)
    split
    · exact k.reserved _ h
    split
    · next hb hi =>
      split
      · next hu => exact k.chunk _ _ _ _ hb hi hu h
      · next hu => exact ih (k.uploadNoRoom _ _ _ hb hi hu h)
    · split
      · exact k.read _ _ _ _ (by simp) h
      · split
        · exact k.nothing _ h
        · next ha =>
          simp only [Bool.or_eq_true, not_or, Bool.not_eq_true] at ha
          exact k.erase _ ha.1 ha.2 h

end Schedules

/-! ### What it can touch -/

/-- What changes of a port: its events, its telemetry and what it sends; it takes no event back, and a transmitter that is
busy or not ACTIVE chooses nothing. Only the MOTION station is told of what happens (R181). -/
structure PortWork (q r : StationPort) : Prop where
  same : r = { q with events := r.events, eventsLost := r.eventsLost, telemetry := r.telemetry, sending := r.sending }
  events : q.events <+: r.events
  lost : q.eventsLost = true → r.eventsLost = true
  busy : q.link ≠ .active ∨ q.sending.isSome = true → r.telemetry = q.telemetry ∧ r.sending = q.sending
  quiet : q.role ≠ some .motion → r.events = q.events ∧ r.eventsLost = q.eventsLost

theorem PortWork.refl (q : StationPort) : PortWork q q :=
  ⟨rfl, List.prefix_refl _, id, fun _ => ⟨rfl, rfl⟩, fun _ => ⟨rfl, rfl⟩⟩

theorem PortWork.trans {q r u : StationPort} (a : PortWork q r) (b : PortWork r u) : PortWork q u where
  same := by rw [b.same, a.same]
  events := a.events.trans b.events
  lost h := b.lost (a.lost h)
  busy h := by
    obtain ⟨ht, hs⟩ := a.busy h
    have hl : r.link = q.link := by rw [a.same]
    obtain ⟨ht', hs'⟩ := b.busy (h.imp (by rw [hl]; exact id) (by rw [hs]; exact id))
    exact ⟨ht'.trans ht, hs'.trans hs⟩
  quiet h := by
    obtain ⟨he, hs⟩ := a.quiet h
    have hr : r.role = q.role := by rw [a.same]
    obtain ⟨he', hs'⟩ := b.quiet (by rwa [hr])
    exact ⟨he'.trans he, hs'.trans hs⟩

theorem portWork_pushEvent (e : Event) {q : StationPort} (hr : q.role = some .motion) : PortWork q (pushEvent e q) := by
  unfold pushEvent
  split
  · exact ⟨rfl, List.prefix_append _ _, id, fun _ => ⟨rfl, rfl⟩, absurd hr⟩
  · exact ⟨rfl, List.prefix_refl _, fun _ => rfl, fun _ => ⟨rfl, rfl⟩, absurd hr⟩

theorem portWork_pumpPort (q : StationPort) : PortWork q (pumpPort q) := by
  unfold pumpPort
  split
  · exact .refl q
  next hl =>
  split
  · exact .refl q
  next hs =>
  have free : ¬ (q.link ≠ .active ∨ q.sending.isSome = true) := by tauto
  split
  · exact ⟨rfl, List.prefix_refl _, id, fun h => absurd h free, fun _ => ⟨rfl, rfl⟩⟩
  · split
    · exact ⟨rfl, List.prefix_refl _, id, fun h => absurd h free, fun _ => ⟨rfl, rfl⟩⟩
    · split
      · exact ⟨rfl, List.prefix_refl _, id, fun h => absurd h free, fun _ => ⟨rfl, rfl⟩⟩
      · exact .refl q

/-- What the end of a command leaves of a state, and which of its changes are allowed (R76, R81, R86, R95, R180). -/
structure EndWork (s t : State) : Prop where
  starting : t.starting = s.starting
  tb : t.tb = s.tb
  lanes : t.lanes = s.lanes
  grants : t.grants = s.grants
  nextArrival : t.nextArrival = s.nextArrival
  play : t.play = s.play
  safety : t.safety = s.safety
  drives : t.drives = s.drives
  powerLosses : t.powerLosses = s.powerLosses
  pending : t.pending = s.pending
  active : t.lens.active = s.lens.active
  profile : ∀ k : ProfileNo, t.lens.slots[k].profile = s.lens.slots[k].profile
  rig : t.rig = { s.rig with store := t.rig.store }
  port : ∀ p : Port, PortWork s.ports[p] t.ports[p]
  recorder : s.recorder.queue = [] → t.recorder = s.recorder
  recSlot : t.recorder.slot = s.recorder.slot ∨ t.recorder.slot = none
  recState : t.recorder.state = s.recorder.state ∨ t.recorder.state = .idle ∨ t.recorder.state = .draining
  uploading : ∀ i : SlotNo, t.mem.slots[i].state = .uploading → s.mem.slots[i].state = .uploading
  upload : s.uploadSlot = none → t.mem.upload = s.mem.upload ∧ t.mem.buffers = s.mem.buffers
  fetches : t.mem.fetches = s.mem.fetches
  flags : t.mem.programFail = s.mem.programFail ∧ t.mem.eraseFail = s.mem.eraseFail ∧
    t.mem.chunkReject = s.mem.chunkReject ∧ t.mem.protectClosed = s.mem.protectClosed
  nextCommit : t.mem.nextCommit = s.mem.nextCommit
  stored : t.mem.stored = { s.mem.stored with blocks := t.mem.stored.blocks }
  data : ∀ b : BlockNo, s.mem.blocks[b].state ≠ .free →
    t.mem.blocks[b].state ≠ .free ∧ t.mem.blocks[b].data = s.mem.blocks[b].data
  slot : ∀ i : SlotNo, s.recorder.slot ≠ some i → s.mem.slots[i].state ≠ .uploading →
    t.mem.slots[i] = { s.mem.slots[i] with released := t.mem.slots[i].released }

theorem uploadSlot_some {s : State} {i : SlotNo} (h : s.uploadSlot = some i) : s.mem.slots[i].state = .uploading := by
  simpa using List.find?_some h

theorem uploadSlot_none {s : State} : s.uploadSlot = none ↔ ∀ i : SlotNo, s.mem.slots[i].state ≠ .uploading := by
  unfold State.uploadSlot
  rw [List.find?_eq_none]
  simp [-Fin.getElem_fin]

theorem uploadSlot_ne_none {s : State} {i : SlotNo} (h : s.mem.slots[i].state = .uploading) : s.uploadSlot ≠ none :=
  fun hn => uploadSlot_none.mp hn i h

theorem EndWork.refl (s : State) : EndWork s s := by
  constructor <;> simp_all [PortWork.refl, -Fin.getElem_fin]

namespace EndWork

variable {s t : State} (h : EndWork s t)

include h

/-- A change of the ports' queues. -/
theorem ports {v : Vector StationPort 4} (hv : ∀ p : Port, PortWork t.ports[p] v[p]) : EndWork s (t.setPorts v) :=
  { h with port := fun p => (h.port p).trans (hv p) }

theorem raiseMotion (body : EventBody) : EndWork s (raiseMotion body t) := by
  refine h.ports fun p => ?_
  rw [mapAll_get]
  split
  · next hm =>
    simp only [State.isMotion, Bool.and_eq_true, decide_eq_true_eq] at hm
    exact portWork_pushEvent _ hm.2.2
  · exact .refl _

theorem pump : EndWork s (pump t) := by
  refine h.ports fun p => ?_
  rw [mapAll_get]
  exact portWork_pumpPort _

theorem setRecorder {x : Recorder} (hq : s.recorder.queue ≠ []) (hx : x.slot = t.recorder.slot ∨ x.slot = none)
    (hs : x.state = t.recorder.state ∨ x.state = .idle ∨ x.state = .draining) : EndWork s (t.setRecorder x) :=
  { h with
    recState := hs.elim (fun e => by rw [State.setRecorder_recorder, e]; exact h.recState) .inr
    recorder := fun hn => absurd hn hq
    recSlot := hx.elim (fun e => by rw [State.setRecorder_recorder, e]; exact h.recSlot) .inr }

/-- A change of the take memory that is none of the slots, the blocks, the buffers and the upload. -/
theorem setOp (op : ArrayOp) : EndWork s (setOp op t) := { h with }

theorem setQueue (q : List Reserved) : EndWork s (t.setMem { t.mem with reservedQueue := q }) := { h with }

theorem queueDir (i : SlotNo) : EndWork s (queueDir i t) := by
  unfold Machine.queueDir queueReserved
  split
  · exact h
  · exact h.setQueue _

theorem storeBlock (b : BlockNo) : EndWork s (storeBlock b t) := { h with stored := by rw [Machine.storeBlock, State.setMem_mem, h.stored] }

/-- A block that was FREE, or whose data stay and which does not become FREE. -/
theorem setBlock {b : BlockNo} {f : Block → Block} (hf : t.mem.blocks[b].state = .free ∨
    ((f t.mem.blocks[b]).state ≠ .free ∧ (f t.mem.blocks[b]).data = t.mem.blocks[b].data)) : EndWork s (t.setBlock b f) :=
  { h with
    data := fun c hc => by
      obtain ⟨hn, hd⟩ := h.data c hc
      rw [State.setBlock, State.setMem_mem, updAt_get]
      split
      · next e =>
        subst e
        obtain ⟨hs, hx⟩ := hf.resolve_left hn
        exact ⟨hs, hx.trans hd⟩
      · exact ⟨hn, hd⟩ }

/-- The Recorder's slot or an UPLOADING one. -/
def Worked (s : State) (i : SlotNo) : Prop := s.recorder.slot = some i ∨ s.mem.slots[i].state = .uploading

theorem setSlot {i : SlotNo} {f : Slot → Slot} (hi : Worked s i)
    (hf : (f t.mem.slots[i]).state = .uploading → t.mem.slots[i].state = .uploading) : EndWork s (t.setSlot i f) :=
  { h with
    uploading := fun j => by
      rw [State.setSlot, State.setMem_mem, updAt_get]
      split
      · next e => subst e; exact fun hu => h.uploading i (hf hu)
      · exact h.uploading j
    slot := fun j hr hu => by
      have hj : i ≠ j := by
        rintro rfl
        exact hi.elim hr hu
      rw [State.setSlot, State.setMem_mem, updAt_other hj]
      exact h.slot j hr hu }

/-- The releases that a slot carries. -/
theorem setReleased (i : SlotNo) (f : List BlockNo → List BlockNo) :
    EndWork s (t.setSlot i fun x => { x with released := f x.released }) :=
  { h with
    uploading := fun j => by
      rw [State.setSlot, State.setMem_mem, updAt_get]
      split <;> exact h.uploading j
    slot := fun j hr hu => by
      rw [State.setSlot, State.setMem_mem, updAt_get]
      split
      · next e => rw [h.slot j hr hu]
      · exact h.slot j hr hu }

theorem setUpload {m : TakeMemory} (hu : s.uploadSlot ≠ none) (hm : m = { t.mem with buffers := m.buffers, upload := m.upload }) :
    EndWork s (t.setMem m) := by
  rw [hm]
  exact { h with upload := fun hn => absurd hn hu }

/-! ### Ends with no FREE block -/

theorem emptySlot {i : SlotNo} (hi : Worked s i) : EndWork s (emptySlot i t) := by
  unfold Machine.emptySlot
  refine queueDir (setSlot (forEach_keeps (P := EndWork s) (fun b u hu => hu.setBlock (.inr ⟨?_, rfl⟩)) _ h) hi ?_) i
  · dsimp only
    rcases released_not_used u.mem.blocks[b].state with e | e <;> rw [e] <;> simp
  · intro hu; cases hu

theorem completeSlot {i : SlotNo} (hi : Worked s i) (f : Header → Header) : EndWork s (completeSlot i f t) :=
  (h.setSlot hi fun hu => by cases hu).queueDir i

section Recording

variable (hq : s.recorder.queue ≠ [])

include hq

theorem recIdle (outcome : RecOutcome) (n : Nat) (interrupted implied : Bool) :
    EndWork s (recIdle outcome n interrupted implied t) := (h.setRecorder hq (.inr rfl) (.inr (.inl rfl))).raiseMotion _

theorem drainFinish : EndWork s (drainFinish t) := by
  unfold Machine.drainFinish
  split
  · split
    · exact h
    · next i hi =>
      have worked : Worked s i := .inl (h.recSlot.elim (fun e => e.symm.trans hi) fun e => by rw [e] at hi; cases hi)
      dsimp only
      split
      · exact (h.emptySlot worked).recIdle hq _ _ _ _
      · exact (h.completeSlot worked _).recIdle hq _ _ _ _
  · exact h

theorem recordEnds (outcome : RecOutcome) : EndWork s (recordEnds outcome t) := by
  unfold Machine.recordEnds
  split
  · exact h
  · exact (h.setRecorder (x := dropMarks t.recorder) hq (.inl rfl) (.inl rfl)).recIdle hq _ _ _ _
  · exact (h.setRecorder (x := { dropMarks t.recorder with
      state := .draining, outcome := some outcome, endPending := false }) hq (.inl rfl)
      (.inr (.inr rfl))).drainFinish hq
  · exact h.setRecorder hq (.inl rfl) (.inl rfl)

theorem recordNoRoom (i : SlotNo) : EndWork s (recordNoRoom i t) :=
  ((h.setRecorder (x := { t.recorder with queue := [], spanOpen := spanOf (t.takeSamples i) }) hq
    (.inl rfl) (.inl rfl)).recordEnds hq _).drainFinish hq

end Recording

section Upload

variable (hu : s.uploadSlot ≠ none)

include hu

theorem setBuffer (k : Fin 2) (f : StageBuffer → StageBuffer) : EndWork s (t.setBuffer k f) := h.setUpload hu rfl

theorem chunkNoRoom (k : Fin 2) : EndWork s (chunkNoRoom k t) := (h.setBuffer hu k _).raiseMotion _

theorem uploadNoRoom (i : SlotNo) (k : Fin 2) : EndWork s (uploadNoRoom i k t) := by
  unfold Machine.uploadNoRoom
  dsimp only
  split
  · exact ((h.chunkNoRoom hu k).chunkNoRoom hu _).setUpload hu rfl
  · exact (h.chunkNoRoom hu k).setUpload hu rfl

end Upload

/-! ### The operations started -/

theorem placeNext {i : SlotNo} {u : State} {b : BlockNo} {n : Nat} (hi : Worked s i) (hp : t.placeNext i = some (u, b, n)) :
    EndWork s u := by
  rcases placeNext_cases hp with ⟨rfl, -⟩ | ⟨hf, rfl, -⟩
  · exact h
  · have free : t.mem.blocks[b].state = .free := by simpa using List.find?_some hf
    exact (h.setBlock (.inl free)).setSlot hi id

theorem startErase : EndWork s (startErase t) := by
  unfold Machine.startErase
  split
  · next hb =>
    exact (h.setBlock (.inr ⟨by simp, rfl⟩)).setOp _
  · split
    · exact ((h.setBlock (.inr ⟨by simp, rfl⟩)).storeBlock _).setOp _
    · exact h

theorem startReserved : EndWork s (startReserved t) := by
  unfold Machine.startReserved
  split
  · exact h
  next r rest hq =>
    have left := h.setQueue rest
    cases r with
    | dir i => exact (left.setReleased i fun _ => []).setOp _
    | profile k =>
      have writing : EndWork s ((t.setMem { t.mem with reservedQueue := rest }).setLens
          { t.lens with slots := updAt t.lens.slots k fun x => { x with store := .writing } }) :=
        { left with
          profile := fun j => by
            rw [State.setLens_lens, updAt_get]
            split <;> exact h.profile j }
      exact writing.setOp _
    | rig =>
      have writing : EndWork s ((t.setMem { t.mem with reservedQueue := rest }).setRig { t.rig with store := .writing }) :=
        { left with rig := by rw [State.setRig_rig, h.rig] }
      exact writing.setOp _

end EndWork

/-- The scheduler's choice is within the frame. -/
theorem schedules_endWork (s : State) : Schedules (EndWork s) (EndWork s) where
  nothing _ h := h
  read _ _ _ _ _ h := h.setOp _
  sample i t u hi hq hu h := by
    obtain ⟨⟨v, b, n⟩, hp, rfl⟩ := Option.map_eq_some_iff.mp hu
    have worked : EndWork.Worked s i := .inl (h.recSlot.elim (fun e => e.symm.trans hi) fun e => by rw [e] at hi; cases hi)
    exact (h.placeNext worked hp).setOp _
  recordNoRoom i t _ hq _ h := h.recordNoRoom (fun hn => hq (by rw [h.recorder hn, hn])) i
  reserved _ h := h.startReserved
  chunk i k t u _ hi hu h := by
    obtain ⟨⟨v, b, n⟩, hp, rfl⟩ := Option.map_eq_some_iff.mp hu
    have uploading := h.uploading i (uploadSlot_some hi)
    exact ((h.placeNext (.inr uploading) hp).setBuffer (uploadSlot_ne_none uploading) k _).setOp _
  uploadNoRoom i k t _ hi _ h := h.uploadNoRoom (uploadSlot_ne_none (h.uploading i (uploadSlot_some hi))) i k
  erase _ _ _ h := h.startErase

theorem schedule_busy {s : State} (h : s.starting = true ∨ s.mem.op.isSome = true) : schedule s = s := by
  unfold schedule
  split
  · rfl
  · next hs => rw [if_pos (h.resolve_left hs)]

theorem endWork_schedule (s : State) : EndWork s (schedule s) := by
  unfold schedule
  split
  · exact .refl s
  · split
    · exact .refl s
    · exact (schedules_endWork s).scheduleRounds 3 (.refl s)

theorem endWork_settle (s : State) : EndWork s (settle s) := (endWork_schedule s).pump

/-- Settles O3: the scheduler's rounds and the transmitters' choice stay within `EndWork`. -/
theorem settleTouchesOnlyArrayWork : Obligations.SettleTouchesOnlyArrayWork := by
  unfold Obligations.SettleTouchesOnlyArrayWork
  intro s
  have h := endWork_settle s
  refine ⟨h.starting, h.tb, h.lanes, h.grants, h.nextArrival, h.play, h.safety, h.drives, h.powerLosses, h.pending, h.active,
    h.profile, h.rig, fun p => ⟨(h.port p).same, (h.port p).events, (h.port p).lost, (h.port p).busy⟩, h.recorder, h.upload,
    h.fetches, h.flags.1, h.flags.2.1, h.flags.2.2.1, h.flags.2.2.2, h.nextCommit, h.stored,
    fun b hb => (h.data b hb).2, h.slot, fun hb => ?_⟩
  rw [settle, schedule_busy hb]
  exact ⟨(pump_frame s).mem, (pump_frame s).recorder⟩

end Sys2Proof.Machine
end

section
/-! PROOFS. The third other frame in OFFER (O18), and the placing of an event (O20). -/

namespace Sys2Proof.Machine

open Sys2Proof

/-! ### Other frames in OFFER -/

/-- An event leaves all of a port but its queue and the indication that it lost one. -/
theorem raiseFor_portFields (aud : Port → Bool) (body : EventBody) (s : State) (p : Port) :
    (raiseFor aud body s).ports[p] = { s.ports[p] with
      events := (raiseFor aud body s).ports[p].events, eventsLost := (raiseFor aud body s).ports[p].eventsLost } := by
  rw [raiseFor_port]
  split
  · unfold pushEvent
    split <;> rfl
  · rfl

theorem raiseMotion_quiet {s : State} {p : Port} (body : EventBody) (h : s.ports[p].role ≠ some .motion) :
    (raiseMotion body s).ports[p] = s.ports[p] := by
  rw [raiseMotion, raiseFor_port, State.isMotion, decide_eq_false h]
  simp

/-- What a port becomes with a frame in OFFER that is no ABILITY (R175). -/
theorem otherInOffer_port (p : Port) (s : State) :
    (otherInOffer p s).ports[p].lastValid = s.ports[p].lastValid ∧
      (otherInOffer p s).ports[p].otherRun = s.ports[p].otherRun + 1 ∧
      (otherInOffer p s).ports[p].abilityRole = none ∧ (otherInOffer p s).ports[p].abilityCount = 0 ∧
      (2 ≤ s.ports[p].otherRun → (otherInOffer p s).ports[p].link = .active ∧
        (otherInOffer p s).ports[p].role = some .observer ∧ (otherInOffer p s).ports[p].level = none ∧
        (otherInOffer p s).ports[p].replies = [] ∧ (otherInOffer p s).ports[p].eventsLost = false) ∧
      (s.ports[p].otherRun < 2 → (otherInOffer p s).ports[p].link = s.ports[p].link ∧
        (otherInOffer p s).ports[p].replies = s.ports[p].replies) := by
  by_cases hn : 2 ≤ s.ports[p].otherRun
  · have hp : (otherInOffer p s).ports[p] = { s.ports[p] with
        otherRun := s.ports[p].otherRun + 1, abilityRole := none, abilityCount := 0, link := .active, role := some .observer,
        level := none, deadline := none, nextOffer := none, events := [], replies := [], eventsLost := false,
        telemetry := none, sending := none, leaving := false } := by
      have h3 : 3 ≤ s.ports[p].otherRun + 1 := by omega
      simp only [otherInOffer, if_pos h3, becomeActive]
      rw [raiseMotion_quiet _ (by simp only [State.setPort, State.setPorts_ports, updAt_same]; simp)]
      simp only [State.setPort, State.setPorts_ports, updAt_same]
      rfl
    rw [hp]
    exact ⟨rfl, rfl, rfl, rfl, fun _ => ⟨rfl, rfl, rfl, rfl, rfl⟩, fun hl => absurd hl (by omega)⟩
  · have hp : (otherInOffer p s).ports[p] =
        { s.ports[p] with otherRun := s.ports[p].otherRun + 1, abilityRole := none, abilityCount := 0 } := by
      have h3 : ¬ 3 ≤ s.ports[p].otherRun + 1 := by omega
      simp only [otherInOffer, if_neg h3, State.setPort, State.setPorts_ports, updAt_same]
    rw [hp]
    exact ⟨rfl, rfl, rfl, rfl, fun hl => absurd hl hn, fun _ => ⟨rfl, rfl⟩⟩

/-- R171, R175: whatever its kind, the frame is one that is no ABILITY, and the end of the command follows. -/
theorem exec_otherFrame {c : Instr} {rx : Rx} {s : State} (hc : requestFrame c = some rx ∨ c = .otherFrameInOffer rx)
    (hl : s.ports[rx.port].link = .offer) :
    ∃ t, exec c s = .next t ∧ PortWork (otherInOffer rx.port (noteValid rx s)).ports[rx.port] t.ports[rx.port] := by
  rcases hc with hf | rfl
  · obtain ⟨α, body, judge, he, -, -⟩ := requestForm hf
    rw [he, takeRequest_inOffer body judge hl]
    exact ⟨_, rfl, (endWork_settle _).port _⟩
  · refine ⟨_, rfl, ?_⟩
    rw [if_pos hl, pump_port]
    exact portWork_pumpPort _

/-- Settles O18: the frame's effect on its port, which the end of the command leaves. -/
theorem thirdOtherFrameAdmitsAnObserver : Obligations.ThirdOtherFrameAdmitsAnObserver := by
  unfold Obligations.ThirdOtherFrameAdmitsAnObserver
  intro c rx s hc hl
  obtain ⟨t, ht, hp⟩ := exec_otherFrame hc hl
  obtain ⟨hv, ho, hr, ha, hactive, hearly⟩ := otherInOffer_port rx.port (noteValid rx s)
  have hnoted : (noteValid rx s).ports[rx.port] = { s.ports[rx.port] with lastValid := some rx.time } := by
    rw [noteValid_port, if_pos rfl]
  rw [hnoted] at hv ho hactive hearly
  refine ⟨t, ht, ?_, ?_, ?_, ?_, fun hn => ?_, fun hn => ?_⟩
  · rw [hp.same]; exact hv
  · rw [hp.same]; exact ho
  · rw [hp.same]; exact hr
  · rw [hp.same]; exact ha
  · obtain ⟨hl', hr', hv', hq', he'⟩ := hactive hn
    refine ⟨?_, ?_, ?_, ?_, ?_⟩
    · rw [hp.same]; exact hl'
    · rw [hp.same]; exact hr'
    · rw [hp.same]; exact hv'
    · rw [hp.same]; exact hq'
    · rw [(hp.quiet (by rw [hr']; decide)).2]; exact he'
  · obtain ⟨hl', hq'⟩ := hearly hn
    exact ⟨by rw [hp.same]; exact hl'.trans hl, by rw [hp.same]; exact hq'⟩

/-! ### Events -/

/-- Settles O20: by the port's link, the audience and the room in the queue. -/
theorem eventIsPlacedForItsAudience : Obligations.EventIsPlacedForItsAudience := by
  unfold Obligations.EventIsPlacedForItsAudience
  intro aud body s
  have active : ∀ p : Port, s.isActive p = true ↔ s.ports[p].link = .active := fun p => by
    simp only [State.isActive, decide_eq_true_eq]
  refine ⟨fun p hl ha hq => ?_, fun p hl ha hq => ?_, fun p h => ?_, rfl⟩
  · rw [raiseFor_port, (active p).mpr hl, ha, Bool.and_self, if_pos rfl, pushEvent, if_pos hq]
    exact ⟨rfl, rfl⟩
  · rw [raiseFor_port, (active p).mpr hl, ha, Bool.and_self, if_pos rfl, pushEvent, if_neg (by omega)]
    exact ⟨rfl, rfl⟩
  · rw [raiseFor_port, if_neg]
    simp only [Bool.and_eq_true, active]
    rintro ⟨hl, ha⟩
    rcases h with h | h
    · exact h hl
    · rw [ha] at h; cases h

end Sys2Proof.Machine
end

section
/-! PROOFS. The arithmetic of the lane step (O31 to O33, R9 to R14, R18 to R20). -/

namespace Sys2Proof.Machine

open Sys2Proof

/-! ### Quotients -/

/-- A floor quotient by a positive number. -/
theorem floorDiv_eq {a b : Int} (hb : 0 < b) : floorDiv a b = a / b := Int.fdiv_eq_ediv_of_nonneg a hb.le

/-- A ceiling quotient by a positive number is the least whole number not below the quotient. -/
theorem ceilDiv_bounds {a b : Int} (hb : 0 < b) : b * (ceilDiv a b - 1) < a ∧ a ≤ b * ceilDiv a b := by
  have hq : ceilDiv a b = -((-a) / b) := by rw [ceilDiv, Int.fdiv_eq_ediv_of_nonneg _ hb.le]
  have hdiv := Int.mul_ediv_add_emod (-a) b
  have hlo := Int.emod_nonneg (-a) hb.ne'
  have hhi := Int.emod_lt_of_pos (-a) hb
  rw [hq]
  constructor <;> linarith

theorem ceilDiv_unique {a b q : Int} (hb : 0 < b) (hlo : b * (q - 1) < a) (hhi : a ≤ b * q) : ceilDiv a b = q := by
  obtain ⟨lo, hi⟩ := ceilDiv_bounds (a := a) hb
  have h1 : ceilDiv a b - 1 < q := lt_of_mul_lt_mul_left (lo.trans_le hhi) hb.le
  have h2 : q - 1 < ceilDiv a b := lt_of_mul_lt_mul_left (hlo.trans_le hi) hb.le
  omega

/-! ### The braking distance (R11) -/

/-- The sum A + 2A + … + n·A. -/
theorem two_mul_sum_multiples (a n : Nat) : 2 * ((List.range (n + 1)).map fun i => i * a).sum = n * (n + 1) * a := by
  induction n with
  | zero => simp
  | succ n ih =>
    rw [List.range_succ, List.map_append, List.sum_append, mul_add, ih]
    simp
    ring

section Braking

variable {a : Nat} (ha : 1 ≤ a)

include ha

theorem brakeDistance_bounds (v : Int) :
    2 * a * (brakeDistance v a - 1) < v * v + v.natAbs * a ∧ v * v + v.natAbs * a ≤ 2 * a * brakeDistance v a :=
  ceilDiv_bounds (by omega)

theorem brakeDistance_unique {v q : Int} (hlo : 2 * a * (q - 1) < v * v + v.natAbs * a)
    (hhi : v * v + v.natAbs * a ≤ 2 * a * q) : brakeDistance v a = q := ceilDiv_unique (by omega) hlo hhi

/-- An exact quotient. -/
theorem brakeDistance_exact {v q : Int} (h : v * v + v.natAbs * a = 2 * a * q) : brakeDistance v a = q := by
  refine brakeDistance_unique ha ?_ h.le
  rw [h]
  exact mul_lt_mul_of_pos_left (by omega) (by omega)

theorem brakeDistance_zero : brakeDistance 0 a = 0 := brakeDistance_exact ha (by simp)

theorem brakeDistance_nonneg (v : Int) : 0 ≤ brakeDistance v a := by
  by_contra hn
  have hi := (brakeDistance_bounds ha v).2
  have : 2 * (a : Int) * brakeDistance v a < 0 := mul_neg_of_pos_of_neg (by omega) (by omega)
  nlinarith [mul_self_nonneg v, v.natAbs.zero_le]

theorem brakeDistance_multiple (n : Nat) :
    brakeDistance (n * a : Nat) a = (((List.range (n + 1)).map fun i => i * a).sum : Nat) := by
  refine brakeDistance_exact ha ?_
  have h := congrArg (fun x : Nat => (x : Int)) (two_mul_sum_multiples a n)
  rw [Int.natAbs_natCast]
  push_cast at h ⊢
  linear_combination (-(a : Int)) * h

end Braking

theorem brakeDistance_neg (v : Int) (a : Nat) : brakeDistance (-v) a = brakeDistance v a := by
  simp only [brakeDistance, mag, Int.natAbs_neg, neg_mul_neg]

/-- Only the speed counts. -/
theorem brakeDistance_natAbs (v : Int) (a : Nat) : brakeDistance v.natAbs a = brakeDistance v a := by
  rcases Int.natAbs_eq v with h | h
  · rw [← h]
  · conv_rhs => rw [h, brakeDistance_neg]

/-- One step of slowing covers the speed it began with (R11). -/
theorem brakeDistance_slower {n a : Nat} (ha : 1 ≤ a) (h : a ≤ n) :
    brakeDistance n a = brakeDistance (n - a : Nat) a + n := by
  obtain ⟨m, rfl⟩ := Nat.exists_eq_add_of_le h
  rw [Nat.add_sub_cancel_left]
  obtain ⟨lo, hi⟩ := brakeDistance_bounds ha (m : Int)
  rw [Int.natAbs_natCast] at lo hi
  refine brakeDistance_unique ha ?_ ?_ <;> rw [Int.natAbs_natCast] <;> push_cast <;> nlinarith

/-! ### Slowing (R12, R18) -/

theorem slowed_natAbs (v : Int) (a : Nat) : (slowed v a).natAbs = v.natAbs - a := by
  unfold slowed mag
  rcases lt_trichotomy v 0 with h | h | h
  · rw [Int.sign_eq_neg_one_of_neg h]; omega
  · subst h; simp
  · rw [Int.sign_eq_one_of_pos h]; omega

/-- What is slowed keeps its direction: it lies between 0 and what it was. -/
theorem slowed_between (v : Int) (a : Nat) : (0 ≤ v → 0 ≤ slowed v a ∧ slowed v a ≤ v) ∧
    (v ≤ 0 → v ≤ slowed v a ∧ slowed v a ≤ 0) := by
  unfold slowed mag
  rcases lt_trichotomy v 0 with h | h | h
  · rw [Int.sign_eq_neg_one_of_neg h]; omega
  · subst h; simp
  · rw [Int.sign_eq_one_of_pos h]; omega

theorem slowed_mul_nonneg (v : Int) (a : Nat) : 0 ≤ slowed v a * v := by
  obtain ⟨hp, hn⟩ := slowed_between v a
  rcases le_total 0 v with h | h
  · exact mul_nonneg (hp h).1 h
  · exact mul_nonneg_of_nonpos_of_nonpos (hn h).2 h

/-- The change of velocity of a slowing step is at most a. -/
theorem slowed_change (v : Int) (a : Nat) : -(a : Int) ≤ slowed v a - v ∧ slowed v a - v ≤ a := by
  unfold slowed mag
  rcases lt_trichotomy v 0 with h | h | h
  · rw [Int.sign_eq_neg_one_of_neg h]; omega
  · subst h; simp
  · rw [Int.sign_eq_one_of_pos h]; omega

theorem slowed_distance {a : Nat} (ha : 1 ≤ a) (v : Int) :
    ((slowed v a).natAbs : Int) + brakeDistance (slowed v a) a ≤ brakeDistance v a := by
  rw [← brakeDistance_natAbs (slowed v a), ← brakeDistance_natAbs v, slowed_natAbs]
  rcases le_total a v.natAbs with h | h
  · rw [brakeDistance_slower ha h]
    omega
  · rw [Nat.sub_eq_zero_of_le h]
    simpa [brakeDistance_zero ha] using brakeDistance_nonneg ha v.natAbs

/-- The way of a stop ramp, step by step, is within the braking distance (R19). -/
theorem ramp_within_brakeDistance {a : Nat} (ha : 1 ≤ a) (k n : Nat) :
    ((((List.range k).map fun i => n - (i + 1) * a).sum : Nat) : Int) ≤ brakeDistance n a := by
  induction k generalizing n with
  | zero => simpa using brakeDistance_nonneg ha n
  | succ k ih =>
    have tail : ((List.range k).map fun i => n - (i + 1 + 1) * a) = (List.range k).map fun i => n - a - (i + 1) * a := by
      refine List.map_congr_left fun i _ => ?_
      rw [Nat.sub_sub, Nat.add_mul (i + 1) 1 a, Nat.one_mul, Nat.add_comm]
    have step : ((n - a : Nat) : Int) + brakeDistance (n - a : Nat) a ≤ brakeDistance n a := by
      have h := slowed_distance ha (n : Int)
      rwa [← brakeDistance_natAbs (slowed n a), slowed_natAbs, Int.natAbs_natCast] at h
    rw [List.range_succ_eq_map, List.map_cons, List.map_map, List.sum_cons]
    simp only [Function.comp_def, Nat.succ_eq_add_one, Nat.zero_add, Nat.one_mul, tail]
    have := ih (n - a)
    omega

/-! ### The cap (R10) -/

theorem velocityCap_eq (vmax sEff : Nat) : velocityCap vmax sEff = ((vmax * sEff / 65536 : Nat) : Int) := by
  rw [velocityCap, floorDiv_eq (by decide)]
  push_cast
  rfl

theorem velocityCap_range {sEff : Nat} (vmax : Nat) (h : sEff ≤ 65536) :
    0 ≤ velocityCap vmax sEff ∧ velocityCap vmax sEff ≤ vmax := by
  rw [velocityCap_eq]
  refine ⟨Int.natCast_nonneg _, ?_⟩
  have : vmax * sEff / 65536 ≤ vmax := Nat.div_le_of_le_mul (by rw [Nat.mul_comm]; exact Nat.mul_le_mul_right _ h)
  exact_mod_cast this

theorem velocityCap_mono {x y : Nat} (vmax : Nat) (h : x ≤ y) : velocityCap vmax x ≤ velocityCap vmax y := by
  rw [velocityCap_eq, velocityCap_eq]
  exact_mod_cast Nat.div_le_div_right (Nat.mul_le_mul_left _ h)

/-! ### Position and clip (R13, R14) -/

/-- A step that is not clipped, at the limit crossed at rest, or not of a lane within its limits. -/
theorem limitClip_spec (x : LaneRec) (p v : Int) :
    ((limitClip x p v) = (p, v, none) ∧ (x.softMin ≤ x.p → x.p ≤ x.softMax → x.softMin ≤ p ∧ p ≤ x.softMax)) ∨
      (limitClip x p v = (x.softMax, 0, some .softMax) ∧ x.softMin ≤ x.p ∧ x.p ≤ x.softMax) ∨
      (limitClip x p v = (x.softMin, 0, some .softMin) ∧ x.softMin ≤ x.p ∧ x.p ≤ x.softMax) := by
  unfold limitClip
  split
  · next h =>
    split
    · exact .inr (.inl ⟨rfl, h⟩)
    · split
      · exact .inr (.inr ⟨rfl, h⟩)
      · exact .inl ⟨rfl, fun _ _ => ⟨by omega, by omega⟩⟩
  · next h => exact .inl ⟨rfl, fun h1 h2 => absurd ⟨h1, h2⟩ h⟩

theorem limitClip_inside {x : LaneRec} {p v : Int} (h : x.softMin ≤ p ∧ p ≤ x.softMax ∨ ¬(x.softMin ≤ x.p ∧ x.p ≤ x.softMax)) :
    limitClip x p v = (p, v, none) := by
  unfold limitClip
  split
  · next hx =>
    obtain ⟨h1, h2⟩ := h.resolve_right (not_not_intro hx)
    rw [if_neg (by omega), if_neg (by omega)]
  · rfl

/-! ### The velocity a held step chooses (R12, R13) -/

/-- Vd, before the clamp of its change. -/
def wantedVelocity (x : LaneRec) (t0 : Int) (gain sEff : Nat) : Int :=
  let e := clampInt x.softMin x.softMax t0 - x.p
  let c := velocityCap x.vmax sEff
  if braking x e then slowed x.v x.a else clampInt (-c) c (requested e gain)

/-- V + ΔV, before the limit clip. -/
def nextVelocity (x : LaneRec) (t0 : Int) (gain sEff : Nat) : Int :=
  x.v + clampInt (-x.a) x.a (wantedVelocity x t0 gain sEff - x.v)

theorem heldStep_limitClip (x : LaneRec) (t0 : Int) (gain sEff : Nat) :
    ((heldStep x t0 gain sEff).p, (heldStep x t0 gain sEff).v, (heldStep x t0 gain sEff).clip) =
      limitClip x (x.p + nextVelocity x t0 gain sEff) (nextVelocity x t0 gain sEff) := rfl

/-- The outcomes of a held step. -/
theorem heldStep_cases (x : LaneRec) (t0 : Int) (gain sEff : Nat) :
    let c := heldStep x t0 gain sEff
    let v := nextVelocity x t0 gain sEff
    (c.clip = none ∧ c.p = x.p + v ∧ c.v = v ∧
        (x.softMin ≤ x.p → x.p ≤ x.softMax → x.softMin ≤ c.p ∧ c.p ≤ x.softMax)) ∨
      (c.clip = some .softMax ∧ c.p = x.softMax ∧ c.v = 0 ∧ x.softMin ≤ x.p ∧ x.p ≤ x.softMax) ∨
      (c.clip = some .softMin ∧ c.p = x.softMin ∧ c.v = 0 ∧ x.softMin ≤ x.p ∧ x.p ≤ x.softMax) := by
  have h := heldStep_limitClip x t0 gain sEff
  rcases limitClip_spec x (x.p + nextVelocity x t0 gain sEff) (nextVelocity x t0 gain sEff) with ⟨e, hin⟩ | ⟨e, hin⟩ | ⟨e, hin⟩ <;>
    rw [e, Prod.mk.injEq, Prod.mk.injEq] at h <;> obtain ⟨hp, hv, hc⟩ := h
  · exact .inl ⟨hc, hp, hv, by rw [hp]; exact hin⟩
  · exact .inr (.inl ⟨hc, hp, hv, hin⟩)
  · exact .inr (.inr ⟨hc, hp, hv, hin⟩)

theorem braking_iff (x : LaneRec) (e : Int) : braking x e = true ↔
    x.v ≠ 0 ∧ e ≠ 0 ∧ e.sign = x.v.sign ∧ (e.natAbs : Int) ≤ brakeDistance x.v x.a := by
  simp only [braking, Bool.and_eq_true, decide_eq_true_eq, and_assoc]
  rfl

/-- A braking step slows by the whole of its change. -/
theorem nextVelocity_braking {x : LaneRec} {t0 : Int} {gain sEff : Nat}
    (h : braking x (clampInt x.softMin x.softMax t0 - x.p) = true) : nextVelocity x t0 gain sEff = slowed x.v x.a := by
  obtain ⟨lo, hi⟩ := slowed_change x.v x.a
  rw [nextVelocity, wantedVelocity, if_pos h, clampInt_inside lo hi]
  omega

theorem nextVelocity_free {x : LaneRec} {t0 : Int} {gain sEff : Nat}
    (h : ¬ braking x (clampInt x.softMin x.softMax t0 - x.p) = true) :
    nextVelocity x t0 gain sEff = x.v + clampInt (-x.a) x.a (clampInt (-velocityCap x.vmax sEff) (velocityCap x.vmax sEff)
      (requested (clampInt x.softMin x.softMax t0 - x.p) gain) - x.v) := by
  rw [nextVelocity, wantedVelocity, if_neg h]

/-- A clamped change goes from the start toward the wanted value and not beyond it. -/
theorem clamped_change_between (v w : Int) (a : Nat) :
    (v ≤ v + clampInt (-a) a (w - v) ∧ v + clampInt (-a) a (w - v) ≤ w) ∨
      (w ≤ v + clampInt (-a) a (w - v) ∧ v + clampInt (-a) a (w - v) ≤ v) := by
  unfold clampInt
  split <;> [skip; split] <;> omega

/-- The wanted velocity is no faster than the lane or its cap. -/
theorem wantedVelocity_range {x : LaneRec} {t0 : Int} {gain sEff : Nat} (h : sEff ≤ 65536) (hv : x.v.natAbs ≤ x.vmax) :
    -(x.vmax : Int) ≤ wantedVelocity x t0 gain sEff ∧ wantedVelocity x t0 gain sEff ≤ x.vmax := by
  obtain ⟨c0, c1⟩ := velocityCap_range x.vmax h
  unfold wantedVelocity
  dsimp only
  split
  · have := slowed_natAbs x.v x.a
    omega
  · have := clampInt_range (x := requested (clampInt x.softMin x.softMax t0 - x.p) gain)
      (show -velocityCap x.vmax sEff ≤ velocityCap x.vmax sEff by omega)
    omega

theorem nextVelocity_range {x : LaneRec} {t0 : Int} {gain sEff : Nat} (h : sEff ≤ 65536) (hv : x.v.natAbs ≤ x.vmax) :
    (nextVelocity x t0 gain sEff).natAbs ≤ x.vmax := by
  have hw := wantedVelocity_range (t0 := t0) (gain := gain) h hv
  have := clamped_change_between x.v (wantedVelocity x t0 gain sEff) x.a
  rw [nextVelocity]
  omega

theorem nextVelocity_change (x : LaneRec) (t0 : Int) (gain sEff : Nat) :
    (nextVelocity x t0 gain sEff - x.v).natAbs ≤ x.a := by
  have := clampInt_range (x := wantedVelocity x t0 gain sEff - x.v) (show -(x.a : Int) ≤ x.a by omega)
  rw [nextVelocity]
  omega

/-- Settles O31: the bounds of the ceiling, its exact values, and the two branches of the held step. -/
theorem brakingDistance : Obligations.BrakingDistance := by
  unfold Obligations.BrakingDistance
  refine ⟨fun v a ha => brakeDistance_bounds ha v, fun n a ha => ⟨brakeDistance_multiple ha n, brakeDistance_neg _ _⟩,
    fun a ha => brakeDistance_zero ha, fun x t0 gain sEff hc => ?_⟩
  have hv : (heldStep x t0 gain sEff).v = nextVelocity x t0 gain sEff := by
    rcases heldStep_cases x t0 gain sEff with ⟨-, -, hv, -⟩ | ⟨hc', -⟩ | ⟨hc', -⟩
    · exact hv
    · rw [hc] at hc'; cases hc'
    · rw [hc] at hc'; cases hc'
  refine ⟨fun hb => ?_, fun hb => ?_⟩ <;> rw [← braking_iff] at hb <;> rw [hv]
  · exact nextVelocity_braking hb
  · exact nextVelocity_free hb

/-! ### The effective scale (R9) -/

/-- The list that the effective scale is the least of. -/
def State.scaleTerms (s : State) (l : Lane) : List Nat :=
  s.trimTerm l ++ s.presenceTerms l ++ s.zoneTerms l ++ s.commissioningTerm

theorem zoneScale_iff (e : ZoneEntry) (l : Lane) (x : Nat) : e.scaleFor l = some x ↔
    ∃ r : ZoneRecord, e.record = some r ∧ (∃ i ∈ r.intervals, i.lane = l.val) ∧
      ((r.kind = .slow ∧ r.enabled = true ∧ (e.predicting = true ∨ e.breached = true)) ∨
        (r.kind = .keepOut ∧ e.exiting = true)) ∧ x = r.scale := by
  unfold ZoneEntry.scaleFor
  cases hr : e.record with
  | none => simp
  | some r =>
    simp only [Option.some.injEq, exists_eq_left']
    have hany : (r.intervals.any fun i => i.lane = l.val) = true ↔ ∃ i ∈ r.intervals, i.lane = l.val := by simp
    by_cases hi : ∃ i ∈ r.intervals, i.lane = l.val
    · rw [if_pos (hany.mpr hi)]
      rw [eq_comm (a := x)]
      cases hk : r.kind <;> simp [hi, and_assoc]
    · rw [if_neg (mt hany.mp hi)]
      simp [hi]

theorem mem_presenceTerms (s : State) (l : Lane) (x : Nat) : x ∈ s.presenceTerms l ↔
    ∃ i : Fin 4, s.safety.presence[i].asserted = true ∧ LaneSet.has s.safety.presence[i].lanes l = true ∧
      x = s.safety.presence[i].scale := by
  simp only [State.presenceTerms, List.mem_map, List.mem_filter, Vector.mem_toList_iff, Vector.mem_iff_getElem,
    Bool.and_eq_true]
  constructor
  · rintro ⟨e, ⟨⟨i, hi, rfl⟩, ha, hl⟩, rfl⟩
    exact ⟨⟨i, hi⟩, ha, hl, rfl⟩
  · rintro ⟨i, ha, hl, rfl⟩
    exact ⟨_, ⟨⟨i.val, i.isLt, rfl⟩, ha, hl⟩, rfl⟩

theorem mem_zoneTerms (s : State) (l : Lane) (x : Nat) : x ∈ s.zoneTerms l ↔
    ∃ z : ZoneNo, s.safety.zones[z].scaleFor l = some x := by
  simp only [State.zoneTerms, List.mem_filterMap, Vector.mem_toList_iff, Vector.mem_iff_getElem]
  constructor
  · rintro ⟨e, ⟨i, hi, rfl⟩, h⟩
    exact ⟨⟨i, hi⟩, h⟩
  · rintro ⟨z, h⟩
    exact ⟨_, ⟨z.val, z.isLt, rfl⟩, h⟩

theorem mem_commissioningTerm (s : State) (x : Nat) : x ∈ s.commissioningTerm ↔ s.rig.record.frozen = false ∧ x = 4096 := by
  unfold State.commissioningTerm
  cases s.rig.record.frozen <;> simp [commissioningScale]

/-- The trim of the holder is a station's, or that of a cue in progress; any other playback has full speed. -/
theorem mem_trimTerm (s : State) (l : Lane) (x : Nat) (h : x ∈ s.trimTerm l) : x = fullScale ∨
    (∃ (h : Hold) (q : Port), s.grants[l].holder = some h ∧ h.who = .station q ∧ x = h.ctx.trim) ∨
    ∃ h : Hold, s.grants[l].holder = some h ∧ h.who = .playback ∧
      (s.play.state = .cueing ∨ s.play.state = .ready) ∧ s.play.cueScale = some x := by
  unfold State.trimTerm at h
  split at h
  · simp at h
  · next hold hh =>
    split at h
    · next q hq => exact .inr (.inl ⟨hold, q, hh, hq, by simpa using h⟩)
    · next hq =>
      obtain rfl : x = s.play.trim := by simpa using h
      unfold Playback.trim
      cases hc : s.play.cueScale with
      | none => left; split <;> rfl
      | some c =>
        split
        · next hs => exact .inr (.inr ⟨hold, hh, hq, .inl hs, rfl⟩)
        · next hs => exact .inr (.inr ⟨hold, hh, hq, .inr hs, rfl⟩)
        · exact .inl rfl

theorem scaleTerm_mem {s : State} {l : Lane} {x : Nat} (h : ScaleTerm s l x) : x ∈ s.scaleTerms l := by
  simp only [State.scaleTerms, List.mem_append]
  rcases h with ⟨hold, q, hh, hq, rfl⟩ | ⟨hold, hh, hq, hs, hc⟩ | hp | ⟨z, hz⟩ | hf
  · exact .inl (.inl (.inl (by simp [State.trimTerm, -Fin.getElem_fin, hh, hq])))
  · refine .inl (.inl (.inl ?_))
    have ht : s.play.trim = x := by rcases hs with hs | hs <;> simp [Playback.trim, hs, hc]
    simp [State.trimTerm, -Fin.getElem_fin, hh, hq, ht]
  · exact .inl (.inl (.inr ((mem_presenceTerms s l x).mpr hp)))
  · exact .inl (.inr ((mem_zoneTerms s l x).mpr ⟨z, (zoneScale_iff _ l x).mpr hz⟩))
  · exact .inr ((mem_commissioningTerm s x).mpr hf)

theorem mem_scaleTerms {s : State} {l : Lane} {x : Nat} (h : x ∈ s.scaleTerms l) : x = fullScale ∨ ScaleTerm s l x := by
  simp only [State.scaleTerms, List.mem_append] at h
  rcases h with ((h | h) | h) | h
  · rcases mem_trimTerm s l x h with h | h | h
    · exact .inl h
    · exact .inr (.inl h)
    · exact .inr (.inr (.inl h))
  · exact .inr (.inr (.inr (.inl ((mem_presenceTerms s l x).mp h))))
  · obtain ⟨z, hz⟩ := (mem_zoneTerms s l x).mp h
    exact .inr (.inr (.inr (.inr (.inl ⟨z, (zoneScale_iff _ l x).mp hz⟩))))
  · exact .inr (.inr (.inr (.inr (.inr ((mem_commissioningTerm s x).mp h)))))

theorem effScale_le (s : State) (l : Lane) : s.effScale l ≤ 65536 := (minScale_le (s.scaleTerms l)).1

theorem effScale_le_term {s : State} {l : Lane} {x : Nat} (h : ScaleTerm s l x) : s.effScale l ≤ x :=
  (minScale_le (s.scaleTerms l)).2 x (scaleTerm_mem h)

theorem effScale_cases (s : State) (l : Lane) : s.effScale l = 65536 ∨ ScaleTerm s l (s.effScale l) :=
  (minScale_mem (s.scaleTerms l)).elim .inl mem_scaleTerms

/-- Settles O32: the cap, the scale, and the outcomes of the held step. -/
theorem heldStepLaws : Obligations.HeldStepLaws := by
  unfold Obligations.HeldStepLaws
  refine ⟨fun vmax sEff => ⟨velocityCap_eq vmax sEff, ?_, ?_⟩,
    fun s l => ⟨effScale_le s l, fun x => effScale_le_term, effScale_cases s l, fun hf vmax => ?_⟩,
    fun x t0 gain sEff hlim hs hv => ?_⟩
  · rw [velocityCap_eq]; norm_cast; omega
  · rw [velocityCap_eq]; norm_cast; omega
  · rw [← velocityCap_eq]
    exact velocityCap_mono vmax (effScale_le_term (.inr (.inr (.inr (.inr ⟨hf, rfl⟩)))))
  · have range := nextVelocity_range (t0 := t0) (gain := gain) hs hv
    have change := nextVelocity_change x t0 gain sEff
    obtain ⟨c0, c1⟩ := velocityCap_range x.vmax hs
    refine ⟨c0, c1, ?_⟩
    rcases heldStep_cases x t0 gain sEff with ⟨hc, hp, hv', hin⟩ | ⟨hc, hp, hv', hx⟩ | ⟨hc, hp, hv', hx⟩
    · rw [hc, hv']
      exact ⟨range, fun _ => ⟨hp, change⟩, fun h => by simp at h, fun h => by simp at h, hin, fun _ => rfl⟩
    · rw [hc, hv', hp]
      exact ⟨by simp, fun h => by simp at h, fun _ => ⟨rfl, rfl⟩, fun h => by simp at h, fun _ _ => ⟨hlim, le_rfl⟩,
        fun h => by omega⟩
    · rw [hc, hv', hp]
      exact ⟨by simp, fun h => by simp at h, fun h => by simp at h, fun _ => ⟨rfl, rfl⟩, fun _ _ => ⟨le_rfl, hlim⟩,
        fun h => by omega⟩

/-! ### The settling band (R20) -/

/-- At rest nothing brakes: V + ΔV is the request, within the cap and A. -/
theorem nextVelocity_rest {x : LaneRec} (t0 : Int) (gain sEff : Nat) (hv : x.v = 0) :
    nextVelocity x t0 gain sEff = clampInt (-x.a) x.a (clampInt (-velocityCap x.vmax sEff) (velocityCap x.vmax sEff)
      (requested (clampInt x.softMin x.softMax t0 - x.p) gain)) := by
  rw [nextVelocity_free (fun hb => ((braking_iff _ _).mp hb).1 hv), hv]
  simp

theorem requested_natAbs (e : Int) (gain : Nat) : (requested e gain).natAbs = e.natAbs * gain / 65536 := by
  rw [requested, truncDiv, Int.natAbs_tdiv, Int.natAbs_mul]
  rfl

/-- The request has the direction of E. -/
theorem requested_sign (e : Int) (gain : Nat) : (0 ≤ e → 0 ≤ requested e gain) ∧ (e ≤ 0 → requested e gain ≤ 0) := by
  refine ⟨fun h => Int.tdiv_nonneg (by positivity) (by decide), fun h => ?_⟩
  have hn : 0 ≤ Int.tdiv (-(e * gain)) 65536 :=
    Int.tdiv_nonneg (neg_nonneg.mpr (mul_nonpos_of_nonpos_of_nonneg h (Int.natCast_nonneg _))) (by decide)
  rw [Int.neg_tdiv] at hn
  rw [requested, truncDiv]
  omega

/-- A clamp to a range about 0 keeps the direction and does not go beyond. -/
theorem clampInt_toward {c : Int} (hc : 0 ≤ c) (r : Int) :
    (0 ≤ r → 0 ≤ clampInt (-c) c r ∧ clampInt (-c) c r ≤ r) ∧ (r ≤ 0 → r ≤ clampInt (-c) c r ∧ clampInt (-c) c r ≤ 0) ∧
      (1 ≤ c → r ≠ 0 → clampInt (-c) c r ≠ 0) := by
  unfold clampInt
  split <;> [skip; split] <;> omega

theorem velocityCap_nonneg (vmax sEff : Nat) : 0 ≤ velocityCap vmax sEff := by
  rw [velocityCap_eq]
  exact Int.natCast_nonneg _

/-- Settles O33: the slowing step, the sum of the steps, and the request within and beyond the band. -/
theorem stopRampAndSettlingBand : Obligations.StopRampAndSettlingBand := by
  unfold Obligations.StopRampAndSettlingBand
  refine ⟨fun v a ha => ⟨slowed_natAbs v a, slowed_mul_nonneg v a, slowed_distance ha v⟩, fun v a ha => ?_,
    fun x t0 gain sEff hlim hv hg hg' => ⟨fun hband => ?_, fun hband ha hc => ?_⟩⟩
  · rw [← brakeDistance_natAbs]
    exact ramp_within_brakeDistance ha _ _
  · have still : requested (clampInt x.softMin x.softMax t0 - x.p) gain = 0 := by
      rw [← Int.natAbs_eq_zero, requested_natAbs, Nat.div_eq_zero_iff]
      have := (Nat.le_div_iff_mul_le hg).mp hband
      omega
    have zero : nextVelocity x t0 gain sEff = 0 := by
      rw [nextVelocity_rest t0 gain sEff hv, still]
      have c0 := velocityCap_nonneg x.vmax sEff
      rw [clampInt_inside (x := 0) (by omega) (by omega), clampInt_inside (by omega) (by omega)]
    have h := heldStep_limitClip x t0 gain sEff
    rw [zero, add_zero, limitClip_inside (by tauto)] at h
    exact ⟨congrArg Prod.fst h, congrArg (fun r => r.2.1) h⟩
  · obtain ⟨hmin, hmax⟩ := clampInt_range (x := t0) hlim
    have h := heldStep_limitClip x t0 gain sEff
    have hn := nextVelocity_rest t0 gain sEff hv
    revert hband hmin hmax hn
    generalize clampInt x.softMin x.softMax t0 = t
    intro hband hmin hmax hn
    obtain ⟨up, down⟩ := requested_sign (t - x.p) gain
    have far : 65536 ≤ (t - x.p).natAbs * gain := by
      have := (Nat.div_lt_iff_lt_mul hg).mp hband
      omega
    have moves : requested (t - x.p) gain ≠ 0 := by
      rw [← Int.natAbs_ne_zero, requested_natAbs]
      omega
    have short : (requested (t - x.p) gain).natAbs ≤ (t - x.p).natAbs := by
      rw [requested_natAbs]
      exact Nat.div_le_of_le_mul (by rw [Nat.mul_comm]; exact Nat.mul_le_mul_right _ hg')
    obtain ⟨cu, cd, cn⟩ := clampInt_toward (velocityCap_nonneg x.vmax sEff) (requested (t - x.p) gain)
    obtain ⟨au, ad, an⟩ := clampInt_toward (c := x.a) (by omega) (clampInt (-velocityCap x.vmax sEff)
      (velocityCap x.vmax sEff) (requested (t - x.p) gain))
    rw [← hn] at au ad an
    have nonzero : nextVelocity x t0 gain sEff ≠ 0 := an (by omega) (cn hc moves)
    rw [limitClip_inside] at h
    · have hv' : (heldStep x t0 gain sEff).v = nextVelocity x t0 gain sEff := congrArg (fun r => r.2.1) h
      rw [hv']
      exact nonzero
    · rcases le_total 0 (t - x.p) with e | e
      · have := up e; have := cu this; have := au (by omega)
        omega
      · have := down e; have := cd this; have := ad (by omega)
        omega

end Sys2Proof.Machine
end

section
/-! PROOFS. The form of each lane's step (O29, R5, R15 to R18, R158, R159). -/

namespace Sys2Proof.Machine

open Sys2Proof

/-! ### What the lane step commits -/

theorem effScale_dropMissing (s : State) (l : Lane) : (dropMissing s).effScale l = s.effScale l := rfl

/-- R16, R159: each lane takes its candidate, or is disabled by the miss of the tick. -/
theorem commitLanes_lane (cs : Vector Candidate 12) (s : State) (l : Lane) :
    (commitLanes cs s).lanes[l] = commitLane (s.effScale l) cs[l]
      (if s.missFaults l then disableLane .driveFault s.lanes[l] else s.lanes[l]) := by
  rw [commitLanes, State.setLanes_lanes, mapAll_get, dropMissing_lane, effScale_dropMissing]

theorem commitLane_active {x : LaneRec} (hp : x.present = true) (ha : x.condition = .active) (sEff : Nat) (c : Candidate) :
    commitLane sEff c x = { x with p := c.p, v := c.v, t := c.target.getD x.t, sEff := sEff,
                                   limitClip := c.clip.isSome, capped := cappedFlag sEff c.capExceeded } := by
  simp only [commitLane, hp, ha, Bool.not_true, Bool.false_eq_true, if_false, if_true]

/-- R5, R15, R18: in STOPPING, and in RUN where a zone predicts, the stop step is committed. -/
theorem laneStep_lanes_stopStep {s : State} (h : s.safety.stop = .stopping ∨ (s.safety.stop = .run ∧
    predictedZones s (s.candidateMotion (s.candidates s.runCandidate)) ≠ [])) :
    (laneStep s).lanes = (commitLanes (s.candidates fun l => stopStep s.lanes[l]) s).lanes := by
  rcases h with h | ⟨h, hz⟩
  · simp only [laneStep, h, commitAll_lanes]
  · have hz' : ¬ (predictedZones s (s.candidateMotion (s.candidates s.runCandidate))).isEmpty = true := by
      rwa [List.isEmpty_iff]
    simp only [laneStep, h, runStep, hz', Bool.false_eq_true, if_false, causeEvents_lanes, commitAll_lanes]

/-- R5, R18: in STOPPED and RELEASING the lanes rest. -/
theorem laneStep_lanes_rest {s : State} (h : s.safety.stop = .stopped ∨ s.safety.stop = .releasing) :
    (laneStep s).lanes = (commitLanes (s.candidates fun l => restStep s.lanes[l]) s).lanes := by
  rcases h with h | h <;> simp only [laneStep, h, commitAll_lanes]

/-- Whatever the state, the lane step is the commit of one form for each lane. -/
theorem laneStep_lanes_form (s : State) : ∃ f : Lane → Candidate,
    (laneStep s).lanes = (commitLanes (s.candidates f) s).lanes := by
  by_cases hr : s.safety.stop = .run ∧ predictedZones s (s.candidateMotion (s.candidates s.runCandidate)) = []
  · exact ⟨_, laneStep_lanes_run hr.1 hr.2⟩
  · obtain ⟨f, -, hf⟩ := laneStep_lanes_stop (s := s) (by tauto)
    exact ⟨f, hf⟩

section Stepped

variable {s : State} {l : Lane} (hp : s.lanes[l].present = true) (ha : s.lanes[l].condition = .active)

include hp ha

/-- R16: the record of an ACTIVE lane once its form is committed. -/
theorem commitLanes_stepped (f : Lane → Candidate) (hm : s.missFaults l = false) :
    (commitLanes (s.candidates f) s).lanes[l] = { s.lanes[l] with
      p := (f l).p, v := (f l).v, t := (f l).target.getD s.lanes[l].t, sEff := s.effScale l,
      limitClip := (f l).clip.isSome, capped := cappedFlag (s.effScale l) (f l).capExceeded } := by
  rw [commitLanes_lane, hm, if_neg Bool.false_ne_true, commitLane_active hp ha, candidates_stepped hp ha]

end Stepped

/-- Settles O29: each stop state's form, committed, and the lane that the tick's miss disables. -/
theorem laneStepForms : Obligations.LaneStepForms := by
  unfold Obligations.LaneStepForms
  intro s l hp ha
  have missed : s.missFaults l = true → (laneStep s).lanes[l] = { s.lanes[l] with
      condition := .disabled .driveFault, v := 0, sEff := (dropMissing s).effScale l, limitClip := false, capped := false } := by
    intro hm
    obtain ⟨f, hf⟩ := laneStep_lanes_form s
    rw [hf, commitLanes_missed hm ha]
  refine ⟨fun hm => ?_, fun hm hr hz => ⟨fun h hh => ?_, fun hh => ?_⟩, fun hm hs => ?_, fun hs => ?_⟩
  · rw [missed hm]
    exact ⟨rfl, rfl, rfl, rfl, rfl, rfl⟩
  · rw [laneStep_lanes_run hr hz, commitLanes_stepped hp ha _ hm]
    rw [State.runCandidate, hh]
    exact ⟨rfl, rfl⟩
  · rw [laneStep_lanes_run hr hz, commitLanes_stepped hp ha _ hm]
    rw [State.runCandidate, hh]
    exact ⟨rfl, rfl, rfl⟩
  · rw [laneStep_lanes_stopStep hs, commitLanes_stepped hp ha _ hm]
    exact ⟨rfl, rfl, rfl⟩
  · cases hm : s.missFaults l with
    | true =>
      rw [missed hm]
      exact ⟨rfl, rfl, rfl⟩
    | false =>
      rw [laneStep_lanes_rest hs, commitLanes_stepped hp ha _ hm]
      exact ⟨rfl, rfl, rfl⟩

end Sys2Proof.Machine
end

section
/-! PROOFS. Cause events exactly (O39, R144 to R149): what they make of the Safety Monitor's state, the playback and the
recording, and what they leave. -/

namespace Sys2Proof.Machine

open Sys2Proof

/-! ### What a stop leaves -/

/-- Of a port only its events can change. -/
def Told (q r : StationPort) : Prop := r = { q with events := r.events, eventsLost := r.eventsLost }

theorem Told.refl (q : StationPort) : Told q q := rfl

theorem Told.trans {q r u : StationPort} (a : Told q r) (b : Told r u) : Told q u := by
  rw [Told, b, a]

theorem told_raiseFor (aud : Port → Bool) (body : EventBody) (s : State) (p : Port) :
    Told s.ports[p] (raiseFor aud body s).ports[p] := raiseFor_portFields aud body s p

/-- What cause events and stops leave alone: all but the take memory, the recording, the playback with its lanes' grants, the
Safety Monitor, the outputs, and the event queues. -/
structure StopFrame (s t : State) : Prop where
  starting : t.starting = s.starting
  tb : t.tb = s.tb
  lanes : t.lanes = s.lanes
  nextArrival : t.nextArrival = s.nextArrival
  lens : t.lens = s.lens
  rig : t.rig = s.rig
  powerLosses : t.powerLosses = s.powerLosses
  pending : t.pending = s.pending
  parked : t.drives.parked = s.drives.parked
  port : ∀ p : Port, Told s.ports[p] t.ports[p]

namespace StopFrame

theorem refl (s : State) : StopFrame s s := ⟨rfl, rfl, rfl, rfl, rfl, rfl, rfl, rfl, rfl, fun _ => .refl _⟩

theorem trans {s t u : State} (a : StopFrame s t) (b : StopFrame t u) : StopFrame s u :=
  ⟨b.starting.trans a.starting, b.tb.trans a.tb, b.lanes.trans a.lanes, b.nextArrival.trans a.nextArrival,
    b.lens.trans a.lens, b.rig.trans a.rig, b.powerLosses.trans a.powerLosses, b.pending.trans a.pending,
    b.parked.trans a.parked, fun p => (a.port p).trans (b.port p)⟩

theorem raise {s t : State} (h : StopFrame s t) (aud : Port → Bool) (body : EventBody) : StopFrame s (raiseFor aud body t) :=
  h.trans ⟨rfl, rfl, rfl, rfl, rfl, rfl, rfl, rfl, rfl, told_raiseFor aud body t⟩

end StopFrame

theorem keepsEvents_stopFrame (s : State) : KeepsEvents (StopFrame s) := ⟨fun _ _ _ h => h.raise _ _⟩

theorem keepsTakes_stopFrame (s : State) : KeepsTakes (StopFrame s) where
  toKeepsEvents := keepsEvents_stopFrame s
  mem _ _ _ h := { h with }
  recorder _ _ _ h := { h with }

theorem keepsPlay_stopFrame (s : State) : KeepsPlay (StopFrame s) where
  toKeepsEvents := keepsEvents_stopFrame s
  play _ _ _ h := { h with }
  leave l why t h := by
    unfold leaveLane
    split
    · exact h
    · dsimp only
      have left : StopFrame s (t.setGrant l fun _ => chooseNext t.lens l t.lanes[l].p t.grants[l]) := { h with }
      split
      · exact (left.raise _ _).raise _ _
      · exact (left.raise _ _).raise _ _
      · exact left.raise _ _
  contexts _ h := { h with }
  dropPlay _ h := { h with }

theorem keepsStops_stopFrame (s : State) : KeepsStops (StopFrame s) where
  toKeepsEvents := keepsEvents_stopFrame s
  recordEnds _ _ h := (keepsTakes_stopFrame s).recordEnds _ h
  endPlayback _ _ h := (keepsPlay_stopFrame s).endPlayback _ h
  safety _ _ _ h := { h with }
  power on t h := by
    unfold setPower
    split
    · exact h
    · exact StopFrame.raise (t := refreshOutputs (t.setSafety { t.safety with drivePower := on })) { h with } _ _

/-! ### The ends of a recording and of a playback leave the stops -/

theorem keepsTakes_stops (x : Safety) (y : DrivePort) : KeepsTakes (fun s => s.safety = x ∧ s.drives = y) where
  raise _ _ _ h := h
  mem _ _ _ h := h
  recorder _ _ _ h := h

theorem keepsPlay_stops (x : Safety) (y : DrivePort) : KeepsPlay (fun s => s.safety = x ∧ s.drives = y) where
  raise _ _ _ h := h
  play _ _ _ h := h
  leave l why s h := by
    cases hh : s.grants[l].holder with
    | none => rwa [leaveLane_none hh]
    | some hold => exact ⟨(leaveLane_frame hh why).safety.trans h.1, (leaveLane_frame hh why).drives.trans h.2⟩
  contexts _ h := h
  dropPlay _ h := h

theorem recordEnds_stops (o : RecOutcome) (s : State) :
    (recordEnds o s).safety = s.safety ∧ (recordEnds o s).drives = s.drives :=
  (keepsTakes_stops _ _).recordEnds o ⟨rfl, rfl⟩

theorem endPlayback_stops (o : PlayOutcome) (s : State) :
    (endPlayback o s).safety = s.safety ∧ (endPlayback o s).drives = s.drives :=
  (keepsPlay_stops _ _).endPlayback o ⟨rfl, rfl⟩

theorem stopEntry_safety (s : State) : (stopEntry s).safety = s.safety :=
  (endPlayback_stops _ _).1.trans (recordEnds_stops _ _).1

theorem stopEntry_drives (s : State) : (stopEntry s).drives = s.drives :=
  (endPlayback_stops _ _).2.trans (recordEnds_stops _ _).2

/-! ### The playback and the recording after a stop entry (R146) -/

theorem endPlayback_idle (o : PlayOutcome) (s : State) : (endPlayback o s).play.state = .idle := by
  unfold endPlayback
  split
  · assumption
  · rfl

theorem endPlayback_of_idle (o : PlayOutcome) {s : State} (h : s.play.state = .idle) : endPlayback o s = s := by
  unfold endPlayback
  rw [if_pos h]

/-- What the ends of recordings leave of the grants, the lanes and the playback. -/
theorem keepsTakes_grants (g : Vector Grant 12) (u : Playback) : KeepsTakes (fun s => s.grants = g ∧ s.play = u) where
  raise _ _ _ h := h
  mem _ _ _ h := h
  recorder _ _ _ h := h

theorem recordEnds_grants (o : RecOutcome) (s : State) :
    (recordEnds o s).grants = s.grants ∧ (recordEnds o s).play = s.play :=
  (keepsTakes_grants _ _).recordEnds o ⟨rfl, rfl⟩

/-- A playback's end leaves the Recorder. -/
theorem keepsPlay_recorder (r : Recorder) : KeepsPlay (fun s => s.recorder = r) where
  raise _ _ _ h := h
  play _ _ _ h := h
  leave l why s h := by
    cases hh : s.grants[l].holder with
    | none => rwa [leaveLane_none hh]
    | some hold => exact (leaveLane_frame hh why).recorder.trans h
  contexts _ h := h
  dropPlay _ h := h

theorem drainFinish_draining {s : State} (h : s.recorder.state = .draining) :
    (drainFinish s).recorder.state = .idle ∨ (drainFinish s).recorder.state = .draining := by
  unfold drainFinish
  split
  · split
    · exact .inr h
    · dsimp only
      split <;> exact .inl rfl
  · exact .inr h

/-- R111: an ending cause leaves the Recorder idle or draining. -/
theorem recordEnds_state (o : RecOutcome) (s : State) :
    (recordEnds o s).recorder.state = .idle ∨ (recordEnds o s).recorder.state = .draining := by
  unfold recordEnds
  split
  · next h => exact .inl h
  · exact .inl rfl
  · exact drainFinish_draining rfl
  · next h => exact .inr h

theorem stopEntry_play (s : State) : (stopEntry s).play.state = .idle := endPlayback_idle _ _

theorem stopEntry_recorder (s : State) :
    (stopEntry s).recorder.state = .idle ∨ (stopEntry s).recorder.state = .draining := by
  rw [stopEntry, (keepsPlay_recorder _).endPlayback .stopped rfl]
  exact recordEnds_state _ _

theorem stopEntry_grants {s : State} (h : s.play.state = .idle) : (stopEntry s).grants = s.grants := by
  obtain ⟨hg, hp⟩ := recordEnds_grants .stopped s
  rw [stopEntry, endPlayback_of_idle _ (by rw [hp, h]), hg]

/-! ### The cause set (R144) -/

/-- The causes after one cause event at a tick. -/
def withCause (f t : Nat) (cs : List Cause) (k : CauseKind) : List Cause :=
  if cs.any fun c => c.kind = k then cs else cs ++ [{ kind := k, f := f, t := t }]

/-- The causes after cause events at a tick. -/
def causesAfter (f t : Nat) (cs : List Cause) (ks : List CauseKind) : List Cause := ks.foldl (withCause f t) cs

theorem SameButQueues.setSafety {s t : State} (h : SameButQueues s t) (x : Safety) :
    SameButQueues (s.setSafety x) (t.setSafety x) := { h with safety := rfl }

theorem addCauses_frame (x : StopState) (ks : List CauseKind) (s : State) :
    SameButQueues (s.setSafety { s.safety with causes := causesAfter s.tb.f s.tb.t s.safety.causes ks })
      (forEach ks (addCause x) s) := by
  induction ks generalizing s with
  | nil => exact .refl s
  | cons k ks ih =>
    have first := addCause_frame x k s
    have htb : (addCause x k s).tb = s.tb := by rw [first.tb]; split <;> rfl
    have hs : (addCause x k s).safety =
        { s.safety with causes := withCause s.tb.f s.tb.t s.safety.causes k } := by
      rw [first.safety]
      unfold State.hasCause withCause
      split <;> rfl
    have rest := ih (addCause x k s)
    rw [htb, hs] at rest
    refine SameButQueues.trans ?_ rest
    have moved := first.setSafety { s.safety with causes := causesAfter s.tb.f s.tb.t s.safety.causes (k :: ks) }
    split at moved <;> exact moved

/-- A cause in the set stays in it. -/
theorem causesAfter_mono {f t : Nat} {cs : List Cause} {c : Cause} (ks : List CauseKind) (h : c ∈ cs) :
    c ∈ causesAfter f t cs ks := by
  induction ks generalizing cs with
  | nil => exact h
  | cons k ks ih =>
    refine ih ?_
    unfold withCause
    split
    · exact h
    · exact List.mem_append_left _ h

theorem causesAfter_nodup {f t : Nat} {cs : List Cause} (ks : List CauseKind) (h : (cs.map fun c => c.kind).Nodup) :
    ((causesAfter f t cs ks).map fun c => c.kind).Nodup := by
  induction ks generalizing cs with
  | nil => exact h
  | cons k ks ih =>
    refine ih ?_
    unfold withCause
    split
    · exact h
    · next hn =>
      simp only [List.any_eq_true, decide_eq_true_eq, not_exists, not_and] at hn
      rw [List.map_append, List.nodup_append]
      refine ⟨h, by simp, fun a ha b hb => ?_⟩
      obtain ⟨c, hc, rfl⟩ := List.mem_map.mp ha
      obtain rfl : b = k := by simpa using hb
      exact hn c hc

/-- Each kind of the events is in the set afterwards. -/
theorem causesAfter_has {f t : Nat} {k : CauseKind} (cs : List Cause) {ks : List CauseKind} (h : k ∈ ks) :
    ∃ c ∈ causesAfter f t cs ks, c.kind = k := by
  induction ks generalizing cs with
  | nil => cases h
  | cons j ks ih =>
    rcases List.mem_cons.mp h with rfl | h
    · have now : ∃ c ∈ withCause f t cs k, c.kind = k := by
        unfold withCause
        split
        · next hn => simpa using hn
        · exact ⟨_, List.mem_append_right _ (List.mem_singleton.mpr rfl), rfl⟩
      obtain ⟨c, hc, hk⟩ := now
      exact ⟨c, causesAfter_mono ks hc, hk⟩
    · exact ih _ h

theorem causesAfter_ne_nil {f t : Nat} (cs : List Cause) {ks : List CauseKind} (h : ks ≠ []) : causesAfter f t cs ks ≠ [] := by
  obtain ⟨k, ks, rfl⟩ := List.exists_cons_of_ne_nil h
  obtain ⟨c, hc, -⟩ := causesAfter_has (f := f) (t := t) cs (List.mem_cons_self (a := k) (l := ks))
  exact List.ne_nil_of_mem hc

/-! ### Cause events (R145) -/

theorem causeEvents_nil (s : State) : causeEvents [] s = s := rfl

theorem setPower_safety (on : Bool) (s : State) : (setPower on s).safety = { s.safety with drivePower := on } :=
  (setPower_keeps on s).2.2.2.2.2.2.2

/-- The Safety Monitor's state after cause events. -/
def safetyAfter (f t : Nat) (ks : List CauseKind) (x : Safety) : Safety :=
  let causes := causesAfter f t x.causes ks
  { x with
    causes := causes
    stop := stopAfterCause x.stop
    release := match x.stop with
      | .releasing => none
      | _ => x.release
    drivePower := match x.stop with
      | .run => x.drivePower
      | .stopping => x.drivePower
      | .stopped => x.drivePower && !ks.any CauseKind.isOff
      | .releasing => x.drivePower && !causes.any fun c => CauseKind.isOff c.kind }

section SafetyAfter

variable {x : Safety} (f t : Nat) (ks : List CauseKind)

theorem safetyAfter_run (h : x.stop = .run) :
    safetyAfter f t ks x = { x with causes := causesAfter f t x.causes ks, stop := .stopping } := by
  simp only [safetyAfter, h, stopAfterCause]

theorem safetyAfter_stopping (h : x.stop = .stopping) :
    safetyAfter f t ks x = { x with causes := causesAfter f t x.causes ks } := by
  have same : stopAfterCause x.stop = x.stop := by rw [h]; rfl
  simp only [safetyAfter, same]
  simp only [h]

theorem safetyAfter_stopped (h : x.stop = .stopped) : safetyAfter f t ks x =
    { x with causes := causesAfter f t x.causes ks, drivePower := x.drivePower && !ks.any CauseKind.isOff } := by
  have same : stopAfterCause x.stop = x.stop := by rw [h]; rfl
  simp only [safetyAfter, same]
  simp only [h]

theorem safetyAfter_releasing (h : x.stop = .releasing) : safetyAfter f t ks x =
    { x with
      causes := causesAfter f t x.causes ks
      stop := .stopped
      release := none
      drivePower := x.drivePower && !(causesAfter f t x.causes ks).any fun c => CauseKind.isOff c.kind } := by
  simp only [safetyAfter, h, stopAfterCause]

end SafetyAfter

theorem causeEvents_safety {ks : List CauseKind} (h : ks ≠ []) (s : State) :
    (causeEvents ks s).safety = safetyAfter s.tb.f s.tb.t ks s.safety := by
  have added := (addCauses_frame (stopAfterCause s.safety.stop) ks s).safety
  rw [State.setSafety_safety] at added
  have hk : ¬ ks.isEmpty = true := by rwa [List.isEmpty_iff]
  unfold causeEvents
  rw [if_neg hk]
  dsimp only
  split
  · next hs =>
    rw [stopEntry_safety, (changeStop_frame _ _ _ _ _).safety, State.setSafety_safety, added, safetyAfter_run _ _ _ hs]
  · next hs => rw [added, safetyAfter_stopping _ _ _ hs]
  · next hs =>
    rw [safetyAfter_stopped _ _ _ hs]
    split
    · next ho => rw [setPower_safety, added, ho, Bool.not_true, Bool.and_false]
    · next ho => rw [added, Bool.not_eq_true _ |>.mp ho, Bool.not_false, Bool.and_true]
  · next hs =>
    have cancelled := (cancelRelease_frame .newCause (forEach ks (addCause (stopAfterCause s.safety.stop)) s)).safety
    rw [State.setSafety_safety, added] at cancelled
    rw [safetyAfter_releasing _ _ _ hs]
    split
    · next ho =>
      rw [cancelled] at ho
      rw [setPower_safety, cancelled, ho, Bool.not_true, Bool.and_false]
    · next ho =>
      rw [cancelled] at ho
      rw [cancelled, Bool.not_eq_true _ |>.mp ho, Bool.not_false, Bool.and_true]

theorem causeEvents_frame (ks : List CauseKind) (s : State) : StopFrame s (causeEvents ks s) :=
  (keepsStops_stopFrame s).causeEvents ks (.refl s)

/-- Outside RUN a cause event ends nothing: it touches the Safety Monitor, the outputs and the event queues alone. -/
theorem causeEvents_outside_run {s : State} (h : s.safety.stop ≠ .run) (ks : List CauseKind) :
    (causeEvents ks s).grants = s.grants ∧ (causeEvents ks s).play = s.play ∧ (causeEvents ks s).mem = s.mem ∧
      (causeEvents ks s).recorder = s.recorder := by
  have added := addCauses_frame (stopAfterCause s.safety.stop) ks s
  have power : ∀ (t : State), t.grants = s.grants ∧ t.play = s.play ∧ t.mem = s.mem ∧ t.recorder = s.recorder →
      (setPower false t).grants = s.grants ∧ (setPower false t).play = s.play ∧ (setPower false t).mem = s.mem ∧
        (setPower false t).recorder = s.recorder := by
    intro t ⟨hg, hp, hm, hr⟩
    obtain ⟨-, hg', hm', hp', hr', -⟩ := setPower_keeps false t
    exact ⟨hg'.trans hg, hp'.trans hp, hm'.trans hm, hr'.trans hr⟩
  have kept : ∀ t, SameButQueues (s.setSafety { s.safety with causes := causesAfter s.tb.f s.tb.t s.safety.causes ks }) t →
      t.grants = s.grants ∧ t.play = s.play ∧ t.mem = s.mem ∧ t.recorder = s.recorder :=
    fun t ht => ⟨ht.grants, ht.play, ht.mem, ht.recorder⟩
  have cancelled : ∀ t why, t.grants = s.grants ∧ t.play = s.play ∧ t.mem = s.mem ∧ t.recorder = s.recorder →
      (cancelRelease why t).grants = s.grants ∧ (cancelRelease why t).play = s.play ∧ (cancelRelease why t).mem = s.mem ∧
        (cancelRelease why t).recorder = s.recorder := fun t why ht => ht
  unfold causeEvents
  split
  · exact ⟨rfl, rfl, rfl, rfl⟩
  · dsimp only
    split
    · next hr => exact absurd hr h
    · exact kept _ added
    · split
      · exact power _ (kept _ added)
      · exact kept _ added
    · split
      · exact power _ (cancelled _ _ (kept _ added))
      · exact cancelled _ _ (kept _ added)

/-- R145, R146: a cause event in RUN ends the playback and the recording. -/
theorem causeEvents_in_run {s : State} (h : s.safety.stop = .run) {ks : List CauseKind} (hk : ks ≠ []) :
    (causeEvents ks s).play.state = .idle ∧
      ((causeEvents ks s).recorder.state = .idle ∨ (causeEvents ks s).recorder.state = .draining) ∧
      (s.play.state = .idle → (causeEvents ks s).grants = s.grants) := by
  have hk' : ¬ ks.isEmpty = true := by rwa [List.isEmpty_iff]
  unfold causeEvents
  rw [if_neg hk', h]
  dsimp only
  refine ⟨stopEntry_play _, stopEntry_recorder _, fun hp => ?_⟩
  have added := addCauses_frame (stopAfterCause .run) ks s
  have changed := changeStop_frame .stopping none none none (forEach ks (addCause (stopAfterCause .run)) s)
  rw [stopEntry_grants (by rw [changed.play, State.setSafety_play, added.play]; exact hp), changed.grants]
  exact added.grants

end Sys2Proof.Machine
end

section
/-! PROOFS. Stops, lines and the release window (O39 to O41). -/

namespace Sys2Proof.Machine

open Sys2Proof

/-! ### The end of a command, with and without an answer -/

/-- What the end of a command and the answer to a request leave alone, but for the array's work. -/
structure Ended (s t : State) : Prop where
  starting : t.starting = s.starting
  tb : t.tb = s.tb
  lanes : t.lanes = s.lanes
  grants : t.grants = s.grants
  nextArrival : t.nextArrival = s.nextArrival
  play : t.play = s.play
  safety : t.safety = s.safety
  drives : t.drives = s.drives
  record : t.rig.record = s.rig.record
  freezePending : t.rig.freezePending = s.rig.freezePending
  active : t.lens.active = s.lens.active
  profile : ∀ k : ProfileNo, t.lens.slots[k].profile = s.lens.slots[k].profile

theorem ended_settle (s : State) : Ended s (settle s) :=
  have h := endWork_settle s
  { starting := h.starting, tb := h.tb, lanes := h.lanes, grants := h.grants, nextArrival := h.nextArrival, play := h.play,
    safety := h.safety, drives := h.drives, record := by rw [h.rig], freezePending := by rw [h.rig], active := h.active,
    profile := h.profile }

theorem ended_replied (rx : Rx) (a : Answer) (s : State) : Ended s (replied rx a s) :=
  have f := pushReply_frame rx.port (a.reply rx.tag .ordinary) s
  have h := ended_settle (pushReply rx.port (a.reply rx.tag .ordinary) s)
  { starting := h.starting.trans f.starting, tb := h.tb.trans f.tb, lanes := h.lanes.trans f.lanes,
    grants := h.grants.trans f.grants, nextArrival := h.nextArrival.trans f.nextArrival, play := h.play.trans f.play,
    safety := h.safety.trans f.safety, drives := h.drives.trans f.drives, record := h.record.trans (by rw [f.rig]),
    freezePending := h.freezePending.trans (by rw [f.rig]), active := h.active.trans (by rw [f.lens]),
    profile := fun k => (h.profile k).trans (by rw [f.lens]) }

theorem settle_replies (s : State) (p : Port) : (settle s).ports[p].replies = s.ports[p].replies := by
  rw [((endWork_settle s).port p).same]

theorem replied_replies {rx : Rx} {s : State} (h : s.isActive rx.port = true) (a : Answer) :
    (replied rx a s).ports[rx.port].replies = s.ports[rx.port].replies ++ [a.reply rx.tag .ordinary] := by
  rw [replied, settle_replies, pushReply_same h]

/-- An answer leaves the Recorder to the end of the command. -/
theorem replied_recState (rx : Rx) (a : Answer) (s : State) : (replied rx a s).recorder.state = s.recorder.state ∨
    (replied rx a s).recorder.state = .idle ∨ (replied rx a s).recorder.state = .draining := by
  have h := (endWork_settle (pushReply rx.port (a.reply rx.tag .ordinary) s)).recState
  rwa [(pushReply_frame _ _ _).recorder] at h

theorem Told.isActive {s t : State} {p : Port} (h : Told s.ports[p] t.ports[p]) : t.isActive p = s.isActive p := by
  rw [State.isActive, h]
  rfl

/-! ### One cause (R144 to R149) -/

theorem withCause_hasCause (s : State) (k : CauseKind) : withCause s.tb.f s.tb.t s.safety.causes k =
    if s.hasCause k then s.safety.causes else s.safety.causes ++ [{ kind := k, f := s.tb.f, t := s.tb.t }] := rfl

/-- What a cause event leads to, whatever line it came by: s is the state before it, and t the state after the end of the
command. -/
structure CauseTaken (k : CauseKind) (line : Bool) (s t : State) : Prop where
  lanes : t.lanes = s.lanes
  stop : t.safety.stop = (match s.safety.stop with
        | .run => .stopping
        | .stopping => .stopping
        | .stopped => .stopped
        | .releasing => .stopped)
  causes : t.safety.causes = (if s.hasCause k then s.safety.causes
        else s.safety.causes ++ [{ kind := k, f := s.tb.f, t := s.tb.t }])
  stopLine : t.safety.stopLine = (s.safety.stopLine || line)
  moving : s.safety.stop = .run ∨ s.safety.stop = .stopping → t.safety.drivePower = s.safety.drivePower
  stopped : s.safety.stop = .stopped → t.safety.drivePower = (s.safety.drivePower && !k.isOff)
  releasing : s.safety.stop = .releasing → t.safety.release = none ∧ t.safety.drivePower =
        (s.safety.drivePower && !t.safety.causes.any fun c => CauseKind.isOff c.kind)
  ends : s.safety.stop = .run → t.play.state = .idle ∧ (t.recorder.state = .idle ∨ t.recorder.state = .draining)
  play : s.safety.stop ≠ .run → t.play = s.play
  grants : s.safety.stop ≠ .run ∨ s.play.state = .idle → t.grants = s.grants

/-- A cause event on a state that differs from s in its STOP line, and what ends the command. -/
theorem causeTaken {k : CauseKind} {s u t : State} {line : Bool} (hs : u.safety = { s.safety with stopLine := s.safety.stopLine || line })
    (htb : u.tb = s.tb) (hl : u.lanes = s.lanes) (hg : u.grants = s.grants) (hp : u.play = s.play)
    (h : Ended (causeEvents [k] u) t) (hr : t.recorder.state = (causeEvents [k] u).recorder.state ∨
      t.recorder.state = .idle ∨ t.recorder.state = .draining) : CauseTaken k line s t := by
  have safety : t.safety = safetyAfter u.tb.f u.tb.t [k] u.safety := h.safety.trans (causeEvents_safety (by simp) u)
  have stop : u.safety.stop = s.safety.stop := by rw [hs]
  have power : u.safety.drivePower = s.safety.drivePower := by rw [hs]
  constructor
  case lanes => rw [h.lanes, causeEvents_lanes, hl]
  case stop =>
    rw [safety]
    simp only [safetyAfter, stop]
    cases s.safety.stop <;> rfl
  case causes =>
    rw [safety]
    simp only [safetyAfter, htb, hs]
    exact withCause_hasCause s k
  case stopLine =>
    rw [safety]
    simp only [safetyAfter, hs]
  case moving =>
    intro hm
    rw [safety]
    rcases hm with hm | hm <;> simp only [safetyAfter, stop, hm, power]
  case stopped =>
    intro hm
    rw [safety]
    simp only [safetyAfter, stop, hm, power, List.any_cons, List.any_nil, Bool.or_false]
  case releasing =>
    intro hm
    rw [safety]
    simp only [safetyAfter, stop, hm, power, and_self]
  case ends =>
    intro hm
    obtain ⟨hplay, hrec, -⟩ := causeEvents_in_run (stop.trans hm) (ks := [k]) (by simp)
    refine ⟨by rw [h.play]; exact hplay, ?_⟩
    rcases hr with hr | hr
    · rw [hr]; exact hrec
    · exact hr
  case play =>
    intro hm
    rw [h.play, (causeEvents_outside_run (by rwa [stop]) [k]).2.1, hp]
  case grants =>
    intro hm
    rw [h.grants]
    by_cases hrun : s.safety.stop = .run
    · obtain ⟨-, -, hgr⟩ := causeEvents_in_run (stop.trans hrun) (ks := [k]) (by simp)
      rw [hgr (by rw [hp]; exact hm.resolve_left (not_not_intro hrun)), hg]
    · rw [(causeEvents_outside_run (by rwa [stop]) [k]).1, hg]

theorem exec_stopLineAssert (s : State) : exec .stopLineAssert s =
    .next (settle (causeEvents [.stopLine] (s.setSafety { s.safety with stopLine := true }))) := rfl

theorem exec_stop {rx : Rx} {s : State} (h : Takes rx s) : exec (.stop rx (.fields ())) s =
    .next (replied rx Answer.done (causeEvents [.stationStop rx.port] (noteValid rx s))) :=
  congrArg Host.Outcome.next (takeRequest_answered (judge := judgeStop rx.port) h rfl)

/-- Settles O39: a cause event, by the line and by a station. -/
theorem causeStopsTheMotion : Obligations.CauseStopsTheMotion := by
  unfold Obligations.CauseStopsTheMotion
  intro c rx k s hc
  have taken : ∃ t line, exec c s = .next t ∧ CauseTaken k line s t ∧ line = decide (k = .stopLine) ∧
      k.isOff = decide (k = .stopLine) ∧ (c = .stop rx (.fields ()) →
        t.ports[rx.port].replies = s.ports[rx.port].replies ++ [Answer.done.reply rx.tag .ordinary]) := by
    rcases hc with ⟨rfl, rfl⟩ | ⟨rfl, rfl, ht⟩
    · refine ⟨_, true, exec_stopLineAssert s, ?_, by decide, by decide, fun h => by cases h⟩
      exact causeTaken (u := s.setSafety { s.safety with stopLine := true }) (by rw [Bool.or_true]; rfl) rfl rfl rfl rfl
        (ended_settle _) (endWork_settle _).recState
    · refine ⟨_, false, exec_stop ht, ?_, by simp, by simp [CauseKind.isOff], fun _ => ?_⟩
      · exact causeTaken (u := noteValid rx s) (by rw [Bool.or_false]; rfl) rfl rfl rfl rfl (ended_replied _ _ _) (replied_recState _ _ _)
      · have told := (causeEvents_frame [.stationStop rx.port] (noteValid rx s)).port rx.port
        rw [replied_replies (by rw [told.isActive, noteValid_isActive]; exact ht.1), told]
        exact congrArg (· ++ _) (noteValid_replies rx s rx.port)
  obtain ⟨t, line, ht, h, rfl, hoff, hreply⟩ := taken
  refine ⟨t, ht, h.lanes, h.stop, h.causes, h.stopLine, h.moving, fun hs => ?_, h.releasing, h.ends, h.play, h.grants, hreply⟩
  rw [h.stopped hs, hoff, decide_not]

end Sys2Proof.Machine
end

section
/-! PROOFS. The lines (O40, R90, R143, R147) and the release window (O41, R151, R154). -/

namespace Sys2Proof.Machine

open Sys2Proof

/-! ### The least scale of two lists (R9) -/

theorem minScale_eq {m : Nat} {xs : List Nat} (hf : m ≤ fullScale) (hl : ∀ x ∈ xs, m ≤ x) (hm : m = fullScale ∨ m ∈ xs) :
    minScale xs = m := by
  obtain ⟨full, least⟩ := minScale_le xs
  refine le_antisymm ?_ ((minScale_mem xs).elim (fun h => h ▸ hf) (hl _))
  rcases hm with rfl | hm
  · exact full
  · exact least m hm

theorem minScale_congr {xs ys : List Nat} (h : ∀ x, x ∈ ys ↔ x ∈ xs) : minScale ys = minScale xs :=
  minScale_eq (minScale_le xs).1 (fun x hx => (minScale_le xs).2 x ((h x).mp hx))
    ((minScale_mem xs).imp_right fun hm => (h _).mpr hm)

/-- One more term. -/
theorem minScale_insert {xs ys : List Nat} {c : Nat} (h : ∀ x, x ∈ ys ↔ x ∈ xs ∨ x = c) :
    minScale ys = min (minScale xs) c := by
  refine minScale_eq ((Nat.min_le_left _ _).trans (minScale_le xs).1) (fun x hx => ?_) ?_
  · rcases (h x).mp hx with hx | rfl
    · exact (Nat.min_le_left _ _).trans ((minScale_le xs).2 x hx)
    · exact Nat.min_le_right _ _
  · rcases Nat.le_total (minScale xs) c with hc | hc
    · rw [Nat.min_eq_left hc]
      exact (minScale_mem xs).imp_right fun hm => (h _).mpr (.inl hm)
    · rw [Nat.min_eq_right hc]
      exact .inr ((h c).mpr (.inr rfl))

/-! ### Presence lines (R143) -/

section Presence

variable (i : Fin 4) (s : State) (l : Lane)

/-- The terms of the lines other than i. -/
def OtherPresence (x : Nat) : Prop :=
  ∃ j : Fin 4, j ≠ i ∧ s.safety.presence[j].asserted = true ∧ LaneSet.has s.safety.presence[j].lanes l = true ∧
    x = s.safety.presence[j].scale

/-- The line i adds its scale to the terms of a lane that its entry covers while it is asserted. -/
theorem mem_presenceTerms_line (x : Nat) : x ∈ s.presenceTerms l ↔ OtherPresence i s l x ∨
    (s.safety.presence[i].asserted = true ∧ LaneSet.has s.safety.presence[i].lanes l = true ∧
      x = s.safety.presence[i].scale) := by
  rw [mem_presenceTerms]
  constructor
  · rintro ⟨j, hj⟩
    by_cases e : j = i
    · subst e; exact .inr hj
    · exact .inl ⟨j, e, hj⟩
  · rintro (⟨j, -, hj⟩ | hi)
    · exact ⟨j, hj⟩
    · exact ⟨i, hi⟩

theorem setPresence_same (on : Bool) :
    (setPresence i on s).safety.presence[i] = { s.safety.presence[i] with asserted := on } := updAt_same _ _ _

theorem otherPresence_setPresence (on : Bool) (x : Nat) : OtherPresence i (setPresence i on s) l x ↔ OtherPresence i s l x := by
  have same : ∀ j : Fin 4, j ≠ i → (setPresence i on s).safety.presence[j] = s.safety.presence[j] :=
    fun j hj => updAt_other (Ne.symm hj)
  unfold OtherPresence
  refine exists_congr fun j => and_congr_right fun hj => ?_
  rw [same j hj]

theorem mem_scaleTerms_setPresence (on : Bool) (x : Nat) : x ∈ (setPresence i on s).scaleTerms l ↔
    (x ∈ s.trimTerm l ∨ OtherPresence i s l x ∨ x ∈ s.zoneTerms l ∨ x ∈ s.commissioningTerm) ∨
      (on = true ∧ LaneSet.has s.safety.presence[i].lanes l = true ∧ x = s.safety.presence[i].scale) := by
  have line := mem_presenceTerms_line i (setPresence i on s) l x
  rw [setPresence_same, otherPresence_setPresence] at line
  have rest : (setPresence i on s).trimTerm l = s.trimTerm l ∧ (setPresence i on s).zoneTerms l = s.zoneTerms l ∧
      (setPresence i on s).commissioningTerm = s.commissioningTerm := ⟨rfl, rfl, rfl⟩
  rw [State.scaleTerms, List.mem_append, List.mem_append, List.mem_append, line, rest.1, rest.2.1, rest.2.2]
  tauto

theorem setPresence_self : setPresence i s.safety.presence[i].asserted s = s := by
  have same : updAt s.safety.presence i (fun e => { e with asserted := s.safety.presence[i].asserted }) = s.safety.presence := by
    refine Vector.ext fun k hk => ?_
    rw [updAt_getNat]
    split
    · next e => subst e; rfl
    · rfl
  rw [setPresence, same]
  rfl

/-- R143: an asserted line's scale is one of the terms of a lane that it covers, and is none of the others'. -/
theorem effScale_asserted (h : LaneSet.has s.safety.presence[i].lanes l = true) :
    (setPresence i true s).effScale l = min ((setPresence i false s).effScale l) s.safety.presence[i].scale := by
  refine minScale_insert fun x => ?_
  have on := mem_scaleTerms_setPresence i s l true x
  have off := mem_scaleTerms_setPresence i s l false x
  simp only [h, Bool.false_eq_true, false_and, or_false, true_and] at on off
  exact on.trans (or_congr_left off.symm)

theorem effScale_uncovered (on : Bool) (h : LaneSet.has s.safety.presence[i].lanes l = false) :
    (setPresence i on s).effScale l = s.effScale l := by
  conv_rhs => rw [← setPresence_self i s]
  refine minScale_congr fun x => ?_
  have new := mem_scaleTerms_setPresence i s l on x
  have old := mem_scaleTerms_setPresence i s l s.safety.presence[i].asserted x
  simp only [h, Bool.false_eq_true, false_and, and_false, or_false] at new old
  exact new.trans old.symm

/-- A line asserted again lowers nothing further. -/
theorem effScale_assert (h : LaneSet.has s.safety.presence[i].lanes l = true) :
    (setPresence i true s).effScale l = min (s.effScale l) s.safety.presence[i].scale := by
  have hon := effScale_asserted i s l h
  cases ha : s.safety.presence[i].asserted with
  | true =>
    have self := setPresence_self i s
    rw [ha] at self
    rw [self] at hon ⊢
    rw [hon, Nat.min_assoc, Nat.min_self]
  | false =>
    have self := setPresence_self i s
    rw [ha] at self
    rwa [self] at hon

theorem effScale_deassert (ha : s.safety.presence[i].asserted = true)
    (h : LaneSet.has s.safety.presence[i].lanes l = true) :
    s.effScale l = min ((setPresence i false s).effScale l) s.safety.presence[i].scale := by
  have self := setPresence_self i s
  rw [ha] at self
  conv_lhs => rw [← self]
  exact effScale_asserted i s l h

end Presence

/-! ### The PROTECT line (R90) -/

theorem protectSlot_finished {x : Slot} (hf : x.finished = true) (hd : x.down = true) (closed : Bool) :
    protectSlot closed x = { x with locked := if closed then true else x.openLocked } := by
  rw [protectSlot, hf, hd]
  cases closed <;> rfl

theorem protectSlot_other {x : Slot} (h : x.finished = false ∨ x.down = false) (closed : Bool) : protectSlot closed x = x := by
  rw [protectSlot, if_neg]
  rcases h with h | h <;> simp [h]

/-- Settles O40: each line's own update. -/
theorem lineChanges : Obligations.LineChanges := by
  unfold Obligations.LineChanges
  intro i closed s
  refine ⟨rfl, ⟨setPresence i true s, rfl, rfl, rfl, effScale_assert i s, fun l => effScale_uncovered i s l true⟩,
    ⟨setPresence i false s, rfl, rfl, rfl, fun ha l => effScale_deassert i s l ha, fun l => effScale_uncovered i s l false⟩,
    fun h => ?_, fun h => ?_⟩
  · simp only [exec, execProtectLineChange, if_pos h]
  · refine ⟨s.setMem { s.mem with protectClosed := closed, slots := mapAll s.mem.slots fun _ x => protectSlot closed x }, ?_,
      ?_, ?_, fun n => ⟨fun hf hd => ?_, fun ho => ?_⟩⟩
    · simp only [exec, execProtectLineChange, if_neg h]
    · rw [State.setMem_setMem, State.setMem_same]
    · rw [State.setMem_mem]
    · rw [State.setMem_mem, mapAll_get, protectSlot_finished hf hd]
    · rw [State.setMem_mem, mapAll_get, protectSlot_other ho]

/-! ### The release window (R151, R154) -/

theorem releaseConditions_iff (s : State) : s.releaseConditions = true ↔
    s.safety.stopLine = false ∧ ∀ l : Lane, s.driveFaultLane l = true → s.drives.channels[l].status = .ok := by
  simp only [State.releaseConditions, Bool.and_eq_true, Bool.not_eq_true', List.all_eq_true, allLanes, List.mem_finRange,
    true_imp_iff, Bool.or_eq_true, State.driveOk, decide_eq_true_eq]
  refine and_congr_right fun _ => forall_congr' fun l => ?_
  cases s.driveFaultLane l <;> simp

theorem changeStop_safety (new : StopState) (asker : Option Port) (party : Option Party) (why : Option StopReason) (s : State) :
    (changeStop new asker party why s).safety = { s.safety with stop := new } := (changeStop_frame new asker party why s).safety

theorem exec_releaseAsk {rx : Rx} {r : Role} {s : State} (h : Takes rx s) (hr : s.ports[rx.port].role = some r)
    (hm : r = .motion ∨ r = .arm ∨ r = .lens) {s1 : State} {a : Answer}
    (hj : judgeReleaseAsk rx () (noteValid rx s) = (s1, some a)) :
    exec (.releaseAsk rx (.fields ())) s = .next (replied rx a s1) := by
  refine congrArg Host.Outcome.next (takeRequest_answered (a := ()) h ?_)
  rw [forRoles_in (r := r) (by rw [noteValid_role]; exact hr) (by rcases hm with rfl | rfl | rfl <;> decide)]
  exact hj

/-- R151: an accepted RELEASE ASK opens the window. -/
theorem openWindow_frame (rx : Rx) (s : State) :
    SameButQueues (s.setSafety { s.safety with
      stop := .releasing, release := some { asker := rx.port, closes := rx.time + 10000000 } }) (openWindow rx s) :=
  changeStop_frame .releasing (some rx.port) none none
    (s.setSafety { s.safety with release := some { asker := rx.port, closes := rx.time + 10000000 } })

/-- R154: an expiry with no window open, or before it closes, is no event. -/
theorem windowExpiry_none {time : Nat} {s : State} (h : ∀ r, s.safety.release = some r → s.safety.stop = .releasing →
    time < r.closes) : windowExpiry time s = s := by
  unfold windowExpiry
  split
  · next r hr =>
    rw [if_neg]
    rintro ⟨hs, hc⟩
    exact absurd (h r hr hs) (by omega)
  · rfl

theorem exec_windowExpiry_none {time : Nat} {s : State} (h : ∀ r, s.safety.release = some r → s.safety.stop = .releasing →
    time < r.closes) : exec (.releaseWindowExpiry time) s = .next (settle s) := by
  simp only [exec, execReleaseWindowExpiry, windowExpiry_none h]

/-- Settles O41: the judgement of RELEASE ASK by its conditions, and the window's end by its time. -/
theorem releaseWindowHolds : Obligations.ReleaseWindow := by
  unfold Obligations.ReleaseWindow
  refine ⟨fun rx r s h hr hm => ⟨fun ⟨hs, hline, hok⟩ => ?_, fun hn => exec_releaseAsk h hr hm ?_⟩,
    fun time s => ⟨fun hn => exec_windowExpiry_none fun r hr hs => ?_, fun r hr => ⟨fun hs hc => ?_, fun hc =>
      exec_windowExpiry_none fun r' hr' _ => ?_⟩⟩⟩
  · have hcond : (noteValid rx s).releaseConditions = true := (releaseConditions_iff s).mpr ⟨hline, hok⟩
    have opened := openWindow_frame rx (noteValid rx s)
    have told := (keepsStops_stopFrame (noteValid rx s)).openWindow rx (.refl _)
    have e := ended_replied rx Answer.accepted (openWindow rx (noteValid rx s))
    refine ⟨_, exec_releaseAsk h hr hm (a := Answer.accepted) (s1 := openWindow rx (noteValid rx s)) ?_, ?_, ?_, ?_, ?_⟩
    · have hs' : (noteValid rx s).safety.stop = .stopped := hs
      simp only [judgeReleaseAsk, hs', hcond, ne_eq, not_true_eq_false, Bool.not_true, Bool.false_eq_true, or_self, if_false,
        accept]
    · exact e.lanes.trans opened.lanes
    · exact e.grants.trans opened.grants
    · exact e.safety.trans opened.safety
    · rw [replied_replies (by rw [(told.port rx.port).isActive, noteValid_isActive]; exact h.1), told.port rx.port]
      exact congrArg (· ++ _) (noteValid_replies rx s rx.port)
  · have bad : (noteValid rx s).safety.stop ≠ .stopped ∨ (!(noteValid rx s).releaseConditions) = true := by
      rcases hn with hn | hn | ⟨l, hl, hk⟩
      · exact .inl hn
      · refine .inr ?_
        rw [Bool.not_eq_true', Bool.eq_false_iff, ne_eq, releaseConditions_iff]
        rintro ⟨hline, -⟩
        exact absurd (hline.symm.trans hn) (by decide)
      · refine .inr ?_
        rw [Bool.not_eq_true', Bool.eq_false_iff, ne_eq, releaseConditions_iff]
        rintro ⟨-, hok⟩
        exact hk (hok l hl)
    rw [judgeReleaseAsk, if_pos bad]
    rfl
  · rcases hn with hn | hn
    · rw [hn] at hr; cases hr
    · exact absurd hs hn
  · have e := ended_settle (cancelRelease .releaseExpired s)
    have f := cancelRelease_frame .releaseExpired s
    refine ⟨settle (cancelRelease .releaseExpired s), ?_, e.safety.trans f.safety, e.lanes.trans f.lanes, e.grants.trans f.grants⟩
    simp only [exec, execReleaseWindowExpiry, windowExpiry, hr, hs, hc, and_self, if_true]
  · rw [hr] at hr'
    cases hr'
    exact hc

end Sys2Proof.Machine
end

section
/-! PROOFS. The plain requests (O51), and the settings of lanes and clock (O54, R21, R22, R35). -/

namespace Sys2Proof.Machine

open Sys2Proof

/-! ### PING, QUERY, LEAVE, TAKE STATUS CLEAR -/

/-- A port's line of the station table does not show the arrival time. -/
theorem portView_noteValid (rx : Rx) (s : State) (p : Port) : (noteValid rx s).portView p = s.portView p := by
  have motion : (noteValid rx s).holdsMotion p = s.holdsMotion p := by
    rw [State.holdsMotion, noteValid_link, noteValid_role]
    rfl
  rw [State.portView, motion, noteValid_port]
  split <;> rfl

theorem table_noteValid (rx : Rx) (s : State) (n : TableName) : (noteValid rx s).table n = s.table n := by
  cases n
  case stations => exact congrArg (fun f => Table.stations (Vector.ofFn f)) (funext (portView_noteValid rx s))
  all_goals rfl

/-- Settles O51: each judgement's state and answer. -/
theorem plainRequests : Obligations.PlainRequests := by
  unfold Obligations.PlainRequests
  intro rx s h
  refine ⟨?ping, ?unknown, fun n hn => ?query, ?stations, ?leave, fun hr => ?clear⟩
  case ping => exact congrArg Host.Outcome.next (takeRequest_answered (judge := judgePing) h rfl)
  case unknown => exact congrArg Host.Outcome.next (takeRequest_answered (judge := judgeUnknown) h rfl)
  case query =>
    refine congrArg Host.Outcome.next (takeRequest_answered (judge := judgeQuery) h ?_)
    rw [judgeQuery, if_neg hn, table_noteValid]
  case stations =>
    refine congrArg Host.Outcome.next (takeRequest_answered (judge := judgeQuery) h ?_)
    rw [judgeQuery, if_pos rfl, table_noteValid]
    rfl
  case leave =>
    refine congrArg (fun x => Host.Outcome.next (settle x)) (takeRequest_unanswered (judge := judgeLeave rx) h ?_)
    rfl
  case clear => exact congrArg Host.Outcome.next (takeRequest_motion (judge := judgeStatusClear) ⟨h, hr⟩ rfl)

/-! ### Names and clamps -/

theorem indexOf_of_lt {n i : Nat} (h : i < n) : indexOf n i = some ⟨i, h⟩ := by rw [indexOf, dif_pos h]

theorem indexOf_val {n : Nat} (i : Fin n) : indexOf n i.val = some i := indexOf_of_lt i.isLt

theorem indexOf_of_le {n i : Nat} (h : n ≤ i) : indexOf n i = none := by rw [indexOf, dif_neg (by omega)]

/-- R2: an index names the lane that has it, where that is present. -/
theorem namedLane_present {s : State} {l : Lane} {i : Nat} (hi : i = l.val) (hp : s.lanes[l].present = true) :
    s.namedLane i = some l := by
  simp only [State.namedLane, hi, indexOf_val, State.lanePresent, hp, if_true]

theorem namedLane_noteValid (rx : Rx) (s : State) (i : Nat) : (noteValid rx s).namedLane i = s.namedLane i := rfl

theorem carriedOr_fst (lo hi kept : Nat) (c : Option Nat) : (carriedOr lo hi kept c).1 = (c.map (clampNat lo hi)).getD kept := by
  cases c <;> rfl

theorem carriedOr_snd (lo hi kept : Nat) (c : Option Nat) :
    (carriedOr lo hi kept c).2 = true ↔ ∃ y, c = some y ∧ clampNat lo hi y ≠ y := by
  cases c <;> simp [carriedOr]

theorem clampNat_ne {lo hi y : Nat} (_ : lo ≤ hi) : clampNat lo hi y ≠ y ↔ y < lo ∨ hi < y := by
  unfold clampNat
  split <;> [skip; split] <;> omega

/-! ### SHAPE SET and LIMITS SET -/

section Requests

variable {rx : Rx} {s : State} (h : TakesMotion rx s)

include h

theorem exec_shapeSet {a : ShapeArgs} {s1 : State} {ans : Answer} (hj : judgeShapeSet a (noteValid rx s) = (s1, some ans)) :
    exec (.shapeSet rx (.fields a)) s = .next (replied rx ans s1) :=
  congrArg Host.Outcome.next (takeRequest_motion h hj)

theorem exec_limitsSet {a : LimitsArgs} {s1 : State} {ans : Answer} (hj : judgeLimitsSet a (noteValid rx s) = (s1, some ans)) :
    exec (.limitsSet rx (.fields a)) s = .next (replied rx ans s1) :=
  congrArg Host.Outcome.next (takeRequest_motion h hj)

theorem exec_timebaseSet {a : TimebaseArgs} {s1 : State} {ans : Answer}
    (hj : judgeTimebaseSet a (noteValid rx s) = (s1, some ans)) :
    exec (.timebaseSet rx (.fields a)) s = .next (replied rx ans s1) :=
  congrArg Host.Outcome.next (takeRequest_motion h hj)

end Requests

/-- A lane's entry replaced by a function of what it was. -/
theorem setLane_const (s : State) (l : Lane) (f : LaneRec → LaneRec) :
    (s.setLane l fun _ => f s.lanes[l]) = s.setLane l f := rfl

/-- R21: the fields a SHAPE SET leaves. -/
theorem shapeLane_fst (r : RigLane) (a : ShapeArgs) (x : LaneRec) : (shapeLane r a x).1 = { x with
    vmax := (a.vmax.map (clampNat 1 r.vmaxCeil)).getD x.vmax
    a := (a.a.map (clampNat 1 r.aCeil)).getD x.a
    astop := max ((a.astop.map (clampNat r.astopFloor 1048575)).getD x.astop) ((a.a.map (clampNat 1 r.aCeil)).getD x.a)
    k := (a.k.map (clampNat 1 65536)).getD x.k
    trackTol := (a.trackTol.map (clampNat 0 16777216)).getD x.trackTol
    followLimit := (a.followLimit.map (clampNat 1 r.followCeil)).getD x.followLimit } := by
  simp only [shapeLane, carriedOr_fst]
  rfl

theorem shapeLane_snd (r : RigLane) (a : ShapeArgs) (x : LaneRec) : (shapeLane r a x).2 = true ↔
    (∃ y, a.vmax = some y ∧ clampNat 1 r.vmaxCeil y ≠ y) ∨
      (∃ y, a.a = some y ∧ clampNat 1 r.aCeil y ≠ y) ∨ (∃ y, a.astop = some y ∧ clampNat r.astopFloor 1048575 y ≠ y) ∨
      (∃ y, a.k = some y ∧ clampNat 1 65536 y ≠ y) ∨ (∃ y, a.trackTol = some y ∧ clampNat 0 16777216 y ≠ y) ∨
      (∃ y, a.followLimit = some y ∧ clampNat 1 r.followCeil y ≠ y) ∨
      (a.astop.map (clampNat r.astopFloor 1048575)).getD x.astop < (a.a.map (clampNat 1 r.aCeil)).getD x.a := by
  simp only [shapeLane, Bool.or_eq_true, carriedOr_snd, decide_eq_true_eq, carriedOr_fst, or_assoc]
  rfl

/-- The lane record replaced by a SHAPE SET. -/
theorem judgeShapeSet_taken {s : State} {l : Lane} {a : ShapeArgs} (hl : s.namedLane a.lane = some l)
    (hv : s.lanes[l].v.natAbs ≤ (a.vmax.map (clampNat 1 s.rig.record.lanes[l].vmaxCeil)).getD s.lanes[l].vmax) :
    judgeShapeSet a s = (s.setLane l fun x => (shapeLane s.rig.record.lanes[l] a x).1,
      some { Answer.done with adjusted := (shapeLane s.rig.record.lanes[l] a s.lanes[l]).2 }) := by
  have hn : ¬ (shapeLane s.rig.record.lanes[l] a s.lanes[l]).1.vmax < mag s.lanes[l].v := by
    rw [shapeLane_fst]
    exact Nat.not_lt.mpr hv
  simp only [judgeShapeSet, hl, if_neg hn, doneAdjusted]
  rfl

theorem judgeShapeSet_busy {s : State} {l : Lane} {a : ShapeArgs} (hl : s.namedLane a.lane = some l)
    (hv : (a.vmax.map (clampNat 1 s.rig.record.lanes[l].vmaxCeil)).getD s.lanes[l].vmax < s.lanes[l].v.natAbs) :
    judgeShapeSet a s = (s, some (Answer.refused .busy)) := by
  have hn : (shapeLane s.rig.record.lanes[l] a s.lanes[l]).1.vmax < mag s.lanes[l].v := by
    rw [shapeLane_fst]
    exact hv
  simp only [judgeShapeSet, hl, if_pos hn, refuse]

/-! ### TIMEBASE SET -/

theorem mergeSettings_eq (old : Option TimebaseArgs) (new : TimebaseArgs) :
    let o : TimebaseArgs := old.getD { mode := none, n := none, period := none }
    mergeSettings old new = { mode := new.mode.or o.mode, n := new.n.or o.n, period := new.period.or o.period } := by
  cases old with
  | none => simp [mergeSettings]
  | some o => simp [mergeSettings, Option.orElse_eq_or]

theorem clamp_map_ne {lo hi : Nat} (h : lo ≤ hi) (x : Option Nat) :
    x.map (clampNat lo hi) ≠ x ↔ ∃ y, x = some y ∧ (y < lo ∨ hi < y) := by
  cases x <;> simp [clampNat_ne h]

theorem clampSettings_adjusted (a : TimebaseArgs) : (clampSettings a).2 = true ↔
    (∃ y, a.n = some y ∧ (y < 8 ∨ 64 < y)) ∨ ∃ y, a.period = some y ∧ (y < 8000 ∨ 50000 < y) := by
  rw [clampSettings]
  simp only [Bool.or_eq_true, decide_eq_true_eq]
  rw [clamp_map_ne (by decide), clamp_map_ne (by decide)]

/-- Settles O54: each judgement by the lane it names, the values carried, and what is active. -/
theorem shapeLimitsAndTimebase : Obligations.ShapeLimitsAndTimebase := by
  unfold Obligations.ShapeLimitsAndTimebase
  intro rx s h
  refine ⟨fun l a hl hp => ?shape, fun l a hl hp => ?limits, fun a b ha hb => ⟨?badShape, ?badLimits⟩, fun a => ?timebase⟩
  case shape =>
    have named : (noteValid rx s).namedLane a.lane = some l := namedLane_present hl hp
    refine ⟨fun hv => exec_shapeSet h (judgeShapeSet_busy named hv), fun hv => ⟨_, ?_, shapeLane_snd _ _ _⟩⟩
    refine exec_shapeSet h ((judgeShapeSet_taken named hv).trans ?_)
    simp only [shapeLane_fst]
    rfl
  case limits =>
    have named : (noteValid rx s).namedLane a.lane = some l := namedLane_present hl hp
    refine ⟨fun hm => exec_limitsSet h ?_, fun hm hout hv => exec_limitsSet h ?_, fun hm hin => exec_limitsSet h ?_⟩
    · simp only [judgeLimitsSet, named, if_pos hm, refuse]
    · simp only [judgeLimitsSet, named, if_neg (Int.not_lt.mpr hm)]
      exact if_pos ⟨hout, hv⟩
    · simp only [judgeLimitsSet, named, if_neg (Int.not_lt.mpr hm)]
      refine (if_neg ?_).trans rfl
      rintro ⟨hout, hv⟩
      rcases hin with ⟨hlo, hhi⟩ | hrest
      · rcases hout with hout | hout
        · exact absurd hlo (Int.not_le.mpr hout)
        · exact absurd hhi (Int.not_le.mpr hout)
      · exact hv hrest
  case badShape =>
    refine exec_shapeSet h ?_
    simp only [judgeShapeSet, namedLane_noteValid, ha, refuse]
  case badLimits =>
    refine exec_limitsSet h ?_
    simp only [judgeLimitsSet, namedLane_noteValid, hb, refuse]
  case timebase =>
    refine ⟨fun hb => exec_timebaseSet h ?_, fun hr hp => ⟨(clampSettings a).2, exec_timebaseSet h ?_, clampSettings_adjusted a⟩⟩
    · have busy : ((noteValid rx s).recActive || (noteValid rx s).playActive) = true := by
        rw [Bool.or_eq_true]
        exact hb.imp (fun hr => decide_eq_true hr) (fun hp => decide_eq_true hp)
      simp only [judgeTimebaseSet, busy, if_true, refuse]
    · have idle : ((noteValid rx s).recActive || (noteValid rx s).playActive) = false := by
        simp [State.recActive, State.playActive, hr, hp]
      simp only [judgeTimebaseSet, idle, Bool.false_eq_true, if_false, doneAdjusted, mergeSettings_eq]
      rfl

end Sys2Proof.Machine
end

section
/-! PROOFS. ZONE SET, ZONE DROP and PRESENCE SET (O55, R138, R139, R141, R143). -/

namespace Sys2Proof.Machine

open Sys2Proof

/-! ### The checks on operands -/

theorem distinctLanes_iff (is : List Interval) : distinctLanes is = true ↔ (is.map fun i => i.lane).Nodup := by
  induction is with
  | nil => simp [distinctLanes]
  | cons i is ih =>
    simp only [distinctLanes, Bool.and_eq_true, ih, List.all_eq_true, decide_eq_true_eq, List.map_cons, List.nodup_cons,
      List.mem_map, not_exists, not_and]

theorem namesPresent_iff (s : State) (is : List Nat) :
    s.namesPresent is = true ↔ ∀ i ∈ is, (s.namedLane i).isSome = true := by
  simp only [State.namesPresent, List.all_eq_true]

theorem inPosRange_iff (x : Int) : inPosRange x = true ↔ -274877906944 ≤ x ∧ x ≤ 274877906944 := by
  unfold inPosRange
  rw [Bool.and_eq_true, decide_eq_true_eq, decide_eq_true_eq]
  rfl

/-- What R138 asks of one interval. -/
def IntervalWf (s : State) (i : Interval) : Prop :=
  (s.namedLane i.lane).isSome = true ∧ i.low ≤ i.high ∧ -274877906944 ≤ i.low ∧ i.low ≤ 274877906944 ∧
    -274877906944 ≤ i.high ∧ i.high ≤ 274877906944

theorem zoneValid_iff (s : State) (r : ZoneRecord) : s.zoneValid r = true ↔
    1 ≤ r.intervals.length ∧ r.intervals.length ≤ 12 ∧ (r.intervals.map fun i => i.lane).Nodup ∧
      ∀ i ∈ r.intervals, IntervalWf s i := by
  simp only [State.zoneValid, Bool.and_eq_true, decide_eq_true_eq, distinctLanes_iff, namesPresent_iff, List.all_eq_true,
    List.forall_mem_map, inPosRange_iff, IntervalWf]
  constructor
  · rintro ⟨⟨⟨⟨h1, h2⟩, h3⟩, h4⟩, h5⟩
    exact ⟨h1, h2, h3, fun i hi => ⟨h4 i hi, (h5 i hi).1.1, (h5 i hi).1.2.1, (h5 i hi).1.2.2, (h5 i hi).2.1, (h5 i hi).2.2⟩⟩
  · rintro ⟨h1, h2, h3, h4⟩
    refine ⟨⟨⟨⟨h1, h2⟩, h3⟩, fun i hi => (h4 i hi).1⟩, fun i hi => ?_⟩
    obtain ⟨-, ho, hl, hl', hh, hh'⟩ := h4 i hi
    exact ⟨⟨ho, hl, hl'⟩, hh, hh'⟩

theorem not_intervalWf {s : State} {i : Interval} (h : s.namedLane i.lane = none ∨ i.high < i.low ∨ i.low < -274877906944 ∨
    274877906944 < i.low ∨ i.high < -274877906944 ∨ 274877906944 < i.high) : ¬ IntervalWf s i := by
  rintro ⟨hn, ho, hl, hl', hh, hh'⟩
  rcases h with h | h
  · rw [h] at hn; cases hn
  · omega

theorem setPresent_iff (s : State) (ls : LaneSet) :
    s.setPresent ls = true ↔ ∀ j : Nat, j < 16 → ls.getLsbD j = true → (s.namedLane j).isSome = true := by
  simp only [State.setPresent, namesPresent_iff, LaneSet.indices, List.mem_filter, List.mem_range, and_imp]

theorem clampScale_snd (x : Nat) : (clampScale x).2 = decide (65536 < x) := by
  have h : clampNat 0 fullScale x ≠ x ↔ 65536 < x := (clampNat_ne (by decide)).trans (or_iff_right (Nat.not_lt_zero x))
  rw [clampScale]
  exact decide_eq_decide.mpr h

/-! ### A zone's entry -/

/-- The entry that ZONE SET leaves (R139, R141). -/
theorem replaceZone_eq (m : Motion) (r : ZoneRecord) (e : ZoneEntry) : replaceZone m r e =
    { record := some r, predicting := r.enabled && zonePredicts m r, breached := r.enabled && zoneContains m r,
      exiting := e.exiting && r.enabled && r.kind = .keepOut } := by
  unfold replaceZone evalZone
  cases hr : r.enabled <;> simp [hr]

/-- A breach cause leaves the zones, is in the set, and RUN is left (R145). -/
theorem causeEvents_zones {ks : List CauseKind} (s : State) : (causeEvents ks s).safety.zones = s.safety.zones := by
  cases ks with
  | nil => rfl
  | cons k ks => rw [causeEvents_safety (by simp)]; rfl

theorem causeEvents_hasCause {ks : List CauseKind} {k : CauseKind} (hk : k ∈ ks) (s : State) :
    (causeEvents ks s).hasCause k = true := by
  rw [State.hasCause, causeEvents_safety (List.ne_nil_of_mem hk), List.any_eq_true]
  obtain ⟨c, hc, hck⟩ := causesAfter_has (f := s.tb.f) (t := s.tb.t) s.safety.causes hk
  exact ⟨c, hc, by simpa using hck⟩

theorem causeEvents_leaves_run {ks : List CauseKind} (hk : ks ≠ []) (s : State) : (causeEvents ks s).safety.stop ≠ .run := by
  rw [causeEvents_safety hk]
  simp only [safetyAfter]
  cases s.safety.stop <;> decide

/-- The state that a well-formed ZONE SET leaves before its answer. -/
def zoneReplaced (z : ZoneNo) (r : ZoneRecord) (s : State) : State :=
  let s1 := s.setZone z (replaceZone s.motion r)
  let e := s1.safety.zones[z]
  if e.armedKeepOut && !e.exiting && e.breached then causeEvents [.zoneBreached z] s1 else s1

theorem judgeZoneSet_taken {s : State} {z : ZoneNo} {r : ZoneRecord} (h : s.zoneValid r = true) :
    judgeZoneSet { entry := z.val, record := r } s = (zoneReplaced z { r with scale := clampNat 0 65536 r.scale } s,
      some { Answer.done with adjusted := decide (65536 < r.scale) }) := by
  simp only [judgeZoneSet, indexOf_val, h, Bool.not_true, Bool.false_eq_true, if_false, doneAdjusted, clampScale_snd]
  rfl

theorem zoneReplaced_frame (z : ZoneNo) (r : ZoneRecord) (s : State) : StopFrame s (zoneReplaced z r s) := by
  have k := keepsStops_stopFrame s
  have set : StopFrame s (s.setZone z (replaceZone s.motion r)) := k.safety _ _ rfl (.refl s)
  unfold zoneReplaced
  dsimp only
  split
  · exact k.causeEvents _ set
  · exact set

theorem zoneReplaced_zones (z : ZoneNo) (r : ZoneRecord) (s : State) :
    (zoneReplaced z r s).safety.zones = updAt s.safety.zones z (replaceZone s.motion r) := by
  unfold zoneReplaced
  dsimp only
  split
  · rw [causeEvents_zones]; rfl
  · rfl

/-- Whether the record's own evaluation is a breach that stops the motion (R141). -/
theorem zoneReplaced_breach (z : ZoneNo) (r : ZoneRecord) (s : State) :
    let marked := s.safety.zones[z].exiting && r.enabled && r.kind = .keepOut
    (r.enabled = true → r.kind = .keepOut → marked = false → zoneContains s.motion r = true →
      (zoneReplaced z r s).hasCause (.zoneBreached z) = true ∧ (zoneReplaced z r s).safety.stop ≠ .run) ∧
    (r.enabled = false ∨ r.kind = .slow ∨ marked = true ∨ zoneContains s.motion r = false →
      (zoneReplaced z r s).safety.stop = s.safety.stop ∧ (zoneReplaced z r s).safety.causes = s.safety.causes ∧
        (zoneReplaced z r s).grants = s.grants) := by
  have entry : (s.setZone z (replaceZone s.motion r)).safety.zones[z] = replaceZone s.motion r s.safety.zones[z] :=
    updAt_same _ _ _
  refine ⟨fun he hk hm hc => ?_, fun hn => ?_⟩
  · have breach : zoneReplaced z r s = causeEvents [.zoneBreached z] (s.setZone z (replaceZone s.motion r)) := by
      unfold zoneReplaced
      dsimp only
      rw [entry, replaceZone_eq, hm]
      simp [ZoneEntry.armedKeepOut, he, hk, hc]
    rw [breach]
    exact ⟨causeEvents_hasCause (by simp) _, causeEvents_leaves_run (by simp) _⟩
  · have kept : zoneReplaced z r s = s.setZone z (replaceZone s.motion r) := by
      unfold zoneReplaced
      dsimp only
      rw [entry, replaceZone_eq]
      refine if_neg ?_
      rcases hn with hn | hn | hn | hn <;> simp_all [ZoneEntry.armedKeepOut]
    rw [kept]
    exact ⟨rfl, rfl, rfl⟩

section Requests

variable {rx : Rx} {s : State} (h : TakesMotion rx s)

include h

theorem exec_zoneSet {a : ZoneSetArgs} {s1 : State} {ans : Answer} (hj : judgeZoneSet a (noteValid rx s) = (s1, some ans)) :
    exec (.zoneSet rx (.fields a)) s = .next (replied rx ans s1) :=
  congrArg Host.Outcome.next (takeRequest_motion h hj)

theorem exec_zoneDrop {a : Nat} {s1 : State} {ans : Answer} (hj : judgeZoneDrop a (noteValid rx s) = (s1, some ans)) :
    exec (.zoneDrop rx (.fields a)) s = .next (replied rx ans s1) :=
  congrArg Host.Outcome.next (takeRequest_motion h hj)

theorem exec_presenceSet {a : PresenceArgs} {s1 : State} {ans : Answer}
    (hj : judgePresenceSet a (noteValid rx s) = (s1, some ans)) :
    exec (.presenceSet rx (.fields a)) s = .next (replied rx ans s1) :=
  congrArg Host.Outcome.next (takeRequest_motion h hj)

/-- A well-formed record: its entry, its breach, and the rest of the part. -/
theorem exec_zoneSet_taken {z : ZoneNo} {r : ZoneRecord} (hv : s.zoneValid r = true) :
    let x : ZoneRecord := { r with scale := clampNat 0 65536 r.scale }
    ∃ t, exec (.zoneSet rx (.fields { entry := z.val, record := r })) s = .next t ∧
      Ended (zoneReplaced z x (noteValid rx s)) t ∧
      t.ports[rx.port].replies = s.ports[rx.port].replies ++
        [({ Answer.done with adjusted := 65536 < r.scale } : Answer).reply rx.tag .ordinary] := by
  refine ⟨_, exec_zoneSet h (judgeZoneSet_taken hv), ended_replied _ _ _, ?_⟩
  have told := (zoneReplaced_frame z { r with scale := clampNat 0 65536 r.scale } (noteValid rx s)).port rx.port
  rw [replied_replies (by rw [told.isActive, noteValid_isActive]; exact h.1.1), told]
  exact congrArg (· ++ _) (noteValid_replies rx s rx.port)

theorem exec_zoneSet_bad {a : ZoneSetArgs} (hb : 16 ≤ a.entry ∨ ¬ s.zoneValid a.record = true) :
    exec (.zoneSet rx (.fields a)) s = .next (replied rx (Answer.refused .badValue) (noteValid rx s)) := by
  refine exec_zoneSet h ?_
  unfold judgeZoneSet
  rcases hb with hb | hb
  · rw [indexOf_of_le hb]
    rfl
  · split
    · rfl
    · have hb' : (!(noteValid rx s).zoneValid a.record) = true := by rw [Bool.not_eq_true']; exact Bool.eq_false_iff.mpr hb
      rw [if_pos hb']
      rfl

theorem exec_presenceSet_bad {a : PresenceArgs} (hb : 4 ≤ a.line ∨ ¬ s.setPresent a.lanes = true) :
    exec (.presenceSet rx (.fields a)) s = .next (replied rx (Answer.refused .badValue) (noteValid rx s)) := by
  refine exec_presenceSet h ?_
  unfold judgePresenceSet
  rcases hb with hb | hb
  · rw [indexOf_of_le hb]
    rfl
  · split
    · rfl
    · have hb' : (!(noteValid rx s).setPresent a.lanes) = true := by rw [Bool.not_eq_true']; exact Bool.eq_false_iff.mpr hb
      rw [if_pos hb']
      rfl

end Requests

/-- Settles O55: the judgements by the checks on their operands, and the breach that ZONE SET finds. -/
theorem zonesAndPresence : Obligations.ZonesAndPresence := by
  unfold Obligations.ZonesAndPresence
  intro rx s h
  refine ⟨fun z r h1 h12 hd hi => ?taken, fun a hb => exec_zoneSet_bad h ?bad, fun z => ?drop, fun n hn => ?noDrop,
    fun i ls scale hp => ?presence, fun a hb => exec_presenceSet_bad h ?noPresence⟩
  case taken =>
    obtain ⟨t, ht, e, hr⟩ := exec_zoneSet_taken (z := z) (r := r) h ((zoneValid_iff s r).mpr ⟨h1, h12, hd, hi⟩)
    obtain ⟨breach, other⟩ := zoneReplaced_breach z { r with scale := clampNat 0 65536 r.scale } (noteValid rx s)
    have zones := zoneReplaced_zones z { r with scale := clampNat 0 65536 r.scale } (noteValid rx s)
    have frame := zoneReplaced_frame z { r with scale := clampNat 0 65536 r.scale } (noteValid rx s)
    refine ⟨t, ht, e.lanes.trans frame.lanes, ?_, fun y hy => ?_, hr, fun he hk hm hc => ?_, fun hn => ?_⟩
    · rw [e.safety, zones, updAt_same, replaceZone_eq]
      rfl
    · rw [e.safety, zones, updAt_other (Ne.symm hy)]
      rfl
    · rw [State.hasCause, e.safety]
      exact breach he hk hm hc
    · rw [e.safety, e.grants]
      exact other hn
  case bad =>
    rcases hb with hb | hb
    · exact .inl hb
    refine .inr ?_
    rw [zoneValid_iff]
    rintro ⟨h1, h12, hd, hi⟩
    rcases hb with hb | hb | hb | ⟨i, hm, hb⟩
    · rw [hb] at h1; simp at h1
    · omega
    · exact hb hd
    · exact not_intervalWf hb (hi i hm)
  case drop =>
    refine exec_zoneDrop h ?_
    rw [judgeZoneDrop, indexOf_val]
    rfl
  case noDrop =>
    refine exec_zoneDrop h ?_
    rw [judgeZoneDrop, indexOf_of_le hn]
    rfl
  case presence =>
    refine exec_presenceSet h ?_
    have hv : (!(noteValid rx s).setPresent ls) = false := by
      rw [Bool.not_eq_false']
      exact (setPresent_iff s ls).mpr hp
    simp only [judgePresenceSet, indexOf_val, hv, Bool.false_eq_true, if_false, doneAdjusted, clampScale_snd]
    rfl
  case noPresence =>
    refine hb.imp_right ?_
    rintro ⟨j, hj, hl, hn⟩ hp
    have := (setPresent_iff s a.lanes).mp hp j hj hl
    rw [hn] at this
    cases this

end Sys2Proof.Machine
end

section
/-! PROOFS. Drive replies (O37) and what disables a lane (R3, R150, R158 to R160). -/

namespace Sys2Proof.Machine

open Sys2Proof

theorem setLane_lane (s : State) (l j : Lane) (f : LaneRec → LaneRec) :
    (s.setLane l f).lanes[j] = if l = j then f s.lanes[j] else s.lanes[j] := by
  rw [State.setLane, State.setLanes_lanes, updAt_get]

theorem setChannel_channel (s : State) (l j : Lane) (f : Channel → Channel) :
    (s.setChannel l f).drives.channels[j] = if l = j then f s.drives.channels[j] else s.drives.channels[j] := by
  rw [State.setChannel, State.setDrives_drives, updAt_get]

/-! ### Replies (R158, R159) -/

section Replies

variable {s : State} {l : Lane}

/-- A reply that answers no open exchange of a present drive is discarded. -/
theorem takeReply_discarded {f t : Nat} (h : s.lanes[l].present = false ∨ s.drives.channels[l].exchange = none ∨
    ∃ e, s.drives.channels[l].exchange = some e ∧ (e.f ≠ f ∨ e.t ≠ t)) (st : DriveStatus) (n : Int) :
    takeReply l f t st n s = s := by
  unfold takeReply State.lanePresent
  split
  · rfl
  · next hp =>
    have hp : s.lanes[l].present = true := by simpa using hp
    rcases h with h | h | ⟨e, he, hne⟩
    · rw [hp] at h; cases h
    · rw [h]
    · rw [he]
      dsimp only
      rw [if_neg (by tauto)]

theorem takeReply_taken {e : Exchange} (hp : s.lanes[l].present = true) (he : s.drives.channels[l].exchange = some e)
    (st : DriveStatus) (n : Int) : takeReply l e.f e.t st n s = match st with
      | .ok => replyOk l e.sent n s
      | .fault => replyFault l n s := by
  have hp' : (!s.lanePresent l) = false := by rw [State.lanePresent, hp]; rfl
  simp only [takeReply, hp', Bool.false_eq_true, if_false, he, and_self, if_true]
  all_goals rfl

/-- What an OK reply records of its drive. -/
def okNoted (n : Int) (c : Channel) : Channel :=
  { c with latestCount := some n, status := .ok, missing := 0, faultReported := false, settled := true, exchange := none }

theorem replyOk_unsettled (hs : s.starting = true) (hc : s.drives.channels[l].settled = false) (sent : Option Int) (n : Int) :
    replyOk l sent n s = (s.setChannel l (okNoted n)).setLane l (settleLane n) := by
  unfold replyOk
  rw [hs, hc]
  rfl

theorem replyOk_settled (h : s.starting = false ∨ s.drives.channels[l].settled = true) (sent : Option Int) (n : Int) :
    replyOk l sent n s = followCheck l sent n (s.setChannel l (okNoted n)) := by
  have hn : (s.starting && !s.drives.channels[l].settled) = false := by
    rcases h with h | h <;> rw [h]
    · rfl
    · exact Bool.and_false _
  unfold replyOk
  rw [hn]
  rfl

/-- R160: the count strays from the count sent by more than followLimit. -/
def Strays (s : State) (l : Lane) (sent : Option Int) (n : Int) : Prop :=
  ∃ c, sent = some c ∧ s.safety.drivePower = true ∧ s.lanes[l].condition = .active ∧ s.lanes[l].followLimit < (c - n).natAbs

theorem followCheck_within {sent : Option Int} {n : Int} (h : ¬ Strays s l sent n) : followCheck l sent n s = s := by
  unfold followCheck
  split
  · next c =>
    refine if_neg fun hc => h ?_
    simp only [Bool.and_eq_true, decide_eq_true_eq, and_assoc] at hc
    exact ⟨c, rfl, hc⟩
  · rfl

theorem followCheck_strays {sent : Option Int} {n : Int} (h : Strays s l sent n) :
    followCheck l sent n s = driveCause .followError l s := by
  obtain ⟨c, rfl, hp, ha, hf⟩ := h
  unfold followCheck
  refine if_pos ?_
  rw [hp, ha]
  exact decide_eq_true hf

end Replies

/-- Settles O37: by the exchange the reply answers, and the lane's settling. -/
theorem driveReplyIsJudged : Obligations.DriveReplyIsJudged := by
  unfold Obligations.DriveReplyIsJudged
  intro l f tk st n s
  have run : ∀ x, exec (.driveReply l f tk x n) s = .next (settle (takeReply l f tk x n s)) := fun _ => rfl
  refine ⟨fun h => by rw [run, takeReply_discarded h], fun e hp he hf ht => ⟨fun hs hc => ?_, fun hs hw => ?_⟩⟩
  · subst hf; subst ht
    rw [run, takeReply_taken hp he, replyOk_unsettled hs hc]
    rfl
  · subst hf; subst ht
    rw [run, takeReply_taken hp he, replyOk_settled hs, followCheck_within]
    · rfl
    · rintro ⟨c, hc, hpw, ha, hfl⟩
      exact absurd (hw c hc hpw ha) (Nat.not_le.mpr hfl)

/-! ### The outputs of a lane that is not ACTIVE (R149, R162) -/

theorem outputsOn_inactive {s : State} {l : Lane} (h : s.lanes[l].condition ≠ .active) : s.outputsOn l = false := by
  rw [State.outputsOn, decide_eq_false h, Bool.and_false]

theorem driveOutputs_off {c : Channel} (he : c.enable = false) (hb : c.brake = false) : driveOutputs false c = c := by
  simp [driveOutputs, he, hb]

theorem setPower_drives (on : Bool) (s : State) : (setPower on s).drives = s.drives ∨
    (setPower on s).drives = (refreshOutputs (s.setSafety { s.safety with drivePower := on })).drives := by
  unfold setPower
  split
  · exact .inl rfl
  · exact .inr (raiseAll_frame _ _).drives

/-- The channel of a lane that is not ACTIVE, with its outputs deasserted, is left by causes and stops. -/
theorem keepsStops_offChannel {c : Channel} (he : c.enable = false) (hb : c.brake = false) (l : Lane) :
    KeepsStops (fun t => t.drives.channels[l] = c ∧ t.lanes[l].condition ≠ .active) where
  raise _ _ _ h := h
  recordEnds o s h := by rwa [(recordEnds_stops o s).2, recordEnds_lanes]
  endPlayback o s h := by rwa [(endPlayback_stops o s).2, endPlayback_lanes]
  safety _ _ _ h := h
  power on s h := by
    obtain ⟨hc, ha⟩ := h
    refine ⟨?_, by rwa [setPower_lanes]⟩
    rcases setPower_drives on s with h | h <;> rw [h]
    · exact hc
    · have off : (s.setSafety { s.safety with drivePower := on }).outputsOn l = false := outputsOn_inactive ha
      rw [refreshOutputs_channel, off, State.setSafety_drives, hc, driveOutputs_off he hb]

/-! ### A drive cause (R3, R150) -/

/-- The cause that disables a lane for a reason (R150). -/
def DisableReason.cause (why : DisableReason) (l : Lane) : CauseKind := match why with
  | .driveFault => .driveFault l
  | .followError => .followError l

theorem driveCause_eq (why : DisableReason) (l : Lane) (s : State) : driveCause why l s =
    causeEvents [why.cause l] (refreshOutputs (s.setLane l (disableLane why))) := by cases why <;> rfl

theorem driveCause_lanes (why : DisableReason) (l : Lane) (s : State) :
    (driveCause why l s).lanes = (s.setLane l (disableLane why)).lanes := by
  rw [driveCause_eq, causeEvents_lanes]
  rfl

theorem disableLane_active {x : LaneRec} (h : x.condition = .active) (why : DisableReason) :
    disableLane why x = { x with condition := .disabled why, v := 0 } := if_pos h

theorem disableLane_inactive {x : LaneRec} (h : x.condition ≠ .active) (why : DisableReason) : disableLane why x = x := if_neg h

theorem disableLane_not_active (why : DisableReason) (x : LaneRec) : (disableLane why x).condition ≠ .active :=
  (disableLane_keeps why x).2.2.2.1

/-- The lane's outputs are deasserted, and its channel is otherwise left. -/
theorem driveCause_channel (why : DisableReason) (l : Lane) (s : State) :
    (driveCause why l s).drives.channels[l] = driveOutputs false s.drives.channels[l] := by
  have inactive : (s.setLane l (disableLane why)).lanes[l].condition ≠ .active := by
    rw [setLane_lane, if_pos rfl]
    exact disableLane_not_active why _
  have off : (refreshOutputs (s.setLane l (disableLane why))).drives.channels[l] = driveOutputs false s.drives.channels[l] := by
    rw [refreshOutputs_channel, outputsOn_inactive inactive]
    rfl
  rw [driveCause_eq]
  obtain ⟨he, hb⟩ := driveOutputs_follow false s.drives.channels[l]
  exact ((keepsStops_offChannel he hb l).causeEvents _ ⟨off, inactive⟩).1

theorem driveCause_hasCause (why : DisableReason) (l : Lane) (s : State) : (driveCause why l s).hasCause (why.cause l) = true := by
  rw [driveCause_eq]
  exact causeEvents_hasCause (List.mem_singleton.mpr rfl) _

theorem driveCause_leaves_run (why : DisableReason) (l : Lane) (s : State) : (driveCause why l s).safety.stop ≠ .run := by
  rw [driveCause_eq]
  exact causeEvents_leaves_run (by simp) _

/-- What a drive fault leads to, up to the fault already reported and a PARKED lane. -/
theorem driveFault_raised {s : State} {l : Lane} (hp : s.lanes[l].condition ≠ .parked)
    (hf : s.drives.channels[l].faultReported = false) : driveFault l s =
      driveCause .driveFault l (s.setChannel l fun c => { c with faultReported := true, settled := true }) := by
  rw [driveFault, if_neg hp, if_neg (by rw [hf]; decide)]

end Sys2Proof.Machine
end

section
/-! PROOFS. The Timebase: when a frame start, a tick and a pulse act, and the end of STARTING (O23 to O27). -/

namespace Sys2Proof.Machine

open Sys2Proof

/-! ### The end of STARTING (R100, R161) -/

theorem allSettled_iff (s : State) : s.allSettled = true ↔
    ∀ l : Lane, s.lanes[l].present = true → s.drives.channels[l].settled = true := by
  unfold State.allSettled
  rw [List.all_eq_true]
  refine ⟨fun h l hp => ?_, fun h l _ => ?_⟩
  · have hl := h l (List.mem_finRange l)
    rw [show s.lanePresent l = true from hp] at hl
    exact hl
  · cases hp : s.lanes[l].present with
    | false => rw [show s.lanePresent l = false from hp]; rfl
    | true => rw [h l hp, Bool.or_true]

/-- Settles O23: the end of STARTING waits for every present lane, and stores what the scan found. -/
theorem startingEndStoresTheScan : Obligations.StartingEndStoresTheScan := by
  refine ⟨fun s hs hall => ?_, fun s l _ hp hl => ?_⟩
  · change Host.Outcome.next (settle (endStarting s)) = _
    rw [endStarting, if_pos (by rw [hs, (allSettled_iff s).2 hall]; rfl)]
    rfl
  · have open' : ¬ s.allSettled = true := fun h => by
      rw [(allSettled_iff s).1 h l hp] at hl
      exact absurd hl (by decide)
    change Host.Outcome.next (settle (endStarting s)) = _
    rw [endStarting, if_neg (by rw [Bool.and_eq_true]; exact fun h => open' h.2)]

/-! ### Frame starts and ticks (R27, R28, R35) -/

theorem frameDone_iff (b : Timebase) : b.frameDone = true ↔ b.started = false ∨ b.n ≤ b.t + 1 := by
  simp [Timebase.frameDone]

theorem freeRunning_iff (b : Timebase) : b.freeRunning = true ↔ b.lock ≠ .locked := by
  simp [Timebase.freeRunning]

theorem frameStart_acts {s : State} (hl : s.tb.lock ≠ .locked) (hd : s.tb.frameDone = true) :
    frameStart s = beginFrame s.tb.ownTime s := by
  rw [frameStart, if_pos (by rw [(freeRunning_iff _).2 hl, hd]; rfl)]

theorem frameStart_rests {s : State} (h : s.tb.lock = .locked ∨ ¬ s.tb.frameDone = true) : frameStart s = s := by
  rw [frameStart, if_neg]
  rw [Bool.and_eq_true, freeRunning_iff]
  rintro ⟨hl, hd⟩
  exact h.elim (fun h => hl h) (fun h => h hd)

theorem servoTick_acts {s : State} (h : ¬ s.tb.frameDone = true) :
    servoTick s = tickWork (s.setTb { s.tb with t := s.tb.t + 1 }) := by
  rw [servoTick, Timebase.nextTick, if_neg h]

theorem servoTick_rests {s : State} (h : s.tb.frameDone = true) : servoTick s = s := by
  rw [servoTick, Timebase.nextTick, if_pos h]

/-- The Timebase of a frame start (R27, R33, R35). -/
def Timebase.opened (time : Nat) (b : Timebase) : Timebase := openFrame time (flywheelFrame (applySettings b))

/-- A frame start that is not the return to SEARCH. -/
theorem openWork_going {s : State} (h : (applySettings s.tb).gaveUp = false) (time : Nat) :
    openWork time s = playbackFrame (recorderFrame (s.setTb (s.tb.opened time))) := by
  unfold openWork
  dsimp only
  rw [if_neg (by rw [h]; decide)]
  rfl

theorem flywheelFrame_going {b : Timebase} (h : b.gaveUp = false) :
    flywheelFrame b =
      { b with flywheelCount := if b.lock = .flywheel then b.flywheelCount + 1 else b.flywheelCount, lastChance := false } := by
  rw [flywheelFrame, if_neg (by rw [h]; decide)]

theorem gaveUp_eq_false {b : Timebase} (h : b.lock = .flywheel → b.flywheelCount ≠ 8) : b.gaveUp = false := by
  rw [Timebase.gaveUp, Bool.and_eq_false_iff, decide_eq_false_iff_not, decide_eq_false_iff_not]
  by_cases hl : b.lock = .flywheel
  · exact .inr (h hl)
  · exact .inl hl

/-- Settings that leave REFERENCED mode take the ninth flywheel frame start away (log 10). -/
theorem applySettings_going {b : Timebase} (h : b.lock = .flywheel → b.flywheelCount = 8 → b.mode = .referenced ∧
    ∃ a, b.pendingSettings = some a ∧ a.mode = some .internal) : (applySettings b).gaveUp = false := by
  by_cases hb : b.lock = .flywheel ∧ b.flywheelCount = 8
  · obtain ⟨hm, a, ha, hi⟩ := h hb.1 hb.2
    refine gaveUp_eq_false fun hl => ?_
    simp [applySettings, ha, hi, hm] at hl
  · cases ha : b.pendingSettings with
    | none =>
      rw [show applySettings b = b from by rw [applySettings, ha]]
      exact gaveUp_eq_false fun hl hc => hb ⟨hl, hc⟩
    | some a =>
      refine gaveUp_eq_false fun hl => ?_
      cases hm : b.mode <;> cases hn : a.mode.getD b.mode <;> simp only [applySettings, ha, hm] at hl ⊢ <;>
        rw [hm] at hn <;> simp only [hn] at hl ⊢
      · exact fun hc => hb ⟨hl, hc⟩
      · cases hl
      · cases hl
      · exact fun hc => hb ⟨hl, hc⟩

theorem opened_plain {b : Timebase} (hp : b.pendingSettings = none) (hg : b.gaveUp = false) (time : Nat) :
    b.opened time = { b with
      f := if b.started then b.f + 1 else 0
      t := 0
      started := true
      lastChance := false
      frameTime := time
      flywheelCount := if b.lock = .flywheel then b.flywheelCount + 1 else b.flywheelCount } := by
  have plain : applySettings b = b := by rw [applySettings, hp]
  rw [Timebase.opened, plain, flywheelFrame_going hg]
  rfl

theorem opened_going {b : Timebase} (hg : (applySettings b).gaveUp = false) (time : Nat) :
    b.opened time = openFrame time { applySettings b with
      flywheelCount := if (applySettings b).lock = .flywheel then (applySettings b).flywheelCount + 1
        else (applySettings b).flywheelCount
      lastChance := false } := by
  rw [Timebase.opened, flywheelFrame_going hg]

/-- Settles O24: a frame start's work is that of the Recorder and the Playback Unit on the opened Timebase. -/
theorem freeRunningFrameStart : Obligations.FreeRunningFrameStart := by
  refine ⟨fun time s hs => ?_, fun s => ⟨fun hl hd => ?_, fun h => ?_, fun hd => ?_, fun hd => ?_⟩⟩
  · have going := applySettings_going hs
    refine ⟨s.tb.opened time, congrArg tickWork (openWork_going going time), fun hp => ?_, fun a ha => ?_⟩
    · refine opened_plain hp ?_ time
      rwa [show applySettings s.tb = s.tb from by rw [applySettings, hp]] at going
    · rw [opened_going going]
      cases hm : s.tb.mode <;> cases hn : a.mode.getD s.tb.mode <;> rw [hm] at hn <;>
        simp [applySettings, ha, hm, hn, openFrame]
  · exact congrArg (fun t => Host.Outcome.next (settle t)) (frameStart_acts hl ((frameDone_iff _).2 hd))
  · refine congrArg (fun t => Host.Outcome.next (settle t)) (frameStart_rests (h.imp_right fun hd => ?_))
    rwa [frameDone_iff]
  · exact congrArg (fun t => Host.Outcome.next (settle t)) (servoTick_acts (by rwa [frameDone_iff]))
  · exact congrArg (fun t => Host.Outcome.next (settle t)) (servoTick_rests ((frameDone_iff _).2 hd))

/-! ### Pulses (R28 to R33) -/

theorem within_iff (i j : Nat) : within i j = true ↔ ((i : Int) - j).natAbs * 200 ≤ j := decide_eq_true_iff

theorem inPhase_iff (time expected w : Nat) :
    inPhase time expected w = true ↔ ((time : Int) - expected).natAbs * 200 ≤ w := decide_eq_true_iff

theorem afterFrame_iff (b : Timebase) (time : Nat) : b.afterFrame time = true ↔
    b.frameTime ≤ time ∧ ((time : Int) - b.frameTime).natAbs * 200 ≤ b.workingPeriod := by
  rw [Timebase.afterFrame, Bool.and_eq_true, decide_eq_true_eq, inPhase_iff]

/-- The run count an interval leaves, as R29 tells its cases. -/
theorem runAfter_eq {b : Timebase} {i run : Nat}
    (h : (i < 8000 ∨ 50000 < i) ∧ run = 0 ∨ (8000 ≤ i ∧ i ≤ 50000) ∧
      ((∃ j, b.prevInterval = some j ∧ b.runCount ≠ 0 ∧ ((i : Int) - j).natAbs * 200 ≤ j ∧ run = b.runCount + 1) ∨
        ((∀ j, b.prevInterval = some j → b.runCount = 0 ∨ j < ((i : Int) - j).natAbs * 200) ∧ run = 1))) :
    runAfter b i = run := by
  rcases h with ⟨out, rfl⟩ | ⟨⟨h1, h2⟩, ⟨j, hj, hr, hw, rfl⟩ | ⟨far, rfl⟩⟩
  · rw [runAfter, if_pos out]
  · rw [runAfter, if_neg (by omega), hj]
    dsimp only
    rw [if_neg hr, if_pos ((within_iff i j).2 hw)]
  · rw [runAfter, if_neg (by omega)]
    cases hj : b.prevInterval with
    | none => rfl
    | some j =>
      dsimp only
      by_cases hr : b.runCount = 0
      · rw [if_pos hr]
      · rw [if_neg hr, if_neg]
        rw [within_iff]
        have := (far j hj).resolve_left hr
        omega

theorem referencePulse_search {s : State} (hm : s.tb.mode = .referenced) (hl : s.tb.lock = .search) (time : Nat) :
    referencePulse time s = searchPulse time s := by
  rw [referencePulse, hm, hl]

theorem referencePulse_locked {s : State} (hm : s.tb.mode = .referenced) (hl : s.tb.lock = .locked) (time : Nat) :
    referencePulse time s = lockedPulse time s := by
  rw [referencePulse, hm, hl]

theorem referencePulse_flywheel {s : State} (hm : s.tb.mode = .referenced) (hl : s.tb.lock = .flywheel) (time : Nat) :
    referencePulse time s = flywheelPulse time s := by
  rw [referencePulse, hm, hl]

theorem searchPulse_next {s : State} {time p : Nat} (hl : ¬ (s.tb.lastChance && s.tb.afterFrame time) = true)
    (hp : s.tb.lastPulse = some p) : searchPulse time s =
      if runAfter s.tb (time - p) = 4 then
        beginFrame time (s.setTb { s.tb with
          lock := .locked, workingPeriod := time - p, runCount := 0, flywheelCount := 0, lastPulse := some time,
          prevInterval := some (time - p) })
      else s.setTb { s.tb with
        lastPulse := some time, runCount := runAfter s.tb (time - p), prevInterval := some (time - p) } := by
  unfold searchPulse
  dsimp only
  rw [if_neg hl, hp]

/-- Settles O25: by the Timebase's mode and lock state, the late pulse first, then the run of intervals. -/
theorem searchPulsesLock : Obligations.SearchPulsesLock := by
  intro time s late
  have hlate : (s.tb.lastChance && s.tb.afterFrame time) = true ↔ late := by
    rw [Bool.and_eq_true, afterFrame_iff]
  refine ⟨fun hm => ?_, fun hm hl h => ?_, fun hm hl h => ⟨fun hp => ?_, fun p run hp hr => ?_⟩⟩
  · change Host.Outcome.next (settle (referencePulse time s)) = _
    rw [referencePulse, hm]
  · change Host.Outcome.next (settle (referencePulse time s)) = _
    rw [referencePulse_search hm hl]
    unfold searchPulse
    dsimp only
    rw [if_pos (hlate.2 h)]
    rfl
  · change Host.Outcome.next (settle (referencePulse time s)) = _
    rw [referencePulse_search hm hl]
    unfold searchPulse
    dsimp only
    rw [if_neg (fun w => h (hlate.1 w)), hp]
  · have taken : referencePulse time s = _ :=
      (referencePulse_search hm hl time).trans (searchPulse_next (fun w => h (hlate.1 w)) hp)
    rw [runAfter_eq hr] at taken
    exact ⟨fun hn => congrArg (fun t => Host.Outcome.next (settle t)) (taken.trans (if_neg hn)),
      fun h4 => congrArg (fun t => Host.Outcome.next (settle t)) (taken.trans (if_pos h4))⟩

theorem toFlywheel_locked {b : Timebase} (h : b.lock = .locked) :
    toFlywheel b = { b with lock := .flywheel, flywheelCount := 0 } := if_pos h

theorem overdueTime_locked {b : Timebase} {p : Nat} (hl : b.lock = .locked) (hp : b.lastPulse = some p) :
    b.overdueTime = if b.frameTime ≤ p then some (p + b.workingPeriod + b.workingPeriod / 200) else none := by
  rw [Timebase.overdueTime, hl, hp]

/-- When a pulse of the LOCKED state is missing (R32). -/
theorem pulseMissed_iff {b : Timebase} {p : Nat} (hl : b.lock = .locked) (hp : b.lastPulse = some p) :
    b.pulseMissed = true ↔ p < b.frameTime ∧ ((b.started = false ∨ b.n ≤ b.t + 1) ∨
      3 * b.workingPeriod ≤ 2 * (b.frameTime + (b.t + 1) * b.workingPeriod / b.n - p)) := by
  unfold Timebase.pulseMissed
  rw [hl, hp]
  dsimp only
  rw [Bool.and_eq_true, Bool.or_eq_true, decide_eq_true_eq, decide_eq_true_eq, frameDone_iff]
  rfl

theorem lockedPulse_eq {s : State} {p : Nat} (hl : s.tb.lock = .locked) (hp : s.tb.lastPulse = some p) (time : Nat) :
    lockedPulse time s =
      if s.tb.frameTime ≤ p ∧ ((time - p : Nat) - (s.tb.workingPeriod : Int)).natAbs * 200 ≤ s.tb.workingPeriod then
        beginFrame time (s.setTb { s.tb with lastPulse := some time, workingPeriod := time - p })
      else s.setTb { s.tb with lock := .flywheel, flywheelCount := 0 } := by
  unfold lockedPulse
  dsimp only
  rw [hp, toFlywheel_locked hl]
  dsimp only
  simp only [Bool.and_eq_true, decide_eq_true_eq, within_iff]
  rw [hp]

/-- Settles O26: in LOCKED, by the pulse's distance from the working period and the moments of R31 and R32. -/
theorem lockedPulses : Obligations.LockedPulses := by
  intro time p s hm hl hp off done missed
  have pulse : referencePulse time s = _ := (referencePulse_locked hm hl time).trans (lockedPulse_eq hl hp time)
  have overdue : overdueFrame s = match s.tb.overdueTime with
    | some x => if s.tb.frameDone then beginFrame x s else s
    | none => s := rfl
  refine ⟨fun h => ?_, fun ho hf => ?_, fun h => ?_, fun h => ?_, fun hf hd => ?_, fun h => ?_⟩
  · exact congrArg (fun t => Host.Outcome.next (settle t)) (pulse.trans (if_neg (by omega)))
  · exact congrArg (fun t => Host.Outcome.next (settle t)) (pulse.trans (if_pos ⟨hf, Nat.le_of_not_lt ho⟩))
  · change Host.Outcome.next (missingPulse s) = _
    rw [missingPulse, if_pos ((pulseMissed_iff hl hp).2 h), toFlywheel_locked hl]
  · change Host.Outcome.next (missingPulse s) = _
    rw [missingPulse, if_neg (fun w => h ((pulseMissed_iff hl hp).1 w))]
  · refine congrArg (fun t => Host.Outcome.next (settle t)) (overdue.trans ?_)
    rw [overdueTime_locked hl hp, if_pos hf]
    exact if_pos ((frameDone_iff _).2 hd)
  · refine congrArg (fun t => Host.Outcome.next (settle t)) (overdue.trans ?_)
    rw [overdueTime_locked hl hp]
    rcases h with h | h
    · rw [if_neg (by omega)]
    · split
      · exact if_neg fun w => h ((frameDone_iff _).1 w)
      · rfl

/-! ### FLYWHEEL and the return to SEARCH (R33, R34) -/

theorem tickWork_tb (s : State) : (tickWork s).tb = s.tb :=
  ((keepsUnits_tb (· = s.tb)).plain.tick fun _ _ h => h).tickWork rfl

theorem recorderFrame_ended {s : State} (h : s.recorder.state = .idle ∨ s.recorder.state = .draining) :
    recorderFrame s = s := by
  unfold recorderFrame
  rcases h with h | h <;> rw [h]

theorem playbackFrame_of_idle {s : State} (h : s.play.state = .idle) : playbackFrame s = s := by
  unfold playbackFrame
  dsimp only
  rw [h]

theorem playBefore_of_idle {s : State} (h : s.play.state = .idle) :
    playBefore s = s.setPlay { s.play with lastDemand := playSupply s } := by
  have unstalled : stallStep s = s := if_pos (by rw [h]; decide)
  rw [playBefore, unstalled]

theorem playAfter_of_idle {s : State} (h : s.play.state = .idle) : playAfter s = s := by
  unfold playAfter
  rw [h]

/-- The safety monitor's work leaves an idle Playback Unit idle. -/
theorem keepsStops_idle : KeepsStops (fun s => s.play.state = .idle) where
  raise _ _ _ h := h
  recordEnds o s h := by rwa [(recordEnds_grants o s).2]
  endPlayback o s _ := endPlayback_idle o s
  safety _ _ _ h := h
  power on s h := by rwa [(setPower_keeps on s).2.2.2.1]

theorem keepsDrives_idle : KeepsDrives (fun s => s.play.state = .idle) where
  channels _ _ _ h := h
  driveCause := driveCause_keeps (fun _ _ _ h => h) (fun cs _ h => keepsStops_idle.causeEvents cs h)
  settled _ _ _ _ h := h

/-- No tick begins a playback. -/
theorem keepsTick_idle : KeepsTick (fun s => s.play.state = .idle) where
  raise _ _ _ h := h
  playBefore s h := by rw [playBefore_of_idle h]; exact h
  playAfter s h := by rwa [playAfter_of_idle h]
  commitRun _ _ h := h
  commitStop _ _ h := h
  commitRest _ h := h
  writeBack _ _ h := h
  causes cs _ h := keepsStops_idle.causeEvents cs h
  stoppedTest _ h := keepsStops_idle.stoppedTest h
  compose s h := ((keepsTakes_grants _ _).composeSample ⟨rfl, rfl⟩ : (composeSample s).grants = s.grants ∧
    (composeSample s).play = s.play).2 ▸ h
  exchange _ h := keepsDrives_idle.exchangeTick h
  telemetry _ _ h := h
  evaluate _ h := keepsStops_idle.evaluateZones h

/-- The frame start that returns to SEARCH: the recording and the playback end, and no frame-start work is left to do. -/
theorem openWork_gaveUp {s : State} (hp : s.tb.pendingSettings = none) (hg : s.tb.gaveUp = true) (time : Nat) :
    openWork time s = endPlayback .referenceLost (recordEnds .referenceLost (s.setTb (s.tb.opened time))) := by
  have plain : applySettings s.tb = s.tb := by rw [applySettings, hp]
  have ended : (endPlayback .referenceLost (recordEnds .referenceLost (s.setTb (s.tb.opened time)))).recorder.state = .idle ∨
      (endPlayback .referenceLost (recordEnds .referenceLost (s.setTb (s.tb.opened time)))).recorder.state = .draining := by
    rw [(keepsPlay_recorder _).endPlayback .referenceLost rfl]
    exact recordEnds_state _ _
  unfold openWork
  dsimp only
  rw [plain, if_pos hg, show openFrame time (flywheelFrame s.tb) = s.tb.opened time by rw [Timebase.opened, plain],
    recorderFrame_ended ended, playbackFrame_of_idle (endPlayback_idle _ _)]

theorem recordEnds_tb (o : RecOutcome) (s : State) : (recordEnds o s).tb = s.tb :=
  ((keepsTakes_stopFrame s).recordEnds o (.refl s)).tb

theorem endPlayback_tb (o : PlayOutcome) (s : State) : (endPlayback o s).tb = s.tb :=
  ((keepsPlay_stopFrame s).endPlayback o (.refl s)).tb

theorem recordEnds_armed {s : State} (h : s.recorder.state = .armed) (o : RecOutcome) :
    (recordEnds o s).recorder = Recorder.reset := by
  rw [recordEnds, h]
  rfl

/-- R111: a recording with samples to program drains, with the cause as its outcome. -/
theorem recordEnds_recording {s : State} (h : s.recorder.state = .recording) (hq : s.recorder.queue ≠ []) (o : RecOutcome) :
    (recordEnds o s).recorder.state = .draining ∧ (recordEnds o s).recorder.outcome = some o := by
  have waiting : s.recorder.queue.isEmpty = false := by rw [List.isEmpty_eq_false_iff]; exact hq
  rw [recordEnds, h]
  dsimp only
  rw [drainFinish, if_neg (by simp [dropMarks, waiting])]
  exact ⟨rfl, rfl⟩

/-- Settles O27: in FLYWHEEL, by the windows of the two frame starts, and the ninth frame start by what it ends. -/
theorem flywheelPulses : Obligations.FlywheelPulses := by
  intro time s hm hl hs due early after
  have ownTime : s.tb.ownTime = due := if_pos hs
  have hdone : s.tb.frameDone = true ↔ s.tb.n ≤ s.tb.t + 1 := by rw [frameDone_iff, hs]; simp
  have hearly : (s.tb.frameDone && inPhase time s.tb.ownTime s.tb.workingPeriod) = true ↔ early := by
    rw [Bool.and_eq_true, hdone, inPhase_iff, ownTime, and_comm]
  have pulse : referencePulse time s = _ := referencePulse_flywheel hm hl time
  unfold flywheelPulse at pulse
  dsimp only at pulse
  have frame : s.tb.n ≤ s.tb.t + 1 → frameStart s = beginFrame due s := fun hn => by
    rw [frameStart_acts (by rw [hl]; decide) (hdone.2 hn), ownTime]
  refine ⟨fun h => ?_, fun he ha => ?_, fun he ha => ?_, fun hc => ?_, fun hc hn => ?_, fun hc => ?_⟩
  · exact congrArg (fun t => Host.Outcome.next (settle t)) (pulse.trans (if_pos (hearly.2 h)))
  · rw [if_neg (fun w => he (hearly.1 w)), if_pos ((afterFrame_iff _ _).2 ha)] at pulse
    exact congrArg (fun t => Host.Outcome.next (settle t)) pulse
  · rw [if_neg (fun w => he (hearly.1 w)), if_neg (fun w => ha ((afterFrame_iff _ _).1 w))] at pulse
    exact congrArg (fun t => Host.Outcome.next (settle t)) pulse
  · have going : s.tb.gaveUp = false := gaveUp_eq_false fun _ => hc
    exact congrArg Host.Outcome.next (if_neg (by rw [going]; decide))
  all_goals
    have hg : s.tb.gaveUp = true := by rw [Timebase.gaveUp, hl, hc]; rfl
    have exact' : exec .flywheelToSearch s = .next (settle (frameStart s)) := congrArg Host.Outcome.next (if_pos hg)
  · rw [exact', frameStart_rests (.inr (by rw [hdone]; omega))]
  · refine ⟨exact', fun hn => by rw [exact', frame hn], fun hp => ⟨openWork due s, rfl, fun hn => ?_, ?_⟩⟩
    · refine ⟨_, exact', ?_, ?_⟩
      · rw [(endWork_settle _).tb, frame hn]
        exact tickWork_tb _
      · rw [(endWork_settle _).play, frame hn]
        exact keepsTick_idle.tickWork (by rw [openWork_gaveUp hp hg]; exact endPlayback_idle _ _)
    · rw [openWork_gaveUp hp hg]
      have plain : applySettings s.tb = s.tb := by rw [applySettings, hp]
      have recorder := (keepsPlay_recorder _).endPlayback .referenceLost
        (s := recordEnds .referenceLost (s.setTb (s.tb.opened due))) rfl
      have recStops := recordEnds_stops .referenceLost (s.setTb (s.tb.opened due))
      have recGrants := recordEnds_grants .referenceLost (s.setTb (s.tb.opened due))
      refine ⟨?_, endPlayback_idle _ _, ?_, fun ha => ?_, fun hr hq => ?_, fun hi => ?_, ?_, ?_⟩
      · rw [endPlayback_tb, recordEnds_tb]
        change s.tb.opened due = _
        rw [Timebase.opened, plain, flywheelFrame, if_pos hg]
        simp [openFrame, hs]
      · rw [recorder]
        exact recordEnds_state _ _
      · rw [recorder]
        exact recordEnds_armed (s := s.setTb (s.tb.opened due)) ha _
      · rw [recorder]
        exact recordEnds_recording (s := s.setTb (s.tb.opened due)) hr hq _
      · rw [endPlayback_of_idle _ (by rw [recGrants.2]; exact hi)]
        exact recGrants.1
      · rw [endPlayback_lanes, recordEnds_lanes]
        rfl
      · rw [(endPlayback_stops _ _).1]
        exact recStops.1

end Sys2Proof.Machine
end

section
/-! PROOFS. The end of a playback exactly, and the Playback Unit's work at a frame start (O28). -/

namespace Sys2Proof.Machine

open Sys2Proof

/-! ### One change of each lane's grant -/

theorem SameButQueues.setGrants {s t : State} (h : SameButQueues s t) (v : Vector Grant 12) :
    SameButQueues (s.setGrants v) (t.setGrants v) := { h with grants := rfl }

theorem forEach_lanes_list {f : Lane → State → State} {g : Lane → Grant → Grant} {s : State}
    (h : ∀ l t, SameButQueues (s.setGrants t.grants) t → SameButQueues (t.setGrant l (g l)) (f l t)) (ls : List Lane)
    (hn : ls.Nodup) {t : State} (ht : SameButQueues (s.setGrants t.grants) t) :
    SameButQueues (s.setGrants (mapAll t.grants fun l x => if l ∈ ls then g l x else x)) (forEach ls f t) := by
  induction ls generalizing t with
  | nil =>
    have same : (mapAll t.grants fun l x => if l ∈ ([] : List Lane) then g l x else x) = t.grants :=
      Vector.ext fun i hi => by simp
    rw [same]
    exact ht
  | cons i ls ih =>
    have stepped := h i t ht
    have first : SameButQueues (s.setGrants (f i t).grants) (f i t) := by
      rw [stepped.grants]
      exact (ht.setGrants (t.setGrant i (g i)).grants).trans stepped
    have rest := ih (List.nodup_cons.mp hn).2 first
    have agree : (mapAll t.grants fun l x => if l ∈ i :: ls then g l x else x) =
        mapAll (f i t).grants fun l x => if l ∈ ls then g l x else x := by
      refine Vector.ext fun j hj => ?_
      have here : (f i t).grants[j] = (t.setGrant i (g i)).grants[j] := by rw [stepped.grants]
      rw [mapAll_getNat _ _ hj, mapAll_getNat _ _ hj, here, State.setGrant, State.setGrants_grants, updAt_getNat _ _ _ hj]
      by_cases e : i.val = j
      · obtain rfl : i = ⟨j, hj⟩ := Fin.ext e
        rw [if_pos (List.mem_cons_self ..), if_neg (List.nodup_cons.mp hn).1, if_pos rfl]
      · have ne : ¬ (⟨j, hj⟩ : Lane) = i := fun w => e (by rw [← w])
        simp [e, ne]
    rw [agree]
    exact rest

/-- A change of the grant table lane by lane, each lane by itself, is the change of all of them at once. -/
theorem forEach_lanes {f : Lane → State → State} {g : Lane → Grant → Grant} {s : State}
    (h : ∀ l t, SameButQueues (s.setGrants t.grants) t → SameButQueues (t.setGrant l (g l)) (f l t)) :
    SameButQueues (s.setGrants (mapAll s.grants g)) (forEach allLanes f s) := by
  have all := forEach_lanes_list h allLanes (List.nodup_finRange 12) (t := s) (.refl s)
  have every : (fun (l : Lane) x => if l ∈ allLanes then g l x else x) = g := by
    funext l x
    exact if_pos (List.mem_finRange l)
  rwa [every] at all

/-! ### The end of a playback (R45, R133) -/

/-- What a lane's grant becomes when the playback leaves the lanes it holds. -/
def State.leftByPlayback (s : State) (l : Lane) (g : Grant) : Grant :=
  if s.participates l && g.heldByPlayback then chooseNext s.lens l s.lanes[l].p g else g

/-- The pass has ended: power-up values, and the next holder on each lane the playback held. -/
def PassEnded (s u : State) : Prop :=
  u.play = Playback.reset ∧ ∀ l : Lane, u.grants[l] = s.leftByPlayback l s.grants[l]

theorem setGrant_id (s : State) (l : Lane) {f : Grant → Grant} (h : f s.grants[l] = s.grants[l]) : s.setGrant l f = s := by
  have same : updAt s.grants l f = s.grants := Vector.ext fun j hj => by
    rw [updAt_getNat _ _ _ hj]
    split
    · next e =>
      obtain rfl : l = ⟨j, hj⟩ := Fin.ext e
      exact h
    · rfl
  rw [State.setGrant, same]
  rfl

theorem setGrant_congr (s : State) (l : Lane) {f g : Grant → Grant} (h : f s.grants[l] = g s.grants[l]) :
    s.setGrant l f = s.setGrant l g := by
  rw [State.setGrant, State.setGrant, updAt, updAt, h]

/-- The leaving of one lane, as a change of its grant. -/
theorem leaveLane_setGrant {s : State} {l : Lane} (h : s.grants[l].holder.isSome = true) (why : EndReason) :
    SameButQueues (s.setGrant l fun g => chooseNext s.lens l s.lanes[l].p g) (leaveLane l why s) := by
  obtain ⟨x, hx⟩ := Option.isSome_iff_exists.mp h
  have left := leaveLane_frame hx why
  rwa [setGrant_congr s l (f := fun _ => chooseNext s.lens l s.lanes[l].p s.grants[l])
    (g := fun g => chooseNext s.lens l s.lanes[l].p g) rfl] at left

theorem heldByPlayback_holder {g : Grant} (h : g.heldByPlayback = true) : g.holder.isSome = true := by
  unfold Grant.heldByPlayback at h
  split at h
  · next hx => rw [hx]; rfl
  · cases h

theorem chooseNext_notPlayback (x : Lens) (l : Lane) (p : Int) (g : Grant) : (chooseNext x l p g).heldByPlayback = false := by
  unfold chooseNext
  split <;> rfl

/-- The lanes of an ended playback. -/
theorem playbackLeaves (s : State) : SameButQueues (s.setGrants (mapAll s.grants s.leftByPlayback))
    (forEach allLanes
      (fun l t => if t.participates l && t.grants[l].heldByPlayback then leaveLane l .playbackEnd t else t) s) := by
  refine forEach_lanes fun l t ht => ?_
  have part : t.participates l = s.participates l := by rw [State.participates, ht.play]; rfl
  have next : ∀ g, chooseNext t.lens l t.lanes[l].p g = chooseNext s.lens l s.lanes[l].p g := fun g => by
    rw [ht.lens, ht.lanes]; rfl
  split
  · next hc =>
    rw [Bool.and_eq_true] at hc
    rw [setGrant_congr t l (g := fun g => chooseNext t.lens l t.lanes[l].p g) (by
      rw [State.leftByPlayback, ← part, if_pos (by rw [hc.1, hc.2]; rfl)]
      exact (next _).symm)]
    exact leaveLane_setGrant (heldByPlayback_holder hc.2) _
  · next hc =>
    rw [setGrant_id t l (by rw [State.leftByPlayback, ← part, if_neg hc])]
    exact .refl t

theorem endPlayback_ended {s : State} (h : s.play.state ≠ .idle) (o : PlayOutcome) : PassEnded s (endPlayback o s) := by
  rw [endPlayback, if_neg h]
  refine ⟨rfl, fun l => ?_⟩
  have left := (playbackLeaves s).grants
  change (forEach allLanes _ s).grants[l] = _
  rw [left, State.setGrants_grants, mapAll_get]

theorem PassEnded.of_eq {s s' u : State} (h : PassEnded s' u) (hp : s'.play.participation = s.play.participation)
    (hg : s'.grants = s.grants) (hl : s'.lens = s.lens) (hn : s'.lanes = s.lanes) : PassEnded s u := by
  refine ⟨h.1, fun l => ?_⟩
  rw [h.2 l, State.leftByPlayback, State.leftByPlayback, State.participates, State.participates, hp, hg, hl, hn]

/-! ### A frame start that finds the unit rolling (R123 to R127) -/

theorem sample_filter (u : Playback) {j k : Nat} (h : k ≤ j) :
    Playback.sample { u with buffer := u.buffer.filter fun x => k ≤ x.index } j = u.sample j := by
  unfold Playback.sample
  induction u.buffer with
  | nil => rfl
  | cons x xs ih =>
    by_cases hx : k ≤ x.index
    · rw [List.filter_cons_of_pos (by simpa using hx), List.find?_cons, List.find?_cons, ih]
    · rw [List.filter_cons_of_neg (by simpa using hx), List.find?_cons_of_neg (by simp; omega), ih]

/-- The playback's record at a frame k of the roll, before the marks of the sample. -/
def Playback.atFrame (u : Playback) (k : Nat) : Playback :=
  { u with k := some k, buffer := u.buffer.filter (fun x => k ≤ x.index), marksDue := (u.sample k).isNone }

theorem atFrame_sample (u : Playback) {j k : Nat} (h : k ≤ j) : (u.atFrame k).sample j = u.sample j := sample_filter u h

theorem atFrame_posAt (u : Playback) {j k : Nat} (h : k ≤ j) (l : Lane) : (u.atFrame k).posAt j l = u.posAt j l := by
  rw [Playback.posAt, Playback.posAt, atFrame_sample u h]

theorem atFrame_lacks (u : Playback) (k : Nat) : (u.atFrame k).lacks k = u.lacks k := by
  rw [Playback.lacks, Playback.lacks, atFrame_sample u (Nat.le_refl k), atFrame_sample u (Nat.le_succ k)]
  rfl

/-- The frame of the roll that the frame start is. -/
def State.rollFrame (s : State) : Nat := s.tb.f - s.play.fRoll.getD 0

theorem rollingFrame_over {s : State} (h : s.play.len ≤ s.rollFrame) :
    rollingFrame s = finishPass (s.setPlay { s.play with k := some s.rollFrame }) := by
  unfold rollingFrame
  exact if_pos h

theorem rollingFrame_within {s : State} (h : s.rollFrame < s.play.len) : rollingFrame s =
    if stallLimitHit (actMarks s.rollFrame (s.setPlay (s.play.atFrame s.rollFrame))) then
      endPlayback .stall (actMarks s.rollFrame (s.setPlay (s.play.atFrame s.rollFrame)))
    else actMarks s.rollFrame (s.setPlay (s.play.atFrame s.rollFrame)) := by
  unfold rollingFrame
  exact if_neg (Nat.not_le.mpr h)

theorem stallLimitHit_iff (s : State) : stallLimitHit s = true ↔
    s.play.state = .rolling ∧ s.play.stallCount = 8 ∧ s.play.lacks (s.play.k.getD 0) = true := by
  unfold stallLimitHit
  rw [Bool.and_eq_true, Bool.and_eq_true, decide_eq_true_eq, decide_eq_true_eq, and_assoc]

theorem actMarks_none {s : State} {k : Nat} (h : s.play.sample k = none) : actMarks k s = s := by
  rw [actMarks, h]

/-- The report of a CUE mark. -/
def cueMarked (k : Nat) (x : BufSample) (s : State) : State :=
  if x.marks.cue then raiseMotion (.playMark k s.tb.f) s else s

theorem actMarks_some {s : State} {k : Nat} {x : BufSample} (h : s.play.sample k = some x) :
    actMarks k s = if x.marks.defer then beginSegment k (cueMarked k x s) else cueMarked k x s := by
  rw [actMarks, h]
  rfl

theorem cueMarked_frame (k : Nat) (x : BufSample) (s : State) : SameButQueues s (cueMarked k x s) := by
  unfold cueMarked
  split
  · exact raiseMotion_frame _ s
  · exact .refl s

theorem beginSegment_last {s : State} {k : Nat} (h : k + 1 = s.play.len) : beginSegment k s = s := if_pos h

/-- Marks that begin no segment change nothing but the events. -/
theorem actMarks_plain {s : State} {k : Nat} (h : s.play.defersAt k = false) : SameButQueues s (actMarks k s) := by
  cases hx : s.play.sample k with
  | none =>
    rw [actMarks_none hx]
    exact .refl s
  | some x =>
    have frame := cueMarked_frame k x s
    rw [actMarks_some hx]
    split
    · next hd =>
      have last : k + 1 = (cueMarked k x s).play.len := by
        rw [Playback.defersAt, hx] at h
        simpa [hd, frame.play] using h
      rw [beginSegment_last last]
      exact frame
    · exact frame

/-! ### A deferred segment begins (R127) -/

/-- The sample from which the segment of sample k resumes, and what the buffer keeps. -/
def State.resumeSearch (s : State) (k : Nat) : List BufSample :=
  (s.play.buffer.filter fun x => k < x.index).dropWhile fun x => !isResume s.playImplied s.play.len x

/-- The playback's record at the start of the segment of sample k. -/
def State.segmentAt (s : State) (k : Nat) : Playback :=
  { s.play with
    state := .deferred
    deferIndex := some k
    resumeIndex := (s.resumeSearch k).head?.map fun x => x.index
    holdPoints := some (Vector.ofFn fun l => if s.participates l then s.play.posAt k l else none)
    stallDemands := none
    stallCount := 0
    marksDue := false
    buffer := s.resumeSearch k }

theorem beginSegment_frame {s : State} {k : Nat} (h : k + 1 ≠ s.play.len) :
    SameButQueues (resetPlayContexts (s.setPlay (s.segmentAt k))) (beginSegment k s) := by
  unfold beginSegment
  dsimp only
  rw [if_neg h]
  exact raiseMotion_frame _ _

theorem resetPlayContexts_grant (s : State) (l : Lane) :
    (resetPlayContexts s).grants[l] = if s.participates l then freshPlaybackCtx s.grants[l] else s.grants[l] := by
  rw [resetPlayContexts, State.setGrants_grants, mapAll_get]

/-- What a sample with DEFER that is not the last leads to. -/
theorem actMarks_defers {s : State} {k : Nat} {x : BufSample} (hx : s.play.sample k = some x) (hd : x.marks.defer = true)
    (hk : k + 1 ≠ s.play.len) :
    (actMarks k s).play = s.segmentAt k ∧ ∀ l : Lane, (actMarks k s).grants[l] =
      if s.participates l then freshPlaybackCtx s.grants[l] else s.grants[l] := by
  have cue := cueMarked_frame k x s
  rw [actMarks_some hx, if_pos hd]
  have began := beginSegment_frame (s := cueMarked k x s) (k := k) (by rwa [cue.play])
  have part : ∀ l, (cueMarked k x s).participates l = s.participates l := fun l => by
    rw [State.participates, cue.play]; rfl
  have segment : (cueMarked k x s).segmentAt k = s.segmentAt k := by
    simp only [State.segmentAt, State.resumeSearch, State.playImplied, part, cue.play, cue.mem]
  refine ⟨began.play.trans segment, fun l => ?_⟩
  rw [began.grants, resetPlayContexts_grant, segment]
  change (if s.participates l then freshPlaybackCtx (cueMarked k x s).grants[l] else (cueMarked k x s).grants[l]) = _
  rw [cue.grants]

/-- The buffer from the resume sample on, found in it. -/
theorem resumeSearch_found {s : State} {k : Nat} {before after : List BufSample} {y : BufSample}
    (hs : (s.play.buffer.filter fun z => k < z.index) = before ++ y :: after)
    (hb : ∀ z ∈ before, isResume s.playImplied s.play.len z = false) (hy : isResume s.playImplied s.play.len y = true) :
    s.resumeSearch k = y :: after := by
  rw [State.resumeSearch, hs, List.dropWhile_append_of_pos (fun z hz => by rw [hb z hz]; rfl),
    List.dropWhile_cons_of_neg (by rw [hy]; decide)]

theorem resumeSearch_none {s : State} {k : Nat}
    (h : ∀ y ∈ s.play.buffer, k < y.index → isResume s.playImplied s.play.len y = false) : s.resumeSearch k = [] := by
  rw [State.resumeSearch, List.dropWhile_eq_nil_iff]
  intro y hy
  obtain ⟨hm, hi⟩ := List.mem_filter.mp hy
  rw [h y hm (of_decide_eq_true hi)]
  rfl

/-! ### The end of the take (R124) -/

theorem finishPass_done {s : State} (h : s.play.endMode ≠ some .holdEnd) : finishPass s = endPlayback .done s := by
  unfold finishPass
  split
  · next he => exact absurd he h
  · rfl

theorem finishPass_holds {s : State} (h : s.play.endMode = some .holdEnd) :
    (finishPass s).grants = s.grants ∧ (finishPass s).play.state = .holdEnd ∧ (finishPass s).play.buffer = [] ∧
      ∃ e, (finishPass s).play.endHold = some e ∧ ∀ l : Lane, s.participates l = true →
        e[l] = (s.play.posAt (s.play.len - 1) l).orElse fun _ => s.play.lastDemand[l] := by
  unfold finishPass
  rw [h]
  dsimp only
  refine ⟨rfl, rfl, rfl, _, rfl, fun l hl => ?_⟩
  rw [Fin.getElem_fin, Vector.getElem_ofFn]
  exact if_pos hl

/-! ### A roll (R121, R123) -/

/-- The state with the roll's start reported, where it is one. -/
def rollReported (s : State) : State :=
  if s.play.state = .rollArmed ∧ s.play.fRoll = none then raiseMotion (.rollStart s.play.slot s.tb.f) s else s

theorem rollReported_frame (s : State) : SameButQueues s (rollReported s) := by
  unfold rollReported
  split
  · exact raiseMotion_frame _ s
  · exact .refl s

/-- The unit rolls from the frame `first`. -/
def rolledFrom (s : State) (first : Nat) (k : Option Nat) : State :=
  (rollReported s).setPlay { s.play with
    state := .rolling, armed := if s.play.state = .rollArmed then none else s.play.armed, fRoll := some first, k := k }

/-- The frame start finds the unit rolling from the frame `first`, or rolls it. -/
def Rolls (s : State) (first : Nat) : Prop :=
  ((s.play.state = .rollArmed ∧ ∃ j, s.play.armed = some (s.tb.f, j)) ∧ ¬ (s.tb.mode = .referenced ∧ s.tb.lock = .search) ∧
      s.play.fRoll.getD s.tb.f = first) ∨
    (s.play.state = .rolling ∧ s.play.fRoll = some first)

theorem playbackFrame_rolls {s : State} {first : Nat} (h : Rolls s first) :
    ∃ k, playbackFrame s = rollingFrame (rolledFrom s first k) := by
  rcases h with ⟨⟨hs, j, hj⟩, hm, rfl⟩ | ⟨hs, hf⟩
  · refine ⟨some j, ?_⟩
    have trusted : ¬ (decide (s.tb.mode = .referenced) && decide (s.tb.lock = .search)) = true := by
      rw [Bool.and_eq_true, decide_eq_true_eq, decide_eq_true_eq]; exact hm
    unfold playbackFrame
    dsimp only
    rw [hs, hj]
    dsimp only
    rw [if_pos rfl, if_neg trusted]
    unfold rolledFrom rollReported
    rw [hs]
    cases hf : s.play.fRoll <;> rfl
  · refine ⟨s.play.k, ?_⟩
    have same : rolledFrom s first s.play.k = s := by
      have rolling : s.play.state ≠ .rollArmed := by rw [hs]; decide
      simp only [rolledFrom, rollReported, rolling, false_and, if_false]
      rw [← hf, ← hs]
      rfl
    unfold playbackFrame
    dsimp only
    rw [hs, same]

section Rolled

variable (s : State) (first : Nat) (k : Option Nat)

/-- The playback's record at the frame of a roll, with the marks of its sample due or not. -/
def State.rollingAt (s : State) (first : Nat) (due : Bool) : Playback :=
  { s.play with
    state := .rolling
    armed := if s.play.state = .rollArmed then none else s.play.armed
    fRoll := some first
    k := some (s.tb.f - first)
    buffer := s.play.buffer.filter fun x => s.tb.f - first ≤ x.index
    marksDue := due }

theorem rolledFrom_rollFrame : (rolledFrom s first k).rollFrame = s.tb.f - first := by
  change (rollReported s).tb.f - first = _
  rw [(rollReported_frame s).tb]

theorem rolledFrom_atFrame : (rolledFrom s first k).setPlay ((rolledFrom s first k).play.atFrame (s.tb.f - first)) =
    (rollReported s).setPlay (s.rollingAt first (s.play.sample (s.tb.f - first)).isNone) := rfl

theorem PassEnded.ofRolled {s u v : State} (h : PassEnded v u) (x : Playback) (hv : SameButQueues ((rollReported s).setPlay x) v)
    (hx : x.participation = s.play.participation) : PassEnded s u := by
  have f := rollReported_frame s
  refine h.of_eq (by rw [hv.play]; exact hx) ?_ ?_ ?_
  · rw [hv.grants]; exact f.grants
  · rw [hv.lens]; exact f.lens
  · rw [hv.lanes]; exact f.lanes

end Rolled

/-- R124: the frame after the take's last sample. -/
theorem rolls_over {s : State} {first : Nat} (h : Rolls s first) (hk : s.play.len ≤ s.tb.f - first) :
    (s.play.endMode ≠ some .holdEnd → PassEnded s (playbackFrame s)) ∧
      (s.play.endMode = some .holdEnd → (playbackFrame s).grants = s.grants ∧ (playbackFrame s).play.state = .holdEnd ∧
        (playbackFrame s).play.buffer = [] ∧ ∃ e, (playbackFrame s).play.endHold = some e ∧
          ∀ l : Lane, s.participates l = true →
            e[l] = (s.play.posAt (s.play.len - 1) l).orElse fun _ => s.play.lastDemand[l]) := by
  obtain ⟨k, hu⟩ := playbackFrame_rolls h
  rw [rollingFrame_over (by rw [rolledFrom_rollFrame]; exact hk)] at hu
  refine ⟨fun he => ?_, fun he => ?_⟩
  · rw [hu, finishPass_done (by exact he)]
    exact (endPlayback_ended (fun hi => by cases hi) .done).ofRolled
      { (rolledFrom s first k).play with k := some (rolledFrom s first k).rollFrame } (.refl _) rfl
  · obtain ⟨hg, hst, hb, e, hhold, hpos⟩ := finishPass_holds (s := (rolledFrom s first k).setPlay
      { (rolledFrom s first k).play with k := some (rolledFrom s first k).rollFrame }) he
    rw [hu]
    exact ⟨hg.trans (rollReported_frame s).grants, hst, hb, e, hhold, hpos⟩

/-- The roll within the take: the marks of the frame's sample, and the stall limit after them. -/
theorem rolls_within {s : State} {first : Nat} (h : Rolls s first) (hk : s.tb.f - first < s.play.len) :
    let v := (rollReported s).setPlay (s.rollingAt first (s.play.sample (s.tb.f - first)).isNone)
    playbackFrame s = if stallLimitHit (actMarks (s.tb.f - first) v) then endPlayback .stall (actMarks (s.tb.f - first) v)
      else actMarks (s.tb.f - first) v := by
  obtain ⟨k, hu⟩ := playbackFrame_rolls h
  rw [rollingFrame_within (by rw [rolledFrom_rollFrame]; exact hk), rolledFrom_rollFrame, rolledFrom_atFrame] at hu
  exact hu

theorem rollingAt_lacks (s : State) (first : Nat) (due : Bool) :
    (s.rollingAt first due).lacks (s.tb.f - first) = s.play.lacks (s.tb.f - first) := atFrame_lacks s.play _

theorem rollingAt_sample (s : State) (first : Nat) (due : Bool) :
    (s.rollingAt first due).sample (s.tb.f - first) = s.play.sample (s.tb.f - first) := atFrame_sample s.play (Nat.le_refl _)

theorem rollingAt_defersAt (s : State) (first : Nat) (due : Bool) :
    (s.rollingAt first due).defersAt (s.tb.f - first) = s.play.defersAt (s.tb.f - first) := by
  rw [Playback.defersAt, Playback.defersAt, rollingAt_sample]
  rfl

/-- A roll whose sample begins no segment hits the stall limit exactly with the count 8 and a sample missing (R126). -/
theorem rolls_stallHit {s v : State} {first : Nat} {due : Bool} (hv : v.play = s.rollingAt first due)
    (hd : s.play.defersAt (s.tb.f - first) = false) : stallLimitHit (actMarks (s.tb.f - first) v) = true ↔
      s.play.stallCount = 8 ∧ s.play.lacks (s.tb.f - first) = true := by
  have frame := actMarks_plain (s := v) (k := s.tb.f - first) (by rw [hv, rollingAt_defersAt]; exact hd)
  rw [stallLimitHit_iff, frame.play, hv]
  exact ⟨fun ⟨_, hc, hl⟩ => ⟨hc, (rollingAt_lacks s first due).symm.trans hl⟩,
    fun ⟨hc, hl⟩ => ⟨rfl, hc, (rollingAt_lacks s first due).trans hl⟩⟩

theorem rolls_stall {s : State} {first : Nat} (h : Rolls s first) (hk : s.tb.f - first < s.play.len)
    (hc : s.play.stallCount = 8) (hl : s.play.lacks (s.tb.f - first) = true)
    (hd : s.play.defersAt (s.tb.f - first) = false) : PassEnded s (playbackFrame s) := by
  have hu := rolls_within h hk
  dsimp only at hu
  rw [if_pos ((rolls_stallHit rfl hd).2 ⟨hc, hl⟩)] at hu
  have frame := actMarks_plain (k := s.tb.f - first)
    (s := (rollReported s).setPlay (s.rollingAt first (s.play.sample (s.tb.f - first)).isNone))
    (by rw [State.setPlay_play, rollingAt_defersAt]; exact hd)
  rw [hu]
  refine (endPlayback_ended ?_ .stall).ofRolled _ frame rfl
  rw [frame.play]
  exact fun hi => by cases hi

theorem rolls_plain {s : State} {first : Nat} (h : Rolls s first) (hk : s.tb.f - first < s.play.len)
    (hc : s.play.stallCount ≠ 8 ∨ s.play.lacks (s.tb.f - first) = false)
    (hd : s.play.defersAt (s.tb.f - first) = false) : playbackFrame s = actMarks (s.tb.f - first)
      ((rollReported s).setPlay (s.rollingAt first (s.play.sample (s.tb.f - first)).isNone)) := by
  refine (rolls_within h hk).trans (if_neg fun hit => ?_)
  obtain ⟨h8, hl⟩ := (rolls_stallHit rfl hd).1 hit
  rcases hc with hc | hc
  · exact hc h8
  · rw [hc] at hl
    cases hl

/-- A roll whose sample begins a segment never hits the stall limit. -/
theorem rolls_defers {s : State} {first : Nat} {x : BufSample} (h : Rolls s first) (hk : s.tb.f - first + 1 < s.play.len)
    (hx : s.play.sample (s.tb.f - first) = some x) (hd : x.marks.defer = true) :
    let v := (rollReported s).setPlay (s.rollingAt first false)
    (playbackFrame s).play = v.segmentAt (s.tb.f - first) ∧ ∀ l : Lane, (playbackFrame s).grants[l] =
      if s.participates l then freshPlaybackCtx s.grants[l] else s.grants[l] := by
  have hu := rolls_within h (by omega)
  dsimp only at hu
  rw [hx] at hu
  obtain ⟨hp, hg⟩ := actMarks_defers (s := (rollReported s).setPlay (s.rollingAt first false)) (k := s.tb.f - first)
    ((rollingAt_sample s first false).trans hx) hd (by change s.tb.f - first + 1 ≠ s.play.len; omega)
  have deferred : ¬ stallLimitHit (actMarks (s.tb.f - first) ((rollReported s).setPlay (s.rollingAt first false))) = true := by
    rw [stallLimitHit_iff, hp]
    exact fun w => by cases w.1
  rw [show (some x).isNone = false from rfl, if_neg deferred] at hu
  rw [hu]
  refine ⟨hp, fun l => (hg l).trans ?_⟩
  change (if s.participates l then freshPlaybackCtx (rollReported s).grants[l] else (rollReported s).grants[l]) = _
  rw [(rollReported_frame s).grants]

/-! ### Frame starts that find the unit armed or deferred -/

theorem playbackFrame_rests {s : State} (hr : s.play.state ≠ .rolling) (hd : s.play.state ≠ .deferred)
    (ha : ¬ (s.play.state = .rollArmed ∧ ∃ j, s.play.armed = some (s.tb.f, j))) : playbackFrame s = s := by
  unfold playbackFrame
  dsimp only
  split
  · next hs =>
    split
    · next f j hj =>
      rw [if_neg]
      rintro rfl
      exact ha ⟨hs, j, hj⟩
    · rfl
  · next hs => exact absurd hs hr
  · next hs => exact absurd hs hd
  · rfl

/-- R121: the armed frame with the lock state SEARCH. -/
theorem playbackFrame_untrusted {s : State} (ha : s.play.state = .rollArmed ∧ ∃ j, s.play.armed = some (s.tb.f, j))
    (hm : s.tb.mode = .referenced ∧ s.tb.lock = .search) : playbackFrame s = endPlayback .referenceLost s := by
  obtain ⟨hs, j, hj⟩ := ha
  unfold playbackFrame
  dsimp only
  rw [hs, hj]
  dsimp only
  rw [if_pos rfl, if_pos (by rw [hm.1, hm.2]; rfl)]

/-- R131: a frame start in a segment. -/
theorem playbackFrame_segment {s : State} {r : Nat} (h : s.play.state = .deferred) (hr : s.play.resumeIndex = some r) :
    playbackFrame s = if s.play.fRoll.getD 0 + r + 8 ≤ s.tb.f then endPlayback .deferMissed s else s := by
  unfold playbackFrame
  dsimp only
  rw [h, hr]

theorem playbackFrame_searching {s : State} (h : s.play.state = .deferred) (hr : s.play.resumeIndex = none) :
    playbackFrame s = s := by
  unfold playbackFrame
  dsimp only
  rw [h, hr]

theorem playbackFrame_frame (s : State) :
    (playbackFrame s).tb = s.tb ∧ (playbackFrame s).lanes = s.lanes ∧ (playbackFrame s).safety = s.safety :=
  have frame := (keepsPlay_stopFrame s).playbackFrame (.refl s)
  ⟨frame.tb, frame.lanes, ((keepsPlay_stops _ _).playbackFrame ⟨rfl, rfl⟩).1⟩

end Sys2Proof.Machine
end

section
/-! PROOFS. The Timebase's own frame starts, and what they do with the playback (O28). -/

namespace Sys2Proof.Machine

open Sys2Proof

theorem opened_counters (time : Nat) (b : Timebase) :
    (b.opened time).f = (if b.started then b.f + 1 else 0) ∧ (b.opened time).t = 0 ∧ (b.opened time).frameTime = time := by
  obtain ⟨-, hf, -, -, hs⟩ := applySettings_spec b
  refine ⟨?_, rfl, rfl⟩
  have kept : (flywheelFrame (applySettings b)).f = b.f ∧ (flywheelFrame (applySettings b)).started = b.started := by
    unfold flywheelFrame
    split
    · exact ⟨hf, hs⟩
    · exact ⟨hf, hs⟩
  rw [Timebase.opened, openFrame, kept.1, kept.2]

/-- What the Recorder's frame-start work leaves. -/
theorem recorderFrame_frame (s : State) : StopFrame s (recorderFrame s) ∧ (recorderFrame s).play = s.play ∧
    (recorderFrame s).grants = s.grants ∧ (recorderFrame s).safety = s.safety ∧ (recorderFrame s).drives = s.drives :=
  have grants := (keepsTakes_grants s.grants s.play).recorderFrame (s := s) ⟨rfl, rfl⟩
  have stops := (keepsTakes_stops s.safety s.drives).recorderFrame (s := s) ⟨rfl, rfl⟩
  ⟨(keepsTakes_stopFrame s).recorderFrame (.refl s), grants.2, grants.1, stops.1, stops.2⟩

/-- The Timebase issues its next frame start by itself. -/
theorem nextOwnFrame_acts {s : State} (hd : s.tb.frameDone = true) (hl : s.tb.lock ≠ .locked ∨ s.tb.overdueTime.isSome = true) :
    ∃ time, nextOwnFrame s = beginFrame time s := by
  by_cases h : s.tb.lock = .locked
  · obtain ⟨x, hx⟩ := Option.isSome_iff_exists.mp (hl.resolve_left fun hn => hn h)
    refine ⟨x, ?_⟩
    rw [nextOwnFrame, if_neg (by rw [freeRunning_iff]; exact fun hn => hn h), overdueFrame, hx]
    exact if_pos hd
  · exact ⟨s.tb.ownTime, by rw [nextOwnFrame, if_pos ((freeRunning_iff _).2 h), frameStart_acts h hd]⟩

theorem overdueTime_lock {b : Timebase} (h : b.overdueTime.isSome = true) : b.lock = .locked := by
  cases hl : b.lock <;> rw [Timebase.overdueTime, hl] at h <;> first | rfl | cases h

/-- The state in which the Playback Unit begins its frame-start work. -/
def playbackStart (time : Nat) (s : State) : State := recorderFrame (s.setTb (s.tb.opened time))

theorem playbackStart_frame (time : Nat) (s : State) :
    (playbackStart time s).tb = s.tb.opened time ∧ (playbackStart time s).lanes = s.lanes ∧
      (playbackStart time s).lens = s.lens ∧ (playbackStart time s).play = s.play ∧
      (playbackStart time s).grants = s.grants ∧ (playbackStart time s).safety = s.safety ∧
      (playbackStart time s).drives = s.drives ∧ (playbackStart time s).rig = s.rig :=
  have ⟨frame, play, grants, safety, drives⟩ := recorderFrame_frame (s.setTb (s.tb.opened time))
  ⟨frame.tb, frame.lanes, frame.lens, play, grants, safety, drives, frame.rig⟩

/-- R126, R131: the frame starts that end a pass, as the Timebase issues them. -/
theorem frameEnds {s : State} {first r : Nat} {c : Instr} (hs : s.tb.started = true) (hn : s.tb.n ≤ s.tb.t + 1)
    (hl : s.tb.lock = .none ∨ s.tb.lock = .search ∨ (s.tb.lock = .flywheel ∧ s.tb.flywheelCount ≠ 8) ∨
      s.tb.overdueTime.isSome = true) (hf : s.play.fRoll = some first)
    (hc : (c = .stallLimit ∧ s.play.state = .rolling ∧ s.play.stallCount = 8 ∧ s.tb.f + 1 - first < s.play.len ∧
        s.play.lacks (s.tb.f + 1 - first) = true ∧ s.play.defersAt (s.tb.f + 1 - first) = false) ∨
      (c = .deferMissed ∧ s.play.state = .deferred ∧ s.play.resumeIndex = some r ∧ first + r + 8 ≤ s.tb.f + 1)) :
    ∃ time, exec c s = .next (settle (beginFrame time s)) ∧ (applySettings s.tb).gaveUp = false ∧
      PassEnded (playbackStart time s) (playbackFrame (playbackStart time s)) := by
  have count : s.tb.lock = .flywheel → s.tb.flywheelCount ≠ 8 := by
    intro h
    rcases hl with hl | hl | ⟨-, hl⟩ | hl
    · rw [h] at hl; cases hl
    · rw [h] at hl; cases hl
    · exact hl
    · rw [overdueTime_lock hl] at h; cases h
  have going : s.tb.gaveUp = false := gaveUp_eq_false count
  obtain ⟨time, frame⟩ := nextOwnFrame_acts ((frameDone_iff s.tb).2 (.inr hn)) (by
    rcases hl with hl | hl | ⟨hl, -⟩ | hl
    · exact .inl (by rw [hl]; decide)
    · exact .inl (by rw [hl]; decide)
    · exact .inl (by rw [hl]; decide)
    · exact .inr hl)
  obtain ⟨htb, hlanes, hlens, hplay, hgrants, -, -, -⟩ := playbackStart_frame time s
  have f' : (playbackStart time s).tb.f = s.tb.f + 1 := by rw [htb, (opened_counters time s.tb).1, if_pos hs]
  refine ⟨time, ?_, applySettings_going fun h h8 => absurd h8 (count h), ?_⟩
  · rcases hc with ⟨rfl, hr, h8, hk, hlack, hdef⟩ | ⟨rfl, hd, hr, hk⟩
    · have ends : frameEndsStall s = true := by
        unfold frameEndsStall
        simp [hf, hr, h8, going, hk, hlack, hdef]
      exact congrArg (fun t => Host.Outcome.next (settle t)) ((if_pos ends : stallLimit s = nextOwnFrame s).trans frame)
    · have ends : frameEndsDefer s = true := by
        unfold frameEndsDefer
        simp [hf, hd, hr, going, hk]
      exact congrArg (fun t => Host.Outcome.next (settle t)) ((if_pos ends : deferMissed s = nextOwnFrame s).trans frame)
  · rcases hc with ⟨-, hr, h8, hk, hlack, hdef⟩ | ⟨-, hd, hr, hk⟩
    · refine rolls_stall (first := first) (.inr ⟨by rw [hplay, hr], by rw [hplay, hf]⟩) ?_ ?_ ?_ ?_
      all_goals rw [hplay]
      · rwa [f']
      · exact h8
      · rwa [f']
      · rwa [f']
    · rw [playbackFrame_segment (by rw [hplay, hd]) (by rw [hplay, hr]), hplay, if_pos (by rw [hf, f']; exact hk)]
      exact endPlayback_ended (by rw [hplay, hd]; decide) _

theorem segmentAt_search {s : State} {k : Nat} {xs : List BufSample} (h : s.resumeSearch k = xs) :
    (s.segmentAt k).resumeIndex = xs.head?.map (fun x => x.index) ∧ (s.segmentAt k).buffer = xs := by
  subst h
  exact ⟨rfl, rfl⟩

/-- Settles O28: the frame start by the state in which it finds the unit. -/
theorem frameStartEndsThePlayback : Obligations.FrameStartEndsThePlayback := by
  refine ⟨fun c first r s hs hn hl hf hc => ?_, fun s first => ?_⟩
  · obtain ⟨time, hexec, going, ended⟩ := frameEnds hs hn hl hf hc
    obtain ⟨htb, hlanes, hlens, hplay, hgrants, hsafety, -, -⟩ := playbackStart_frame time s
    obtain ⟨utb, ulanes, usafety⟩ := playbackFrame_frame (playbackStart time s)
    obtain ⟨hreset, hnext⟩ := ended.of_eq (s := s) (by rw [hplay]) hgrants hlens hlanes
    have work : beginFrame time s = tickWork (playbackFrame (playbackStart time s)) :=
      congrArg tickWork (openWork_going going time)
    refine ⟨_, by rw [hexec, work], ?_, ?_, hreset, ulanes.trans hlanes, usafety.trans hsafety, fun l hp hh => ?_,
      fun l hp => ?_⟩
    · rw [utb, htb, (opened_counters time s.tb).1, if_pos hs]
    · rw [utb, htb, (opened_counters time s.tb).2.1]
    · rw [hnext l, State.leftByPlayback, if_pos (by rw [hp, hh]; rfl)]
      exact ⟨rfl, chooseNext_notPlayback _ _ _ _⟩
    · rw [hnext l, State.leftByPlayback, if_neg]
      rw [Bool.and_eq_true]
      rintro ⟨h1, h2⟩
      rcases hp with hp | hp
      · rw [hp] at h1; cases h1
      · rw [hp] at h2; cases h2
  · obtain ⟨utb, ulanes, usafety⟩ := playbackFrame_frame s
    refine ⟨utb, ulanes, usafety, playbackFrame_rests, fun ha hm => ?_, fun hr hk => ?_, fun hr hk hc => ⟨fun hx => ?_, fun x hx hd => ?_⟩,
      fun hr hk h8 hl hd => rolls_stall hr hk h8 hl hd, fun x hr hk hx hd => ?_, fun hd => ⟨fun hr => ?_, fun r hr hf => ⟨fun hk => ?_, fun hk => ?_⟩⟩⟩
    · rw [playbackFrame_untrusted ha hm]
      exact endPlayback_ended (by rw [ha.1]; decide) _
    · obtain ⟨hdone, hholds⟩ := rolls_over hr hk
      refine ⟨hdone, fun he => ?_⟩
      obtain ⟨hg, hst, hb, e, hhold, hpos⟩ := hholds he
      refine ⟨hg, hst, hb, e, hhold, fun l hl => ⟨fun a ha => ?_, fun ha => ?_⟩⟩
      · rw [hpos l hl, ha]; rfl
      · rw [hpos l hl, ha]; rfl
    · have plain := rolls_plain hr hk hc (by rw [Playback.defersAt, hx])
      rw [hx] at plain
      exact plain.trans (actMarks_none ((rollingAt_sample s first true).trans hx))
    · have plain := rolls_plain hr hk hc (by
        rw [Playback.defersAt, hx]
        rcases hd with hd | hd <;> simp [hd])
      rw [hx] at plain
      rw [plain, actMarks_some ((rollingAt_sample s first false).trans hx)]
      have marked : cueMarked (s.tb.f - first) x ((rollReported s).setPlay (s.rollingAt first false)) =
          if x.marks.cue then raiseMotion (.playMark (s.tb.f - first) s.tb.f) ((rollReported s).setPlay (s.rollingAt first false))
          else (rollReported s).setPlay (s.rollingAt first false) := by
        rw [cueMarked, show ((rollReported s).setPlay (s.rollingAt first false)).tb = s.tb from (rollReported_frame s).tb]
      rcases hd with hd | hd
      · rw [if_neg (by rw [hd]; decide)]
        exact marked
      · rw [beginSegment_last (by rw [(cueMarked_frame _ _ _).play]; exact hd), ite_self]
        exact marked
    · obtain ⟨hp, hg⟩ := rolls_defers hr hk hx hd
      have implied : ((rollReported s).setPlay (s.rollingAt first false)).playImplied = s.playImplied := by
        unfold State.playImplied
        rw [State.setPlay_play, State.setPlay_mem, (rollReported_frame s).mem]
        rfl
      have later : ((s.play.buffer.filter fun x => s.tb.f - first ≤ x.index).filter fun x => s.tb.f - first < x.index) =
          s.play.buffer.filter fun x => s.tb.f - first < x.index := by
        rw [List.filter_filter]
        refine List.filter_congr fun x _ => ?_
        by_cases hx : s.tb.f - first < x.index
        · simp [hx, Nat.le_of_lt hx]
        · simp [hx]
      have search : ((rollReported s).setPlay (s.rollingAt first false)).resumeSearch (s.tb.f - first) =
          s.resumeSearch (s.tb.f - first) := by
        unfold State.resumeSearch
        rw [implied]
        exact congrArg _ later
      rw [hp]
      refine ⟨rfl, rfl, rfl, rfl, rfl, rfl, ⟨_, rfl, fun l hl => ?_⟩, fun l hl => ?_, fun l hl => ?_, fun hy => ?_,
        fun before y after hs hb hy => ?_⟩
      · rw [Fin.getElem_fin, Vector.getElem_ofFn]
        refine (if_pos hl).trans ?_
        unfold Playback.posAt
        rw [State.setPlay_play, (rollingAt_sample s first false).trans hx]
      · rw [hg, if_pos hl]
      · rw [hg, if_neg (by rw [hl]; decide)]
      · have none := resumeSearch_none (s := s) (k := s.tb.f - first) hy
        exact segmentAt_search (search.trans none)
      · have found := resumeSearch_found (s := s) (k := s.tb.f - first) hs hb hy
        exact segmentAt_search (search.trans found)
    · exact playbackFrame_searching hd hr
    · rw [playbackFrame_segment hd hr, if_pos (by rw [hf]; exact hk)]
      exact endPlayback_ended (by rw [hd]; decide) _
    · rw [playbackFrame_segment hd hr]
      exact if_neg (by rw [hf]; exact Nat.not_le.mpr hk)

end Sys2Proof.Machine
end

section
/-! PROOFS. The exchanges of a tick: the judgement of those still open, and what it leaves (R158, R159). -/

namespace Sys2Proof.Machine

open Sys2Proof

/-! ### A channel apart from its outputs -/

/-- The channel without its outputs. -/
def Channel.core (c : Channel) : Channel := { c with enable := false, brake := false, edges := [] }

theorem driveOutputs_core (on : Bool) (c : Channel) : (driveOutputs on c).core = c.core := by
  unfold driveOutputs
  split
  · rfl
  · split <;> rfl

theorem refreshOutputs_core (s : State) (l : Lane) : (refreshOutputs s).drives.channels[l].core = s.drives.channels[l].core := by
  rw [refreshOutputs_channel, driveOutputs_core]

/-- Causes and stops touch the outputs of the channels alone. -/
theorem keepsStops_core (s : State) :
    KeepsStops (fun t => ∀ l : Lane, t.drives.channels[l].core = s.drives.channels[l].core) where
  raise _ _ _ h := h
  recordEnds o t h := by rwa [(recordEnds_stops o t).2]
  endPlayback o t h := by rwa [(endPlayback_stops o t).2]
  safety _ _ _ h := h
  power on t h l := by
    rcases setPower_drives on t with hd | hd <;> rw [hd]
    · exact h l
    · rw [refreshOutputs_core]
      exact h l

theorem driveCause_core (why : DisableReason) (l j : Lane) (s : State) :
    (driveCause why l s).drives.channels[j].core = s.drives.channels[j].core := by
  rw [driveCause_eq]
  exact (keepsStops_core s).causeEvents _ (fun i => refreshOutputs_core (s.setLane l (disableLane why)) i) j

/-! ### A cause that stays -/

/-- The motion is stopped and the cause is in the set. -/
def CauseHeld (k : CauseKind) (s : State) : Prop := s.safety.stop ≠ .run ∧ s.hasCause k = true

theorem CauseHeld.causeEvents {k : CauseKind} {s : State} (h : CauseHeld k s) (ks : List CauseKind) :
    CauseHeld k (causeEvents ks s) := by
  by_cases hk : ks = []
  · rw [hk]; exact h
  · refine ⟨causeEvents_leaves_run hk s, ?_⟩
    rw [State.hasCause, List.any_eq_true] at *
    obtain ⟨hr, hc⟩ := h
    rw [State.hasCause, List.any_eq_true] at hc
    obtain ⟨c, hc, hck⟩ := hc
    refine ⟨c, ?_, hck⟩
    rw [causeEvents_safety hk]
    exact causesAfter_mono ks hc

theorem driveCause_held (why : DisableReason) (l : Lane) (s : State) : CauseHeld (why.cause l) (driveCause why l s) :=
  ⟨driveCause_leaves_run why l s, driveCause_hasCause why l s⟩

theorem CauseHeld.driveCause {k : CauseKind} {s : State} (h : CauseHeld k s) (why : DisableReason) (l : Lane) :
    CauseHeld k (driveCause why l s) := by
  rw [driveCause_eq]
  exact CauseHeld.causeEvents (s := refreshOutputs (s.setLane l (disableLane why))) h _

/-! ### Both outputs of a lane that is not ACTIVE -/

/-- The lane is not ACTIVE and both its outputs are deasserted. -/
def LaneOff (l : Lane) (s : State) : Prop :=
  s.lanes[l].condition ≠ .active ∧ s.drives.channels[l].enable = false ∧ s.drives.channels[l].brake = false

theorem laneOff_refresh {l : Lane} {s : State} (h : s.lanes[l].condition ≠ .active) : LaneOff l (refreshOutputs s) := by
  obtain ⟨he, hb⟩ := driveOutputs_follow false s.drives.channels[l]
  have off : (refreshOutputs s).drives.channels[l] = driveOutputs false s.drives.channels[l] := by
    rw [refreshOutputs_channel, outputsOn_inactive h]
  exact ⟨h, by rw [off]; exact he, by rw [off]; exact hb⟩

theorem keepsStops_laneOff (l : Lane) : KeepsStops (LaneOff l) where
  raise _ _ _ h := h
  recordEnds o t h := by
    unfold LaneOff at *
    rwa [(recordEnds_stops o t).2, recordEnds_lanes]
  endPlayback o t h := by
    unfold LaneOff at *
    rwa [(endPlayback_stops o t).2, endPlayback_lanes]
  safety _ _ _ h := h
  power on t h := by
    have off : (t.setSafety { t.safety with drivePower := on }).lanes[l].condition ≠ .active := h.1
    unfold LaneOff
    rw [setPower_lanes]
    rcases setPower_drives on t with hd | hd <;> rw [hd]
    · exact h
    · exact laneOff_refresh off

theorem driveCause_laneOff (why : DisableReason) (l : Lane) (s : State) : LaneOff l (driveCause why l s) := by
  rw [driveCause_eq]
  refine (keepsStops_laneOff l).causeEvents _ (laneOff_refresh ?_)
  rw [setLane_lane, if_pos rfl]
  exact disableLane_not_active why _

theorem LaneOff.driveCause {l : Lane} {s : State} (h : LaneOff l s) (why : DisableReason) (j : Lane) :
    LaneOff l (driveCause why j s) := by
  rw [driveCause_eq]
  refine (keepsStops_laneOff l).causeEvents _ (laneOff_refresh ?_)
  rw [setLane_lane]
  split
  · exact disableLane_not_active why _
  · exact h.1

theorem LaneOff.of_eq {l : Lane} {s t : State} (h : LaneOff l s) (hl : t.lanes = s.lanes)
    (hc : t.drives.channels[l] = s.drives.channels[l]) : LaneOff l t := by
  unfold LaneOff
  rw [hl, hc]
  exact h

theorem CauseHeld.of_eq {k : CauseKind} {s t : State} (h : CauseHeld k s) (hs : t.safety = s.safety) : CauseHeld k t := by
  unfold CauseHeld State.hasCause
  rw [hs]
  exact h

/-! ### One unanswered exchange (R159) -/

/-- What an unanswered exchange leaves of its channel. -/
def missNoted (c : Channel) : Channel := { c with status := .missing, missing := min 2 (c.missing + 1), exchange := none }

/-- What DRIVE_FAULT marks in the channel. -/
def faultNoted (c : Channel) : Channel := { c with faultReported := true, settled := true }

section Miss

variable {s : State} {l : Lane}

/-- The miss raises the lane's DRIVE_FAULT. -/
def State.missRaises (s : State) (l : Lane) : Prop := s.missFaults l = true ∧ s.lanes[l].condition ≠ .parked

theorem missFaults_iff : s.missFaults l = true ↔ s.lanes[l].present = true ∧ s.drives.channels[l].exchange.isSome = true ∧
    1 ≤ s.drives.channels[l].missing ∧ s.drives.channels[l].faultReported = false := by
  unfold State.missFaults
  simp only [Bool.and_eq_true, decide_eq_true_eq, Bool.not_eq_true', and_assoc]

/-- The exchange of a present drive is open. -/
def State.exchangeOpen (s : State) (l : Lane) : Bool := s.lanes[l].present && s.drives.channels[l].exchange.isSome

theorem takeMissing_closed (h : s.exchangeOpen l = false) : takeMissing l s = s := by
  unfold takeMissing
  exact if_neg (by rw [State.lanePresent, ← State.exchangeOpen, h]; decide)

theorem takeMissing_open (h : s.exchangeOpen l = true) : takeMissing l s = judgeMissing l s := if_pos h

theorem judgeMissing_eq (l : Lane) (s : State) : judgeMissing l s =
    if 1 ≤ s.drives.channels[l].missing then driveFault l (s.setChannel l missNoted) else s.setChannel l missNoted := by
  have count : (s.setChannel l missNoted).drives.channels[l].missing = 2 ↔ 1 ≤ s.drives.channels[l].missing := by
    rw [setChannel_channel, if_pos rfl]
    change min 2 (s.drives.channels[l].missing + 1) = 2 ↔ _
    omega
  unfold judgeMissing
  exact if_congr count rfl rfl

theorem takeMissing_counted (h : s.exchangeOpen l = true) (hf : ¬ s.missRaises l) :
    takeMissing l s = s.setChannel l missNoted := by
  rw [takeMissing_open h, judgeMissing_eq]
  split
  · next hm =>
    unfold driveFault
    split
    · rfl
    · next hp =>
      split
      · rfl
      · next hr =>
        rw [State.exchangeOpen, Bool.and_eq_true] at h
        rw [setChannel_channel, if_pos rfl] at hr
        have unreported : s.drives.channels[l].faultReported = false := Bool.not_eq_true _ |>.mp hr
        exact absurd ⟨missFaults_iff.2 ⟨h.1, h.2, hm, unreported⟩, hp⟩ hf
  · rfl

theorem takeMissing_raises (h : s.missRaises l) :
    takeMissing l s = driveCause .driveFault l ((s.setChannel l missNoted).setChannel l faultNoted) := by
  obtain ⟨hp, he, hm, hr⟩ := missFaults_iff.1 h.1
  have hopen : s.exchangeOpen l = true := by rw [State.exchangeOpen, hp, he]; rfl
  rw [takeMissing_open hopen, judgeMissing_eq, if_pos hm, driveFault_raised (s := s.setChannel l missNoted) h.2
    (by rw [setChannel_channel, if_pos rfl]; exact hr)]
  rfl

end Miss

/-! ### All of them, in ascending lane index -/

open Classical in
/-- What the judgement of a lane's exchange leaves of its channel. -/
noncomputable def State.missedChannel (s : State) (l : Lane) : Channel :=
  if s.exchangeOpen l = true then
    if s.missRaises l then faultNoted (missNoted s.drives.channels[l]) else missNoted s.drives.channels[l]
  else s.drives.channels[l]

/-- The exchanges of the lanes of the list have been judged. -/
structure MissesJudged (s : State) (ls : List Lane) (t : State) : Prop where
  tb : t.tb = s.tb
  lanes : t.lanes = s.lanes
  channel : ∀ l : Lane, t.drives.channels[l].core = if l ∈ ls then (s.missedChannel l).core else s.drives.channels[l].core
  fault : ∀ l ∈ ls, s.missRaises l → LaneOff l t ∧ CauseHeld (.driveFault l) t

theorem channel_of_core {c d : Channel} (h : c.core = d.core) : c.exchange = d.exchange ∧ c.missing = d.missing ∧
    c.faultReported = d.faultReported ∧ c.status = d.status := by
  have := congrArg (fun x : Channel => (x.exchange, x.missing, x.faultReported, x.status)) h
  simpa [Channel.core] using this

theorem missedChannel_congr {s t : State} {l : Lane} (hl : t.lanes = s.lanes)
    (hc : t.drives.channels[l].core = s.drives.channels[l].core) :
    (t.exchangeOpen l = s.exchangeOpen l) ∧ (t.missRaises l ↔ s.missRaises l) ∧
      (t.missedChannel l).core = (s.missedChannel l).core := by
  obtain ⟨he, hm, hf, -⟩ := channel_of_core hc
  have hopen : t.exchangeOpen l = s.exchangeOpen l := by rw [State.exchangeOpen, State.exchangeOpen, hl, he]
  have raises : t.missRaises l ↔ s.missRaises l := by
    rw [State.missRaises, State.missRaises, missFaults_iff, missFaults_iff, hl, he, hm, hf]
  have noted : (missNoted t.drives.channels[l]).core = (missNoted s.drives.channels[l]).core := by
    have := congrArg missNoted hc
    exact this
  refine ⟨hopen, raises, ?_⟩
  have faulted : (faultNoted (missNoted t.drives.channels[l])).core = (faultNoted (missNoted s.drives.channels[l])).core :=
    congrArg faultNoted noted
  unfold State.missedChannel
  rw [hopen]
  by_cases ho : s.exchangeOpen l = true
  · by_cases hr : s.missRaises l
    · rw [if_pos ho, if_pos ho, if_pos hr, if_pos (raises.2 hr), faulted]
    · rw [if_pos ho, if_pos ho, if_neg hr, if_neg (fun w => hr (raises.1 w)), noted]
  · rw [if_neg ho, if_neg ho, hc]

theorem setLane_id (s : State) (l : Lane) {f : LaneRec → LaneRec} (h : f s.lanes[l] = s.lanes[l]) :
    (s.setLane l f).lanes = s.lanes := by
  refine Vector.ext fun j hj => ?_
  have at' := setLane_lane s l ⟨j, hj⟩ f
  change (s.setLane l f).lanes[j] = _ at at'
  rw [at']
  split
  · next e => subst e; exact h
  · rfl

theorem missesJudged_step {s t : State} {ls : List Lane} {i : Lane} (h : MissesJudged s ls t) (hi : i ∉ ls)
    (hd : ∀ l, s.missRaises l → s.lanes[l].condition ≠ .active) : MissesJudged s (ls ++ [i]) (takeMissing i t) := by
  have hci := h.channel i
  rw [if_neg hi] at hci
  obtain ⟨hopen, raises, missed⟩ := missedChannel_congr h.lanes hci
  have others : ∀ {u : State}, (∀ j, i ≠ j → u.drives.channels[j].core = t.drives.channels[j].core) →
      u.drives.channels[i].core = (s.missedChannel i).core → ∀ l : Lane, u.drives.channels[l].core =
        if l ∈ ls ++ [i] then (s.missedChannel l).core else s.drives.channels[l].core := by
    intro u hj hu l
    by_cases e : i = l
    · subst e
      rw [hu, if_pos (by simp)]
    · rw [hj l e, h.channel l]
      have iff : l ∈ ls ++ [i] ↔ l ∈ ls := by
        rw [List.mem_append, List.mem_singleton]
        exact ⟨fun w => w.resolve_right (Ne.symm e), .inl⟩
      exact if_congr iff.symm rfl rfl
  by_cases hr : t.missRaises i
  · rw [takeMissing_raises hr]
    have inactive := hd i (raises.1 hr)
    have hlanes : (driveCause .driveFault i ((t.setChannel i missNoted).setChannel i faultNoted)).lanes = s.lanes := by
      rw [driveCause_lanes]
      refine (setLane_id _ i (disableLane_inactive ?_ _)).trans h.lanes
      change t.lanes[i].condition ≠ .active
      rwa [h.lanes]
    refine ⟨?_, hlanes, others (fun j hj => ?_) ?_, fun l hl hf => ?_⟩
    · rw [driveCause_eq, (causeEvents_frame _ _).tb]
      exact h.tb
    · rw [driveCause_core, setChannel_channel, if_neg hj, setChannel_channel, if_neg hj]
    · rw [driveCause_core, setChannel_channel, if_pos rfl, setChannel_channel, if_pos rfl, ← missed]
      have hopen' : t.exchangeOpen i = true := by
        obtain ⟨hp, he, -⟩ := missFaults_iff.1 hr.1
        rw [State.exchangeOpen, hp, he]; rfl
      rw [State.missedChannel, if_pos hopen', if_pos hr]
    · by_cases e : l = i
      · subst e
        exact ⟨driveCause_laneOff _ _ _, driveCause_held _ _ _⟩
      · obtain ⟨off, held⟩ := h.fault l (by simpa [e] using hl) hf
        have noted : LaneOff l ((t.setChannel i missNoted).setChannel i faultNoted) := off.of_eq rfl (by
          rw [setChannel_channel, if_neg (Ne.symm e), setChannel_channel, if_neg (Ne.symm e)])
        exact ⟨noted.driveCause _ _, CauseHeld.driveCause (s := (t.setChannel i missNoted).setChannel i faultNoted) held _ _⟩
  · have kept : ∀ {u : State}, u.tb = t.tb → u.lanes = t.lanes → u.safety = t.safety →
        (∀ j, i ≠ j → u.drives.channels[j] = t.drives.channels[j]) →
        u.drives.channels[i].core = (s.missedChannel i).core → MissesJudged s (ls ++ [i]) u := by
      intro u htb hlanes hs hj hu
      refine ⟨htb.trans h.tb, hlanes.trans h.lanes, others (fun j hj' => by rw [hj j hj']) hu, fun l hl hf => ?_⟩
      by_cases e : l = i
      · subst e
        exact absurd (raises.2 hf) hr
      · obtain ⟨off, held⟩ := h.fault l (by simpa [e] using hl) hf
        exact ⟨off.of_eq hlanes (hj l (Ne.symm e)), held.of_eq hs⟩
    cases ho : t.exchangeOpen i with
    | false =>
      rw [takeMissing_closed ho]
      refine kept rfl rfl rfl (fun _ _ => rfl) ?_
      rw [← missed, State.missedChannel, if_neg (by rw [ho]; decide)]
    | true =>
      rw [takeMissing_counted ho hr]
      refine kept rfl rfl rfl (fun j hj => by rw [setChannel_channel, if_neg hj]) ?_
      rw [setChannel_channel, if_pos rfl, ← missed, State.missedChannel, if_pos ho, if_neg hr]

theorem missesJudged_list {s : State} (hd : ∀ l, s.missRaises l → s.lanes[l].condition ≠ .active) (rest : List Lane) :
    ∀ (done : List Lane) (t : State), (done ++ rest).Nodup → MissesJudged s done t →
      MissesJudged s (done ++ rest) (forEach rest takeMissing t) := by
  induction rest with
  | nil =>
    intro done t _ h
    rwa [List.append_nil]
  | cons i rest ih =>
    intro done t hn h
    have fresh : i ∉ done := fun hi => (List.nodup_append.mp hn).2.2 i hi i (List.mem_cons_self ..) rfl
    have assoc : done ++ i :: rest = (done ++ [i]) ++ rest := by simp
    rw [assoc] at hn ⊢
    exact ih _ _ hn (missesJudged_step h fresh hd)

/-- R159: the judgement of a tick's open exchanges, where no lane that it faults is ACTIVE any more (log 11). -/
theorem missesJudged {s : State} (hd : ∀ l, s.missRaises l → s.lanes[l].condition ≠ .active) :
    MissesJudged s allLanes (forEach allLanes takeMissing s) :=
  missesJudged_list hd allLanes [] s (List.nodup_finRange 12) ⟨rfl, rfl, fun l => by simp, fun l hl => by cases hl⟩

/-! ### Where no drive fails -/

theorem forEach_channels_list {f : Lane → State → State} {g : Lane → Channel → Channel} {s : State}
    (h : ∀ l v, v[l] = s.drives.channels[l] → f l (s.setDrives { s.drives with channels := v }) =
      (s.setDrives { s.drives with channels := v }).setChannel l (g l)) (ls : List Lane) (hn : ls.Nodup)
    {v : Vector Channel 12} (hv : ∀ l ∈ ls, v[l] = s.drives.channels[l]) :
    forEach ls f (s.setDrives { s.drives with channels := v }) =
      s.setDrives { s.drives with channels := mapAll v fun l c => if l ∈ ls then g l c else c } := by
  induction ls generalizing v with
  | nil =>
    have same : (mapAll v fun l c => if l ∈ ([] : List Lane) then g l c else c) = v := Vector.ext fun i hi => by simp
    rw [same]
    rfl
  | cons i ls ih =>
    have step := h i v (hv i (List.mem_cons_self ..))
    have moved : (s.setDrives { s.drives with channels := v }).setChannel i (g i) =
        s.setDrives { s.drives with channels := updAt v i (g i) } := rfl
    rw [forEach_cons, step, moved, ih (List.nodup_cons.mp hn).2 (v := updAt v i (g i)) (fun l hl => by
      have other : i ≠ l := fun e => (List.nodup_cons.mp hn).1 (by rw [e]; exact hl)
      rw [updAt_get, if_neg other, hv l (List.mem_cons_of_mem _ hl)])]
    have agree : (mapAll (updAt v i (g i)) fun l c => if l ∈ ls then g l c else c) =
        mapAll v fun l c => if l ∈ i :: ls then g l c else c := by
      refine Vector.ext fun j hj => ?_
      rw [mapAll_getNat _ _ hj, mapAll_getNat _ _ hj, updAt_getNat _ _ _ hj]
      by_cases e : i.val = j
      · obtain rfl : i = ⟨j, hj⟩ := Fin.ext e
        rw [if_neg (List.nodup_cons.mp hn).1, if_pos rfl, if_pos (List.mem_cons_self ..)]
      · have ne : ¬ (⟨j, hj⟩ : Lane) = i := fun w => e (by rw [← w])
        simp [e, ne]
    rw [agree]

/-- R158, R159: with no drive failing, the misses are counted and nothing more happens. -/
theorem misses_counted {s : State} (h : ∀ l, ¬ s.missRaises l) : forEach allLanes takeMissing s =
    s.setDrives { s.drives with
      channels := mapAll s.drives.channels fun l c => if s.exchangeOpen l then missNoted c else c } := by
  have all := forEach_channels_list (f := takeMissing) (s := s)
    (g := fun l c => if s.exchangeOpen l then missNoted c else c) (fun l v hv => ?_) allLanes (List.nodup_finRange 12)
    (v := s.drives.channels) (fun _ _ => rfl)
  · have every : (fun (l : Lane) (c : Channel) => if l ∈ allLanes then (if s.exchangeOpen l then missNoted c else c) else c) =
        fun l c => if s.exchangeOpen l then missNoted c else c := by
      funext l c
      exact if_pos (List.mem_finRange l)
    rw [every] at all
    exact all
  · obtain ⟨hopen, raises, -⟩ := missedChannel_congr (s := s) (t := s.setDrives { s.drives with channels := v }) (l := l) rfl
      (congrArg Channel.core hv)
    cases ho : s.exchangeOpen l with
    | false =>
      rw [takeMissing_closed (hopen.trans ho)]
      have same : updAt v l (fun c => c) = v := Vector.ext fun j hj => by simp
      change _ = s.setDrives { s.drives with channels := updAt v l (fun c => c) }
      rw [same]
    | true => exact takeMissing_counted (hopen.trans ho) (fun w => h l (raises.1 w))

end Sys2Proof.Machine
end

section
/-! PROOFS. The work of a tick in parts: the lane step with what leads into it, the exchanges, and the zones. -/

namespace Sys2Proof.Machine

open Sys2Proof

/-! ### The lane step -/

theorem raiseClips_frame (cs : Vector Candidate 12) (s : State) :
    SameButQueues s (forEach allLanes (fun l s => raiseClip l cs[l] s) s) := by
  refine forEach_keeps (P := SameButQueues s) (fun l t ht => ?_) _ (.refl s)
  unfold raiseClip
  split
  · split
    · exact ht.trans (raiseLane_frame _ _ _ t)
    · exact ht
  · exact ht

theorem commitAll_frame (cs : Vector Candidate 12) (s : State) : SameButQueues (commitLanes cs s) (commitAll cs s) :=
  raiseClips_frame cs _

theorem writeBackAll_frame {s t : State} (h : SameButQueues s t) (cs : Vector Candidate 12) :
    SameButQueues (writeBackAll cs s) (writeBackAll cs t) := by
  have same : (writeBackAll cs t).grants = (writeBackAll cs s).grants := by
    unfold writeBackAll
    rw [State.setGrants_grants, State.setGrants_grants, h.grants, h.lanes]
  exact { h with grants := same }

theorem laneStep_runs {s : State} (hr : s.safety.stop = .run)
    (hz : predictedZones s (s.candidateMotion (s.candidates s.runCandidate)) = []) :
    SameButQueues (writeBackAll (s.candidates s.runCandidate) (commitLanes (s.candidates s.runCandidate) s)) (laneStep s) := by
  unfold laneStep runStep
  rw [hr]
  dsimp only
  rw [if_pos (by rw [hz]; rfl)]
  exact writeBackAll_frame (commitAll_frame _ s) _

theorem laneStep_predicted {s : State} (hr : s.safety.stop = .run)
    (hz : predictedZones s (s.candidateMotion (s.candidates s.runCandidate)) ≠ []) :
    laneStep s = causeEvents ((predictedZones s (s.candidateMotion (s.candidates s.runCandidate))).map CauseKind.zonePredicted)
      (commitAll (s.candidates fun l => stopStep s.lanes[l]) s) := by
  unfold laneStep runStep
  rw [hr]
  dsimp only
  rw [if_neg (by rwa [List.isEmpty_iff])]

theorem laneStep_stopping {s : State} (h : s.safety.stop = .stopping) :
    SameButQueues (commitLanes (s.candidates fun l => stopStep s.lanes[l]) s) (laneStep s) := by
  unfold laneStep
  rw [h]
  exact commitAll_frame _ s

theorem laneStep_rest {s : State} (h : s.safety.stop = .stopped ∨ s.safety.stop = .releasing) :
    SameButQueues (commitLanes (s.candidates fun l => restStep s.lanes[l]) s) (laneStep s) := by
  unfold laneStep
  rcases h with h | h <;> rw [h] <;> exact commitAll_frame _ s

/-! ### The stopped test (R148) -/

theorem stoppedTest_lanes (s : State) : (stoppedTest s).lanes = s.lanes :=
  ((keepsStops_stopFrame s).stoppedTest (.refl s)).lanes

theorem stoppedTest_moving {s : State} (h : s.safety.stop ≠ .stopping ∨ s.atRest = false) : stoppedTest s = s := by
  refine if_neg ?_
  rw [Bool.and_eq_true, decide_eq_true_eq]
  rintro ⟨h1, h2⟩
  rcases h with h | h
  · exact h h1
  · rw [h] at h2; cases h2

/-- The Safety Monitor's state once every ACTIVE lane rests. -/
def safetyStopped (x : Safety) : Safety :=
  { x with
    stop := .stopped
    unparkInRamp := false
    drivePower := x.drivePower && !((x.causes.any fun c => CauseKind.isOff c.kind) || x.unparkInRamp) }

theorem stoppedTest_rests {s : State} (h : s.safety.stop = .stopping) (hr : s.atRest = true) :
    (stoppedTest s).safety = safetyStopped s.safety ∧ (stoppedTest s).grants = s.grants ∧ (stoppedTest s).play = s.play := by
  have changed := changeStop_frame .stopped none none (some .reached) (s.setSafety { s.safety with unparkInRamp := false })
  unfold stoppedTest
  rw [if_pos (by rw [h, hr]; rfl)]
  dsimp only
  cases ho : (s.safety.causes.any fun c => CauseKind.isOff c.kind) || s.safety.unparkInRamp with
  | true =>
    obtain ⟨-, hg, -, hp, -, -, -, hs⟩ := setPower_keeps false
      (changeStop .stopped none none (some .reached) (s.setSafety { s.safety with unparkInRamp := false }))
    rw [if_pos rfl]
    refine ⟨?_, hg.trans changed.grants, hp.trans changed.play⟩
    rw [hs, changed.safety]
    simp [safetyStopped, ho]
  | false =>
    rw [if_neg Bool.false_ne_true]
    refine ⟨?_, changed.grants, changed.play⟩
    rw [changed.safety]
    simp [safetyStopped, ho]

/-! ### The Playback Unit around the step -/

/-- The Playback Unit's work around a lane step touches the playback, its contexts and the events alone. -/
structure PlayFrame (s t : State) : Prop where
  frame : StopFrame s t
  safety : t.safety = s.safety
  drives : t.drives = s.drives

theorem keepsPlay_frame (s : State) : KeepsPlay (PlayFrame s) where
  raise aud body t h := ⟨(keepsPlay_stopFrame s).raise aud body t h.frame, h.safety, h.drives⟩
  play x t hx h := ⟨(keepsPlay_stopFrame s).play x t hx h.frame, h.safety, h.drives⟩
  leave l why t h :=
    have stops := (keepsPlay_stops _ _).leave l why t ⟨h.safety, h.drives⟩
    ⟨(keepsPlay_stopFrame s).leave l why t h.frame, stops.1, stops.2⟩
  contexts t h := ⟨(keepsPlay_stopFrame s).contexts t h.frame, h.safety, h.drives⟩
  dropPlay t h := ⟨(keepsPlay_stopFrame s).dropPlay t h.frame, h.safety, h.drives⟩

theorem stallStep_frame (s : State) : PlayFrame s (stallStep s) := (keepsPlay_frame s).stallStep ⟨.refl s, rfl, rfl⟩

theorem playBefore_frame (s : State) : PlayFrame s (playBefore s) :=
  have h := stallStep_frame s
  ⟨{ h.frame with }, h.safety, h.drives⟩

theorem playAfter_frame (s : State) : PlayFrame s (playAfter s) := (keepsPlay_frame s).playAfter ⟨.refl s, rfl, rfl⟩

/-! ### The parts of a tick -/

/-- The lane step with the Playback Unit's work around it. -/
def tickStep (s : State) : State := playAfter (stoppedTest (laneStep (playBefore s)))

/-- The state whose exchanges go out with the tick. -/
def beforeExchange (s : State) : State := if s.tb.t = 0 then composeSample (tickStep s) else tickStep s

/-- The tick up to the zones. -/
def exchanged (s : State) : State :=
  if s.tb.t = 0 then formTelemetry (playBefore s).holders (exchangeTick (beforeExchange s)) else exchangeTick (beforeExchange s)

theorem tickWork_eq (s : State) : tickWork s = evaluateZones (exchanged s) := by
  unfold tickWork exchanged beforeExchange
  dsimp only
  split <;> rfl

theorem formTelemetry_frame (hs : Vector (Option Holder) 12) (s : State) : SameButQueues s (formTelemetry hs s) := by
  refine sameButQueues_setPorts fun p => ?_
  rw [mapAll_get]
  split <;> exact ⟨rfl, rfl, rfl, rfl, rfl⟩

theorem exchanged_frame (s : State) : SameButQueues (exchangeTick (beforeExchange s)) (exchanged s) := by
  unfold exchanged
  split
  · exact formTelemetry_frame _ _
  · exact .refl _

theorem composeSample_frame (s : State) : StopFrame s (composeSample s) ∧ (composeSample s).play = s.play ∧
    (composeSample s).grants = s.grants ∧ (composeSample s).safety = s.safety ∧ (composeSample s).drives = s.drives :=
  have grants := (keepsTakes_grants s.grants s.play).composeSample (s := s) ⟨rfl, rfl⟩
  have stops := (keepsTakes_stops s.safety s.drives).composeSample (s := s) ⟨rfl, rfl⟩
  ⟨(keepsTakes_stopFrame s).composeSample (.refl s), grants.2, grants.1, stops.1, stops.2⟩

/-- What a sample composed with the tick leaves of the step. -/
theorem beforeExchange_frame (s : State) : StopFrame (tickStep s) (beforeExchange s) ∧
    (beforeExchange s).play = (tickStep s).play ∧ (beforeExchange s).grants = (tickStep s).grants ∧
    (beforeExchange s).safety = (tickStep s).safety ∧ (beforeExchange s).drives = (tickStep s).drives := by
  unfold beforeExchange
  split
  · exact composeSample_frame _
  · exact ⟨.refl _, rfl, rfl, rfl, rfl⟩

/-! ### What holds of every tick -/

theorem beforeExchange_lanes (s : State) : (beforeExchange s).lanes = (laneStep (playBefore s)).lanes := by
  rw [(beforeExchange_frame s).1.lanes]
  exact (playAfter_frame _).frame.lanes.trans (stoppedTest_lanes _)

theorem laneStep_tb (s : State) : (laneStep s).tb = s.tb := by
  have step : KeepsStep (fun t => t.tb = s.tb) := ((keepsUnits_tb (· = s.tb)).plain.tick fun _ _ h => h).toKeepsStep
  exact step.laneStep rfl

theorem beforeExchange_tb (s : State) : (beforeExchange s).tb = s.tb := by
  have step : KeepsStep (fun t => t.tb = s.tb) := ((keepsUnits_tb (· = s.tb)).plain.tick fun _ _ h => h).toKeepsStep
  exact (beforeExchange_frame s).1.tb.trans (step.step rfl)

theorem laneStep_core (s : State) (l : Lane) : (laneStep s).drives.channels[l].core = s.drives.channels[l].core := by
  have plain : ∀ {t : State}, t.drives = s.drives → t.drives.channels[l].core = s.drives.channels[l].core := fun h => by rw [h]
  cases hs : s.safety.stop with
  | run =>
    by_cases hz : predictedZones s (s.candidateMotion (s.candidates s.runCandidate)) = []
    · exact plain (laneStep_runs hs hz).drives
    · rw [laneStep_predicted hs hz]
      exact (keepsStops_core s).causeEvents _ (fun i => by rw [(commitAll_frame _ s).drives]; rfl) l
  | stopping => exact plain (laneStep_stopping hs).drives
  | stopped => exact plain (laneStep_rest (.inl hs)).drives
  | releasing => exact plain (laneStep_rest (.inr hs)).drives

theorem tickStep_core (s : State) (l : Lane) : (tickStep s).drives.channels[l].core = s.drives.channels[l].core := by
  have before : ∀ i : Lane, (laneStep (playBefore s)).drives.channels[i].core = s.drives.channels[i].core := fun i => by
    rw [laneStep_core, (playBefore_frame s).drives]
  rw [tickStep, (playAfter_frame _).drives]
  exact (keepsStops_core s).stoppedTest before l

theorem beforeExchange_core (s : State) (l : Lane) :
    (beforeExchange s).drives.channels[l].core = s.drives.channels[l].core := by
  rw [(beforeExchange_frame s).2.2.2.2, tickStep_core]

/-- Presence stays through a lane step, and the condition is that after the misses of the tick. -/
theorem laneStep_condition (s : State) (l : Lane) : (laneStep s).lanes[l].present = s.lanes[l].present ∧
    (laneStep s).lanes[l].condition =
      (if s.missFaults l then disableLane .driveFault s.lanes[l] else s.lanes[l]).condition := by
  obtain ⟨f, hf⟩ := laneStep_lanes_form s
  obtain ⟨hp, hc⟩ := commitLane_keeps (s.effScale l) (s.candidates f)[l]
    (if s.missFaults l then disableLane .driveFault s.lanes[l] else s.lanes[l])
  rw [hf, commitLanes_lane]
  refine ⟨hp.trans ?_, hc.1⟩
  split
  · exact (disableLane_keeps .driveFault _).2.2.1
  · rfl

theorem playBefore_missFaults (s : State) (l : Lane) : (playBefore s).missFaults l = s.missFaults l := by
  rw [State.missFaults, State.missFaults, (playBefore_frame s).frame.lanes, (playBefore_frame s).drives]

theorem beforeExchange_present (s : State) (l : Lane) : (beforeExchange s).lanes[l].present = s.lanes[l].present := by
  rw [beforeExchange_lanes, (laneStep_condition _ l).1, (playBefore_frame s).frame.lanes]

theorem beforeExchange_missFaults (s : State) (l : Lane) : (beforeExchange s).missFaults l = s.missFaults l := by
  obtain ⟨he, hm, hf, -⟩ := channel_of_core (beforeExchange_core s l)
  rw [Bool.eq_iff_iff, missFaults_iff, missFaults_iff, beforeExchange_present, he, hm, hf]

theorem beforeExchange_open (s : State) (l : Lane) : (beforeExchange s).exchangeOpen l = s.exchangeOpen l := by
  rw [State.exchangeOpen, State.exchangeOpen, beforeExchange_present, (channel_of_core (beforeExchange_core s l)).1]

theorem beforeExchange_condition (s : State) (l : Lane) : (beforeExchange s).lanes[l].condition =
    (if s.missFaults l then disableLane .driveFault s.lanes[l] else s.lanes[l]).condition := by
  rw [beforeExchange_lanes, (laneStep_condition _ l).2, playBefore_missFaults, (playBefore_frame s).frame.lanes]

/-- A lane that the tick's misses fault has been disabled by the commit, or was not ACTIVE. -/
theorem beforeExchange_dropped (s : State) (l : Lane) (h : (beforeExchange s).missRaises l) :
    (beforeExchange s).lanes[l].condition ≠ .active := by
  rw [beforeExchange_condition, if_pos (by rw [← beforeExchange_missFaults]; exact h.1)]
  exact disableLane_not_active _ _

/-- R158, R159: the tick's exchanges, judged and sent. -/
theorem exchanges_judged (s : State) : MissesJudged (beforeExchange s) allLanes (forEach allLanes takeMissing (beforeExchange s)) :=
  missesJudged (beforeExchange_dropped s)

/-- What goes out to the drives changes their channels alone. -/
theorem exchangeAll_frame (s : State) : (exchangeAll s).lanes = s.lanes ∧ (exchangeAll s).tb = s.tb ∧
    (exchangeAll s).safety = s.safety ∧ (exchangeAll s).grants = s.grants ∧ (exchangeAll s).play = s.play :=
  ⟨rfl, rfl, rfl, rfl, rfl⟩

theorem exchanged_lanes (s : State) : (exchanged s).lanes = (laneStep (playBefore s)).lanes := by
  rw [(exchanged_frame s).lanes, exchangeTick, (exchangeAll_frame _).1, (exchanges_judged s).lanes, beforeExchange_lanes]

theorem exchanged_tb (s : State) : (exchanged s).tb = s.tb := by
  rw [(exchanged_frame s).tb, exchangeTick, (exchangeAll_frame _).2.1, (exchanges_judged s).tb, beforeExchange_tb]

/-! ### The zones (R141, R142) -/

theorem clearExit_lanes (z : ZoneNo) (s : State) : (clearExit z s).lanes = s.lanes :=
  ((keepsStops_stopFrame s).clearExit z (.refl s)).lanes

theorem evaluateZones_lanes (s : State) : (evaluateZones s).lanes = s.lanes :=
  ((keepsStops_stopFrame s).evaluateZones (.refl s)).lanes

/-- R4, R16: what a tick commits is its lane step. -/
theorem tickWork_lanes (s : State) : (tickWork s).lanes = (laneStep (playBefore s)).lanes := by
  rw [tickWork_eq, evaluateZones_lanes, exchanged_lanes]

theorem tickWork_core (s : State) (l : Lane) :
    (tickWork s).drives.channels[l].core = (exchanged s).drives.channels[l].core := by
  rw [tickWork_eq]
  exact (keepsStops_core (exchanged s)).evaluateZones (fun _ => rfl) l

/-- The exchange that goes out to a lane's drive. -/
theorem exchanged_channel (s : State) (l : Lane) : ∃ c, c.core = ((beforeExchange s).missedChannel l).core ∧
    (exchanged s).drives.channels[l] = sendExchange (forEach allLanes takeMissing (beforeExchange s)) l c := by
  refine ⟨(forEach allLanes takeMissing (beforeExchange s)).drives.channels[l], ?_, ?_⟩
  · rw [(exchanges_judged s).channel l]
    exact if_pos (List.mem_finRange l)
  · rw [(exchanged_frame s).drives, exchangeTick, exchangeAll_channel]

end Sys2Proof.Machine
end

section
/-! PROOFS. The ticks of the Timebase's own frames, and what disables a lane (O38, R3, R150, R158 to R160). -/

namespace Sys2Proof.Machine

open Sys2Proof

/-! ### The state in which a tick begins -/

/-- What leads from a state to the beginning of its next tick: the clock, the events, the recording and the playback. -/
structure TickStart (s : State) (b : Timebase) (u : State) : Prop where
  frame : StopFrame (s.setTb b) u
  safety : u.safety = s.safety
  drives : u.drives = s.drives
  idle : s.play.state = .idle → u.play = s.play ∧ u.grants = s.grants

theorem playbackFrame_plays (s : State) : PlayFrame s (playbackFrame s) := (keepsPlay_frame s).playbackFrame ⟨.refl s, rfl, rfl⟩

theorem openWork_tickStart (time : Nat) (s : State) : TickStart s (s.tb.opened time) (openWork time s) := by
  have ended : ∀ u : State, TickStart s (s.tb.opened time) u →
      TickStart s (s.tb.opened time) (playbackFrame (recorderFrame u)) := by
    intro u h
    obtain ⟨frame, play, grants, safety, drives⟩ := recorderFrame_frame u
    have plays := playbackFrame_plays (recorderFrame u)
    refine ⟨(h.frame.trans frame).trans plays.frame, ?_, ?_, fun hi => ?_⟩
    · rw [plays.safety, safety, h.safety]
    · rw [plays.drives, drives, h.drives]
    · obtain ⟨hp, hg⟩ := h.idle hi
      rw [playbackFrame_of_idle (by rw [play, hp, hi])]
      exact ⟨play.trans hp, grants.trans hg⟩
  have start : TickStart s (s.tb.opened time) (s.setTb (s.tb.opened time)) := ⟨.refl _, rfl, rfl, fun _ => ⟨rfl, rfl⟩⟩
  unfold openWork
  dsimp only
  split
  · refine ended _ ⟨?_, ?_, ?_, fun hi => ?_⟩
    · exact (keepsPlay_stopFrame _).endPlayback _ ((keepsTakes_stopFrame _).recordEnds _ (.refl _))
    · rw [(endPlayback_stops _ _).1, (recordEnds_stops _ _).1]; rfl
    · rw [(endPlayback_stops _ _).2, (recordEnds_stops _ _).2]; rfl
    · obtain ⟨hg, hp⟩ := recordEnds_grants .referenceLost (s.setTb (openFrame time (flywheelFrame (applySettings s.tb))))
      rw [endPlayback_of_idle _ (by rw [hp]; exact hi)]
      exact ⟨hp, hg⟩
  · exact ended _ start

/-- A tick of the Timebase's own frames is the work of a tick on the state in which it begins. -/
theorem issuesTick {c : Instr} {b : Timebase} {s : State} (h : IssuesTick c b s) :
    ∃ u, exec c s = .next (settle (tickWork u)) ∧ TickStart s b u := by
  rcases h with ⟨rfl, hs, hn, rfl⟩ | ⟨rfl, hl, hd, rfl⟩
  · refine ⟨s.setTb { s.tb with t := s.tb.t + 1 }, ?_, ⟨.refl _, rfl, rfl, fun _ => ⟨rfl, rfl⟩⟩⟩
    refine congrArg (fun t => Host.Outcome.next (settle t)) (servoTick_acts ?_)
    rw [frameDone_iff, hs]
    rintro (h | h)
    · cases h
    · omega
  · refine ⟨openWork s.tb.ownTime s, ?_, openWork_tickStart _ s⟩
    exact congrArg (fun t => Host.Outcome.next (settle t)) (frameStart_acts hl ((frameDone_iff _).2 hd))

theorem settled_tick_tb {s u : State} {b : Timebase} (h : TickStart s b u) : (settle (tickWork u)).tb = b := by
  rw [(endWork_settle _).tb, tickWork_tb, h.frame.tb]
  rfl

/-! ### What a tick leaves of its exchanges -/

theorem sendExchange_keeps (s : State) (l : Lane) (c : Channel) : (sendExchange s l c).status = c.status ∧
    (sendExchange s l c).missing = c.missing ∧ (sendExchange s l c).faultReported = c.faultReported ∧
    (sendExchange s l c).enable = c.enable ∧ (sendExchange s l c).brake = c.brake := by
  unfold sendExchange
  split <;> exact ⟨rfl, rfl, rfl, rfl, rfl⟩

theorem missedChannel_open {s : State} {l : Lane} (h : s.exchangeOpen l = true) :
    (s.missedChannel l).status = .missing ∧ (s.missedChannel l).missing = min 2 (s.drives.channels[l].missing + 1) := by
  rw [State.missedChannel, if_pos h]
  split <;> exact ⟨rfl, rfl⟩

/-- R158, R159: a tick that finds the exchange open counts the miss. -/
theorem tickWork_missed {s : State} {l : Lane} (h : s.exchangeOpen l = true) :
    (tickWork s).drives.channels[l].status = .missing ∧
      (tickWork s).drives.channels[l].missing = min 2 (s.drives.channels[l].missing + 1) := by
  obtain ⟨c, hc, hx⟩ := exchanged_channel s l
  obtain ⟨-, hm, -, hst⟩ := channel_of_core hc
  obtain ⟨-, tm, -, tst⟩ := channel_of_core (tickWork_core s l)
  obtain ⟨st, ms⟩ := missedChannel_open ((beforeExchange_open s l).trans h)
  obtain ⟨ks, km, -⟩ := sendExchange_keeps (forEach allLanes takeMissing (beforeExchange s)) l c
  rw [tst, tm, hx, ks, km, hst, hm, st, ms, (channel_of_core (beforeExchange_core s l)).2.1]
  exact ⟨rfl, rfl⟩

theorem CauseHeld.evaluateZones {k : CauseKind} {s : State} (h : CauseHeld k s) : CauseHeld k (evaluateZones s) := by
  unfold Machine.evaluateZones
  refine CauseHeld.causeEvents (forEach_keeps (P := CauseHeld k) (fun z t ht => ?_) _ ?_) _
  · unfold clearExit
    dsimp only
    split
    · exact ⟨ht.1, ht.2⟩
    · exact ht
  · exact h

theorem LaneOff.exchangeAll {l : Lane} {s : State} (h : LaneOff l s) : LaneOff l (exchangeAll s) := by
  obtain ⟨-, -, -, he, hb⟩ := sendExchange_keeps s l s.drives.channels[l]
  unfold LaneOff
  rw [exchangeAll_channel, he, hb]
  exact h

/-- R158, R159: a tick that judges the second miss of an ACTIVE lane's drive disables the lane; its part of the commit is
dropped, and its exchange is a poll. -/
theorem tickWork_faults {s : State} {l : Lane} (hm : s.missFaults l = true) (ha : s.lanes[l].condition = .active) :
    (∃ sEff, (tickWork s).lanes[l] = { s.lanes[l] with
        condition := .disabled .driveFault, v := 0, sEff := sEff, limitClip := false, capped := false }) ∧
      (tickWork s).drives.channels[l].exchange = some { f := s.tb.f, t := s.tb.t, sent := none } ∧
      (tickWork s).drives.channels[l].faultReported = true ∧ LaneOff l (tickWork s) ∧
      CauseHeld (.driveFault l) (tickWork s) := by
  obtain ⟨hp, he, -⟩ := missFaults_iff.1 hm
  have before : (beforeExchange s).missRaises l := by
    refine ⟨(beforeExchange_missFaults s l).trans hm, ?_⟩
    rw [beforeExchange_condition, if_pos hm, disableLane_active ha]
    exact fun w => by cases w
  obtain ⟨off, held⟩ := (exchanges_judged s).fault l (List.mem_finRange l) before
  have hopen : (beforeExchange s).exchangeOpen l = true := by
    rw [beforeExchange_open, State.exchangeOpen, hp, he]; rfl
  obtain ⟨c, hc, hx⟩ := exchanged_channel s l
  obtain ⟨tx, -, tf, -⟩ := channel_of_core (tickWork_core s l)
  have present : (forEach allLanes takeMissing (beforeExchange s)).lanes[l].present = true := by
    rw [(exchanges_judged s).lanes, beforeExchange_present, hp]
  have clock : (forEach allLanes takeMissing (beforeExchange s)).tb = s.tb := by
    rw [(exchanges_judged s).tb, beforeExchange_tb]
  have reported : c.faultReported = true := by
    rw [(channel_of_core hc).2.2.1, State.missedChannel, if_pos hopen, if_pos before]
    rfl
  have frame := exchanged_frame s
  refine ⟨?_, ?_, ?_, ?_, ?_⟩
  · obtain ⟨f, hf⟩ := laneStep_lanes_form (playBefore s)
    have lanes : (playBefore s).lanes = s.lanes := (playBefore_frame s).frame.lanes
    rw [tickWork_lanes, hf, commitLanes_missed ((playBefore_missFaults s l).trans hm) (by rw [lanes, ha]), lanes]
    exact ⟨_, rfl⟩
  · rw [tx, hx, sendExchange_present _ present, if_neg (fun w => off.1 w.2), clock]
  · rw [tf, hx, (sendExchange_keeps _ l c).2.2.1, reported]
  · rw [tickWork_eq]
    have sent : LaneOff l (exchangeTick (beforeExchange s)) := off.exchangeAll
    exact (keepsStops_laneOff l).evaluateZones (sent.of_eq frame.lanes (by rw [frame.drives]))
  · rw [tickWork_eq]
    have sent : CauseHeld (.driveFault l) (exchangeTick (beforeExchange s)) := held.of_eq (exchangeAll_frame _).2.2.1
    exact (sent.of_eq frame.safety).evaluateZones

/-! ### Drive causes at a reply or a miss -/

/-- What a reply or a miss that disables an ACTIVE lane leads to, where u is the state with the reply noted. -/
theorem driveCause_settled {s u : State} {l : Lane} (hl : u.lanes = s.lanes) (ha : s.lanes[l].condition = .active)
    (hx : u.drives.channels[l].exchange = none) (why : DisableReason) :
    let t := settle (driveCause why l u)
    t.lanes[l] = { s.lanes[l] with condition := .disabled why, v := 0 } ∧ (∀ j : Lane, j ≠ l → t.lanes[j] = s.lanes[j]) ∧
      t.drives.channels[l].enable = false ∧ t.drives.channels[l].brake = false ∧ t.safety.stop ≠ .run ∧
      t.hasCause (why.cause l) = true ∧ t.drives.channels[l].exchange = none ∧
      t.drives.channels[l].core = u.drives.channels[l].core := by
  dsimp only
  have work := endWork_settle (driveCause why l u)
  obtain ⟨-, off⟩ := driveCause_laneOff why l u
  obtain ⟨hrun, hcause⟩ := driveCause_held why l u
  have core := driveCause_core why l l u
  rw [work.lanes, work.drives, State.hasCause, work.safety, driveCause_lanes]
  refine ⟨?_, fun j hj => ?_, off.1, off.2, hrun, hcause, (channel_of_core core).1.trans hx, core⟩
  · rw [setLane_lane, if_pos rfl, hl, disableLane_active ha]
  · rw [setLane_lane, if_neg (Ne.symm hj), hl]

theorem core_latest {c d : Channel} (h : c.core = d.core) : c.latestCount = d.latestCount := by
  have := congrArg (fun x : Channel => x.latestCount) h
  exact this

/-- What a FAULT reply records of its drive. -/
def replyFaultNoted (n : Int) (c : Channel) : Channel :=
  { c with latestCount := some n, status := .fault, missing := 0, exchange := none }

theorem driveReply_fault {s : State} {l : Lane} {e : Exchange} (hp : s.lanes[l].present = true)
    (ha : s.lanes[l].condition = .active) (he : s.drives.channels[l].exchange = some e)
    (hf : s.drives.channels[l].faultReported = false) (n : Int) : takeReply l e.f e.t .fault n s =
      driveCause .driveFault l ((s.setChannel l (replyFaultNoted n)).setChannel l faultNoted) := by
  rw [takeReply_taken hp he]
  refine driveFault_raised (s := s.setChannel l (replyFaultNoted n)) ?_ ?_
  · rw [show (s.setChannel l (replyFaultNoted n)).lanes = s.lanes from rfl, ha]
    decide
  · rw [setChannel_channel, if_pos rfl]
    exact hf

/-- Settles O38: the replies and misses by their drive cause, and the tick by the misses it judges. -/
theorem driveTroubleDisablesTheLane : Obligations.DriveTroubleDisablesTheLane := by
  refine ⟨fun l f tk n e s he => ⟨fun hp hm => ?_, fun hp => ?_, fun c why hp ha hc => ?_⟩, fun l s he => ?_, fun c b l s hb hp he => ?_⟩
  · have hopen : s.exchangeOpen l = true := by rw [State.exchangeOpen, hp, he]; rfl
    have calm : ¬ s.missRaises l := fun w => by
      have := (missFaults_iff.1 w.1).2.2.1
      omega
    have noted : s.setChannel l missNoted = s.setChannel l fun c => { c with status := .missing, missing := 1, exchange := none } := by
      rw [State.setChannel, State.setChannel, updAt, updAt, missNoted, hm]
      rfl
    exact congrArg (fun t => Host.Outcome.next (settle t)) ((takeMissing_counted hopen calm).trans noted)
  · exact congrArg (fun t => Host.Outcome.next (settle t)) (takeMissing_closed (by rw [State.exchangeOpen, hp]; rfl))
  · rcases hc with ⟨rfl, rfl, rfl, hf, rfl⟩ | ⟨rfl, hm, hf, rfl⟩ | ⟨rfl, rfl, rfl, hs, hpw, ⟨k, hk, hstray⟩, rfl⟩
    · have run : exec (.driveReply l e.f e.t .fault n) s = .next (settle (driveCause .driveFault l
          ((s.setChannel l (replyFaultNoted n)).setChannel l faultNoted))) :=
        congrArg (fun t => Host.Outcome.next (settle t)) (driveReply_fault hp ha he hf n)
      obtain ⟨h1, h2, h3, h4, h5, h6, h7, h8⟩ := driveCause_settled (s := s)
        (u := (s.setChannel l (replyFaultNoted n)).setChannel l faultNoted) rfl ha
        (by rw [setChannel_channel, if_pos rfl, setChannel_channel, if_pos rfl]; rfl) .driveFault
      rw [setChannel_channel, if_pos rfl, setChannel_channel, if_pos rfl] at h8
      refine ⟨_, run, h1, h2, h3, h4, h5, h6, h7, fun _ => (channel_of_core h8).2.2.1, fun st _ => ?_⟩
      exact ⟨core_latest h8, (channel_of_core h8).2.1⟩
    · have raises : s.missRaises l :=
        ⟨missFaults_iff.2 ⟨hp, by rw [he]; rfl, hm, hf⟩, by rw [ha]; decide⟩
      have run : exec (.driveReplyMissing l) s = .next (settle (driveCause .driveFault l
          ((s.setChannel l missNoted).setChannel l faultNoted))) :=
        congrArg (fun t => Host.Outcome.next (settle t)) (takeMissing_raises raises)
      obtain ⟨h1, h2, h3, h4, h5, h6, h7, h8⟩ := driveCause_settled (s := s)
        (u := (s.setChannel l missNoted).setChannel l faultNoted) rfl ha
        (by rw [setChannel_channel, if_pos rfl, setChannel_channel, if_pos rfl]; rfl) .driveFault
      rw [setChannel_channel, if_pos rfl, setChannel_channel, if_pos rfl] at h8
      exact ⟨_, run, h1, h2, h3, h4, h5, h6, h7, fun _ => (channel_of_core h8).2.2.1, fun st w => by cases w⟩
    · have strays : Strays (s.setChannel l (okNoted n)) l e.sent n := ⟨k, hk, hpw, ha, hstray⟩
      have run : exec (.driveReply l e.f e.t .ok n) s = .next (settle (driveCause .followError l (s.setChannel l (okNoted n)))) :=
        congrArg (fun t => Host.Outcome.next (settle t)) ((takeReply_taken hp he .ok n).trans
          ((replyOk_settled (.inl hs) e.sent n).trans (followCheck_strays strays)))
      obtain ⟨h1, h2, h3, h4, h5, h6, h7, h8⟩ := driveCause_settled (s := s) (u := s.setChannel l (okNoted n)) rfl ha
        (by rw [setChannel_channel, if_pos rfl]; rfl) .followError
      rw [setChannel_channel, if_pos rfl] at h8
      refine ⟨_, run, h1, h2, h3, h4, h5, h6, h7, fun w => (by cases w), fun st _ => ?_⟩
      exact ⟨core_latest h8, (channel_of_core h8).2.1⟩
  · exact congrArg (fun t => Host.Outcome.next (settle t)) (takeMissing_closed (by rw [State.exchangeOpen, he]; exact Bool.and_false _))
  · obtain ⟨u, run, start⟩ := issuesTick hb
    have lanes : u.lanes = s.lanes := start.frame.lanes
    have clock : u.tb = b := start.frame.tb
    have work := endWork_settle (tickWork u)
    obtain ⟨hst, hmiss⟩ := tickWork_missed (s := u) (l := l) (by rw [State.exchangeOpen, lanes, start.drives, hp, he]; rfl)
    refine ⟨_, run, ?_, ?_, fun hm => ?_, fun hm hf ha => ?_⟩
    · rw [work.drives, hst]
    · rw [work.drives, hmiss, start.drives]
    · rw [work.lanes, tickWork_lanes, (laneStep_condition _ l).2, playBefore_missFaults, (playBefore_frame u).frame.lanes, lanes,
        if_neg]
      intro w
      have := (missFaults_iff.1 w).2.2.1
      rw [start.drives] at this
      omega
    · obtain ⟨⟨sEff, hl⟩, hx, hr, off, held⟩ := tickWork_faults (s := u) (l := l)
        (missFaults_iff.2 (by rw [lanes, start.drives]; exact ⟨hp, he, hm, hf⟩)) (by rw [lanes, ha])
      rw [work.lanes, work.drives, State.hasCause, work.safety]
      refine ⟨?_, by rw [hx, clock], hr, off.2.1, off.2.2, held.1, held.2⟩
      rw [hl, lanes]

end Sys2Proof.Machine
end

section
/-! PROOFS. The zones after a commit, and ticks with no drive failing (O35, O36). -/

namespace Sys2Proof.Machine

open Sys2Proof

/-! ### The zones after a commit, exactly (R141, R142) -/

/-- Changing the entries one after the other is changing all of them. -/
theorem foldl_updAt_list {α : Type} {n : Nat} (f : Fin n → α → α) (is : List (Fin n)) (hn : is.Nodup) (v : Vector α n) :
    is.foldl (fun v i => updAt v i (f i)) v = mapAll v fun i x => if i ∈ is then f i x else x := by
  induction is generalizing v with
  | nil => exact Vector.ext fun i hi => by simp
  | cons i is ih =>
    rw [List.foldl_cons, ih (List.nodup_cons.mp hn).2]
    refine Vector.ext fun j hj => ?_
    rw [mapAll_getNat _ _ hj, mapAll_getNat _ _ hj, updAt_getNat _ _ _ hj]
    by_cases e : i.val = j
    · obtain rfl : i = ⟨j, hj⟩ := Fin.ext e
      rw [if_neg (List.nodup_cons.mp hn).1, if_pos rfl, if_pos (List.mem_cons_self ..)]
    · have ne : ¬ (⟨j, hj⟩ : Fin n) = i := fun w => e (by rw [← w])
      simp [e, ne]

theorem foldl_updAt {α : Type} {n : Nat} (f : Fin n → α → α) (v : Vector α n) :
    (List.finRange n).foldl (fun v i => updAt v i (f i)) v = mapAll v f := by
  rw [foldl_updAt_list f _ (List.nodup_finRange n)]
  exact Vector.ext fun j hj => by simp

/-- The mark of an enabled KEEP_OUT zone found not breached is cleared. -/
def exitCleared (e : ZoneEntry) : ZoneEntry := if e.exiting && e.armedKeepOut && !e.breached then { e with exiting := false } else e

theorem clearExit_setZone (z : ZoneNo) (s : State) : SameButQueues (s.setZone z exitCleared) (clearExit z s) := by
  unfold clearExit
  dsimp only
  split
  · next h =>
    have same : s.setZone z exitCleared = s.setZone z fun e => { e with exiting := false } := by
      rw [State.setZone, State.setZone, updAt, updAt, exitCleared, if_pos h]
    rw [same]
    exact raiseAll_frame _ _
  · next h =>
    have same : updAt s.safety.zones z exitCleared = s.safety.zones := Vector.ext fun j hj => by
      rw [updAt_getNat _ _ _ hj]
      split
      · next e =>
        subst e
        exact if_neg h
      · rfl
    rw [State.setZone, same]
    exact .refl s

theorem clearExits_list (zs : List ZoneNo) (s : State) :
    SameButQueues (s.setSafety { s.safety with zones := zs.foldl (fun v z => updAt v z exitCleared) s.safety.zones })
      (forEach zs clearExit s) := by
  induction zs generalizing s with
  | nil => exact .refl s
  | cons z zs ih =>
    have first := clearExit_setZone z s
    have rest := ih (clearExit z s)
    rw [first.safety] at rest
    exact (first.setSafety _).trans rest

/-- The zones once they have been evaluated on the committed vector and the marks of clear ones are gone. -/
def State.zonesAfter (s : State) : Vector ZoneEntry 16 := mapAll s.safety.zones fun _ e => exitCleared (evalZone s.motion e)

/-- The state with the zones' results found on the committed vector. -/
def zonesJudged (s : State) : State := s.setSafety { s.safety with zones := mapAll s.safety.zones fun _ e => evalZone s.motion e }

theorem zonesJudged_zone (s : State) (z : ZoneNo) :
    (zonesJudged s).safety.zones[z] = evalZone s.motion s.safety.zones[z] := mapAll_get _ _ z

/-- The zones found breached, as causes. -/
def State.breaches (s : State) : List CauseKind := (breachedZones (zonesJudged s)).map CauseKind.zoneBreached

/-- The state in which the breach causes arrive. -/
def zonesEvaluated (s : State) : State := forEach (List.finRange 16) clearExit (zonesJudged s)

theorem evaluateZones_eq (s : State) : evaluateZones s = causeEvents s.breaches (zonesEvaluated s) := rfl

theorem zonesEvaluated_frame (s : State) :
    SameButQueues (s.setSafety { s.safety with zones := s.zonesAfter }) (zonesEvaluated s) := by
  have all := clearExits_list (List.finRange 16) (zonesJudged s)
  rw [foldl_updAt fun (_ : Fin 16) => exitCleared] at all
  have twice : mapAll (zonesJudged s).safety.zones (fun _ e => exitCleared e) = s.zonesAfter :=
    Vector.ext fun j hj => by simp [State.zonesAfter, zonesJudged]
  rw [twice] at all
  exact all

theorem evaluateZones_zones (s : State) : (evaluateZones s).safety.zones = s.zonesAfter := by
  rw [evaluateZones_eq, causeEvents_zones, (zonesEvaluated_frame s).safety]
  rfl

theorem mem_breachedZones {s : State} {z : ZoneNo} : z ∈ breachedZones s ↔ s.safety.zones[z].armedKeepOut = true ∧
    s.safety.zones[z].exiting = false ∧ s.safety.zones[z].breached = true := by
  unfold breachedZones
  rw [List.mem_filter]
  dsimp only
  rw [Bool.and_eq_true, Bool.and_eq_true, Bool.not_eq_true', and_assoc]
  exact and_iff_right (List.mem_finRange z)

theorem armedKeepOut_iff {e : ZoneEntry} :
    e.armedKeepOut = true ↔ ∃ r, e.record = some r ∧ r.enabled = true ∧ r.kind = .keepOut := by
  unfold ZoneEntry.armedKeepOut
  cases hr : e.record with
  | none => simp
  | some r => simp

theorem evalZone_enabled {e : ZoneEntry} {r : ZoneRecord} (h : e.record = some r) (he : r.enabled = true) (m : Motion) :
    evalZone m e = { e with predicting := zonePredicts m r, breached := zoneContains m r } := by
  rw [evalZone, h]
  exact if_pos he

/-- A breach is that of an enabled KEEP_OUT record without an exiting mark whose lanes' positions it contains. -/
theorem mem_breaches {s : State} {z : ZoneNo} : CauseKind.zoneBreached z ∈ s.breaches ↔
    ∃ r, s.safety.zones[z].record = some r ∧ r.enabled = true ∧ r.kind = .keepOut ∧ s.safety.zones[z].exiting = false ∧
      zoneContains s.motion r = true := by
  have injective : CauseKind.zoneBreached z ∈ s.breaches ↔ z ∈ breachedZones (zonesJudged s) := by
    unfold State.breaches
    rw [List.mem_map]
    exact ⟨fun ⟨x, hx, he⟩ => by cases he; exact hx, fun hx => ⟨z, hx, rfl⟩⟩
  obtain ⟨record, exiting, -⟩ := evalZone_keeps s.motion s.safety.zones[z]
  rw [injective, mem_breachedZones, zonesJudged_zone, armedKeepOut_iff, record, exiting]
  constructor
  · rintro ⟨⟨r, hr, he, hk⟩, hx, hb⟩
    rw [evalZone_enabled hr he] at hb
    exact ⟨r, hr, he, hk, hx, hb⟩
  · rintro ⟨r, hr, he, hk, hx, hc⟩
    refine ⟨⟨r, hr, he, hk⟩, hx, ?_⟩
    rw [evalZone_enabled hr he]
    exact hc

theorem breaches_none {s : State} (h : ∀ z : ZoneNo, s.safety.zones[z].record = none) : s.breaches = [] := by
  unfold State.breaches
  rw [List.map_eq_nil_iff, List.eq_nil_iff_forall_not_mem]
  intro z hz
  obtain ⟨r, hr, -⟩ := armedKeepOut_iff.1 (mem_breachedZones.1 hz).1
  rw [zonesJudged_zone, (evalZone_keeps _ _).1, h z] at hr
  cases hr

theorem breaches_notOff (s : State) : s.breaches.any CauseKind.isOff = false := by
  unfold State.breaches
  rw [List.any_map]
  exact List.any_eq_false.mpr fun z _ => fun w => by cases w

/-- Outside RUN the zones stop nothing: grants and playback stay, and so do stop state and drive power, but for RELEASING. -/
theorem evaluateZones_stopped {s : State} (h : s.safety.stop ≠ .run) : (evaluateZones s).grants = s.grants ∧
    (evaluateZones s).play = s.play ∧ (s.safety.stop ≠ .releasing → (evaluateZones s).safety.stop = s.safety.stop ∧
      (evaluateZones s).safety.drivePower = s.safety.drivePower ∧
      (evaluateZones s).safety.unparkInRamp = s.safety.unparkInRamp) := by
  have frame := zonesEvaluated_frame s
  have stop : (zonesEvaluated s).safety.stop = s.safety.stop := by rw [frame.safety]; rfl
  obtain ⟨hg, hp, -, -⟩ := causeEvents_outside_run (s := zonesEvaluated s) (by rwa [stop]) s.breaches
  rw [evaluateZones_eq]
  refine ⟨hg.trans frame.grants, hp.trans frame.play, fun hr => ?_⟩
  by_cases hb : s.breaches = []
  · rw [hb, causeEvents_nil, frame.safety, State.setSafety_safety]
    exact ⟨rfl, rfl, rfl⟩
  · rw [causeEvents_safety hb]
    cases hs : s.safety.stop with
    | run => exact absurd hs h
    | stopping =>
      rw [safetyAfter_stopping _ _ _ (stop.trans hs), frame.safety, State.setSafety_safety]
      exact ⟨hs, rfl, rfl⟩
    | stopped =>
      rw [safetyAfter_stopped _ _ _ (stop.trans hs), breaches_notOff, frame.safety, State.setSafety_safety]
      exact ⟨hs, Bool.and_true _, rfl⟩
    | releasing => exact absurd hs hr

/-- With no zone in the table the zones' evaluation changes nothing but their results. -/
theorem evaluateZones_none {s : State} (h : ∀ z : ZoneNo, s.safety.zones[z].record = none) :
    SameButQueues (s.setSafety { s.safety with zones := s.zonesAfter }) (evaluateZones s) := by
  rw [evaluateZones_eq, breaches_none h, causeEvents_nil]
  exact zonesEvaluated_frame s

end Sys2Proof.Machine
end

section
/-! PROOFS. Ticks with no drive failing: what they commit, send and leave (O35, O36). -/

namespace Sys2Proof.Machine

open Sys2Proof

/-! ### The commit -/

theorem missFaults_parked {s : State} (h : NoDriveFails s) (l : Lane) :
    (if s.missFaults l then disableLane .driveFault s.lanes[l] else s.lanes[l]) = s.lanes[l] := by
  split
  · next hm =>
    refine disableLane_inactive ?_ _
    rw [h l hm]
    decide
  · rfl

theorem commitLanes_calm {s : State} (h : NoDriveFails s) (cs : Vector Candidate 12) (l : Lane) :
    (commitLanes cs s).lanes[l] = commitLane (s.effScale l) cs[l] s.lanes[l] := by
  rw [commitLanes_lane, missFaults_parked h]

theorem missFaults_calm {s : State} (h : NoDriveFails s) {l : Lane} (ha : s.lanes[l].condition = .active) :
    s.missFaults l = false := by
  cases hm : s.missFaults l with
  | false => rfl
  | true =>
    have := h l hm
    rw [ha] at this
    cases this

theorem noDriveFails_congr {s t : State} (hl : t.lanes = s.lanes) (hd : t.drives = s.drives) (h : NoDriveFails s) :
    NoDriveFails t := by
  intro l hm
  rw [State.missFaults, hl, hd] at hm
  rw [hl]
  exact h l hm

/-- The record of a lane that is present and not ACTIVE, committed. -/
theorem commitLane_inactive {x : LaneRec} (hp : x.present = true) (hc : x.condition ≠ .active) (sEff : Nat) (c : Candidate) :
    commitLane sEff c x = { x with v := 0, sEff := sEff, limitClip := false, capped := false } := by
  rw [commitLane, hp, if_neg (by decide), if_neg hc]

theorem commitLane_absent {x : LaneRec} (hp : x.present = false) (sEff : Nat) (c : Candidate) : commitLane sEff c x = x := by
  rw [commitLane, hp, if_pos (by decide)]

/-- The effective scale is made of the lane's holder, the trim the unit supplies, the safety monitor and the rig record. -/
theorem effScale_of_eq {s t : State} {l : Lane} (hg : t.grants[l] = s.grants[l]) (hp : t.play.trim = s.play.trim)
    (hs : t.safety = s.safety) (hr : t.rig = s.rig) : t.effScale l = s.effScale l := by
  have trim : t.trimTerm l = s.trimTerm l := by rw [State.trimTerm, State.trimTerm, hg, hp]
  rw [State.effScale, State.effScale, trim, State.presenceTerms, State.presenceTerms, State.zoneTerms, State.zoneTerms,
    State.commissioningTerm, State.commissioningTerm, hs, hr]

/-! ### The exchanges -/

section Calm

variable {s : State} (h : NoDriveFails s)

include h

theorem beforeExchange_calm (l : Lane) : ¬ (beforeExchange s).missRaises l := by
  rintro ⟨hm, hp⟩
  have parked := h l ((beforeExchange_missFaults s l).symm.trans hm)
  refine hp ?_
  rw [beforeExchange_condition, missFaults_parked h, parked]

theorem calm_condition (l : Lane) : (beforeExchange s).lanes[l].condition = s.lanes[l].condition := by
  rw [beforeExchange_condition, missFaults_parked h]

theorem calm_misses : forEach allLanes takeMissing (beforeExchange s) = (beforeExchange s).setDrives
    { (beforeExchange s).drives with
      channels := mapAll (beforeExchange s).drives.channels fun l c =>
        if (beforeExchange s).exchangeOpen l then missNoted c else c } :=
  misses_counted (beforeExchange_calm h)

/-- With no drive failing the exchanges touch the channels alone. -/
theorem calm_exchanged : (exchanged s).safety = (tickStep s).safety ∧ (exchanged s).grants = (tickStep s).grants ∧
    (exchanged s).play = (tickStep s).play := by
  obtain ⟨-, play, grants, safety, -⟩ := beforeExchange_frame s
  have frame := exchanged_frame s
  obtain ⟨-, -, hs, hg, hp⟩ := exchangeAll_frame (forEach allLanes takeMissing (beforeExchange s))
  rw [calm_misses h] at hs hg hp
  have taken : exchangeTick (beforeExchange s) = exchangeAll ((beforeExchange s).setDrives
    { (beforeExchange s).drives with
      channels := mapAll (beforeExchange s).drives.channels fun l c =>
        if (beforeExchange s).exchangeOpen l then missNoted c else c }) := congrArg exchangeAll (calm_misses h)
  refine ⟨?_, ?_, ?_⟩
  · rw [frame.safety, taken, hs]; exact safety
  · rw [frame.grants, taken, hg]; exact grants
  · rw [frame.play, taken, hp]; exact play

theorem calm_missed_safety : (forEach allLanes takeMissing (beforeExchange s)).safety = (tickStep s).safety := by
  rw [calm_misses h]
  exact (beforeExchange_frame s).2.2.2.1

/-- R158: what goes out to a present drive. -/
theorem calm_sent {l : Lane} (hp : s.lanes[l].present = true) : (tickWork s).drives.channels[l].exchange =
    some { f := s.tb.f, t := s.tb.t, sent :=
      if (tickStep s).safety.drivePower = true ∧ s.lanes[l].condition = .active then some (Int.fdiv (tickWork s).lanes[l].p 256)
      else none } := by
  obtain ⟨c, -, hx⟩ := exchanged_channel s l
  have lanes : (forEach allLanes takeMissing (beforeExchange s)).lanes = (tickWork s).lanes := by
    rw [(exchanges_judged s).lanes, beforeExchange_lanes, tickWork_lanes]
  have clock : (forEach allLanes takeMissing (beforeExchange s)).tb = s.tb := by
    rw [(exchanges_judged s).tb, beforeExchange_tb]
  have present : (forEach allLanes takeMissing (beforeExchange s)).lanes[l].present = true := by
    rw [(exchanges_judged s).lanes, beforeExchange_present, hp]
  have condition : (forEach allLanes takeMissing (beforeExchange s)).lanes[l].condition = s.lanes[l].condition := by
    rw [(exchanges_judged s).lanes, calm_condition h]
  rw [(channel_of_core (tickWork_core s l)).1, hx, sendExchange_present _ present, condition, clock, calm_missed_safety h, lanes]
  split <;> rfl

end Calm

/-- A lane whose exchange was closed keeps its drive's status and count of misses. -/
theorem tickWork_unmissed {s : State} {l : Lane} (h : s.drives.channels[l].exchange = none) :
    (tickWork s).drives.channels[l].status = s.drives.channels[l].status ∧
      (tickWork s).drives.channels[l].missing = s.drives.channels[l].missing := by
  obtain ⟨c, hc, hx⟩ := exchanged_channel s l
  obtain ⟨-, hm, -, hst⟩ := channel_of_core hc
  obtain ⟨-, tm, -, tst⟩ := channel_of_core (tickWork_core s l)
  obtain ⟨-, bm, -, bst⟩ := channel_of_core (beforeExchange_core s l)
  have closed : (beforeExchange s).exchangeOpen l = false := by
    rw [beforeExchange_open, State.exchangeOpen, h]
    exact Bool.and_false _
  have same : (beforeExchange s).missedChannel l = (beforeExchange s).drives.channels[l] := by
    rw [State.missedChannel, if_neg (by rw [closed]; decide)]
  obtain ⟨ks, km, -⟩ := sendExchange_keeps (forEach allLanes takeMissing (beforeExchange s)) l c
  rw [tst, tm, hx, ks, km, hst, hm, same, bm, bst]
  exact ⟨rfl, rfl⟩

/-! ### The step with no playback -/

section Idle

variable {s : State} (hi : s.play.state = .idle)

include hi

theorem idle_before : (playBefore s).lanes = s.lanes ∧ (playBefore s).grants = s.grants ∧ (playBefore s).safety = s.safety ∧
    (playBefore s).drives = s.drives ∧ (playBefore s).lens = s.lens ∧ (playBefore s).tb = s.tb ∧
    (playBefore s).play.state = .idle := by
  rw [playBefore_of_idle hi]
  exact ⟨rfl, rfl, rfl, rfl, rfl, rfl, hi⟩

theorem idle_effScale (l : Lane) : (playBefore s).effScale l = s.effScale l := by
  rw [playBefore_of_idle hi]
  exact effScale_of_eq rfl rfl rfl rfl

/-- In STOPPED and RELEASING the step leaves all but the lanes. -/
theorem idle_step_rest (h : s.safety.stop = .stopped ∨ s.safety.stop = .releasing) :
    (tickStep s).safety = s.safety ∧ (tickStep s).grants = s.grants ∧ (tickStep s).play.state = .idle := by
  obtain ⟨-, grants, safety, -, -, -, state⟩ := idle_before hi
  have step := laneStep_rest (s := playBefore s) (by rw [safety]; exact h)
  have still : stoppedTest (laneStep (playBefore s)) = laneStep (playBefore s) := by
    refine stoppedTest_moving (.inl ?_)
    rw [step.safety]
    change (playBefore s).safety.stop ≠ _
    rw [safety]
    rcases h with h | h <;> rw [h] <;> decide
  rw [tickStep, still, playAfter_of_idle (by rw [step.play]; exact state)]
  exact ⟨step.safety.trans safety, step.grants.trans grants, by rw [step.play]; exact state⟩

/-- In STOPPING the step leaves all but the lanes, and becomes STOPPED once they rest (R148). -/
theorem idle_step_stopping (h : s.safety.stop = .stopping) : (tickStep s).grants = s.grants ∧
    (tickStep s).play.state = .idle ∧ (tickStep s).safety =
      if (laneStep (playBefore s)).atRest then safetyStopped s.safety else s.safety := by
  obtain ⟨-, grants, safety, -, -, -, state⟩ := idle_before hi
  have step := laneStep_stopping (s := playBefore s) (by rw [safety]; exact h)
  have stop : (laneStep (playBefore s)).safety = s.safety := step.safety.trans safety
  have play : (laneStep (playBefore s)).play.state = .idle := by rw [step.play]; exact state
  rw [tickStep]
  cases hr : (laneStep (playBefore s)).atRest with
  | false =>
    rw [stoppedTest_moving (.inr hr), playAfter_of_idle play, if_neg Bool.false_ne_true]
    exact ⟨step.grants.trans grants, play, stop⟩
  | true =>
    obtain ⟨hs, hg, hp⟩ := stoppedTest_rests (by rw [stop, h]) hr
    rw [playAfter_of_idle (by rw [hp, play]), if_pos rfl, hs, hg, hp, stop]
    exact ⟨step.grants.trans grants, play, rfl⟩

end Idle

/-! ### Ticks in a stop -/

theorem atRest_iff (s : State) : s.atRest = true ↔
    ∀ l : Lane, s.lanes[l].present = true → s.lanes[l].condition = .active → s.lanes[l].v = 0 := by
  unfold State.atRest
  rw [List.all_eq_true]
  refine ⟨fun h l hp hc => ?_, fun h l _ => ?_⟩
  · have hl := h l (List.mem_finRange l)
    rw [hp, hc] at hl
    simpa using hl
  · by_cases hx : s.lanes[l].present = true ∧ s.lanes[l].condition = .active
    · rw [h l hx.1 hx.2]
      exact Bool.or_true _
    · rw [Bool.or_eq_true, Bool.not_eq_true', Bool.and_eq_false_iff, decide_eq_false_iff_not]
      left
      by_cases hp : s.lanes[l].present = true
      · exact .inr fun hc => hx ⟨hp, hc⟩
      · exact .inl (Bool.not_eq_true _ |>.mp hp)

end Sys2Proof.Machine
end

section
/-! PROOFS. Ticks in a stop, and ticks at which a zone predicts or is breached (O35, O36). -/

namespace Sys2Proof.Machine

open Sys2Proof

/-! ### What a tick begins with -/

/-- What the beginning of a tick leaves of the lanes, the drives and the safety monitor, and with no playback of the
grants. -/
structure IdleStart (s : State) (b : Timebase) (u : State) : Prop where
  tb : u.tb = b
  lanes : u.lanes = s.lanes
  lens : u.lens = s.lens
  rig : u.rig = s.rig
  safety : u.safety = s.safety
  drives : u.drives = s.drives
  play : u.play = s.play
  grants : u.grants = s.grants

theorem TickStart.idleStart {s u : State} {b : Timebase} (h : TickStart s b u) (hi : s.play.state = .idle) : IdleStart s b u :=
  have ⟨play, grants⟩ := h.idle hi
  { tb := h.frame.tb, lanes := h.frame.lanes, lens := h.frame.lens, rig := h.frame.rig, safety := h.safety,
    drives := h.drives, play := play, grants := grants }

theorem IdleStart.effScale {s u : State} {b : Timebase} (h : IdleStart s b u) (hi : s.play.state = .idle) (l : Lane) :
    (playBefore u).effScale l = s.effScale l := by
  rw [idle_effScale (by rw [h.play, hi])]
  exact effScale_of_eq (by rw [h.grants]) (by rw [h.play]) h.safety h.rig

/-! ### The forms of a stop, committed -/

theorem commit_rest {x : LaneRec} (hp : x.present = true) {c : Candidate} (hc : x.condition = .active → c = restStep x)
    (sEff : Nat) : (commitLane sEff c x).p = x.p ∧ (commitLane sEff c x).v = 0 ∧ (commitLane sEff c x).t = x.t := by
  by_cases ha : x.condition = .active
  · rw [commitLane_active hp ha, hc ha]
    exact ⟨rfl, rfl, rfl⟩
  · rw [commitLane_inactive hp ha]
    exact ⟨rfl, rfl, rfl⟩

/-- R18: the stop step of a lane, committed. -/
theorem commit_stop {x : LaneRec} (hp : x.present = true) (ha : x.condition = .active) (sEff : Nat) :
    let v := x.v - x.v.sign * min (x.v.natAbs : Int) x.astop
    let c := limitClip x (x.p + v) v
    (commitLane sEff (stopStep x) x).p = c.1 ∧ (commitLane sEff (stopStep x) x).v = c.2.1 ∧
      (commitLane sEff (stopStep x) x).t = x.t := by
  rw [commitLane_active hp ha]
  exact ⟨rfl, rfl, rfl⟩

section Stops

variable {s : State} (h : NoDriveFails s) (hi : s.play.state = .idle)

include h hi

theorem tickWork_commit {f : Lane → Candidate}
    (hf : (laneStep (playBefore s)).lanes = (commitLanes ((playBefore s).candidates f) (playBefore s)).lanes) (l : Lane) :
    (tickWork s).lanes[l] = commitLane (s.effScale l) ((playBefore s).candidates f)[l] s.lanes[l] := by
  have lanes := (playBefore_frame s).frame.lanes
  have calm : NoDriveFails (playBefore s) := noDriveFails_congr lanes (playBefore_frame s).drives h
  rw [tickWork_lanes, hf, commitLanes_calm calm, idle_effScale hi, lanes]

/-- R3, R18: the lanes of a tick at rest. -/
theorem tickWork_rest (hs : s.safety.stop = .stopped ∨ s.safety.stop = .releasing) {l : Lane}
    (hp : s.lanes[l].present = true) : (tickWork s).lanes[l].p = s.lanes[l].p ∧ (tickWork s).lanes[l].v = 0 ∧
      (tickWork s).lanes[l].t = s.lanes[l].t := by
  obtain ⟨lanes, -, safety, -⟩ := idle_before hi
  rw [tickWork_commit h hi (laneStep_lanes_rest (by rw [safety]; exact hs)) l]
  refine commit_rest hp (fun ha => ?_) _
  rw [candidates_stepped (by rw [lanes, hp]) (by rw [lanes, ha]), lanes]

/-- R18: the lanes of a tick whose stop step is committed. -/
theorem tickWork_stops (hs : s.safety.stop = .stopping ∨ (s.safety.stop = .run ∧ predictedZones (playBefore s)
      ((playBefore s).candidateMotion ((playBefore s).candidates (playBefore s).runCandidate)) ≠ [])) {l : Lane}
    (hp : s.lanes[l].present = true) :
    (s.lanes[l].condition = .active → let x := s.lanes[l]
      let v := x.v - x.v.sign * min (x.v.natAbs : Int) x.astop
      let c := limitClip x (x.p + v) v
      (tickWork s).lanes[l].p = c.1 ∧ (tickWork s).lanes[l].v = c.2.1 ∧ (tickWork s).lanes[l].t = x.t) ∧
    (s.lanes[l].condition ≠ .active → (tickWork s).lanes[l].p = s.lanes[l].p ∧ (tickWork s).lanes[l].v = 0) := by
  obtain ⟨lanes, -, safety, -⟩ := idle_before hi
  have commit := tickWork_commit h hi (laneStep_lanes_stopStep (s := playBefore s) (by rw [safety]; exact hs)) l
  refine ⟨fun ha => ?_, fun ha => ?_⟩
  · rw [commit, candidates_stepped (by rw [lanes, hp]) (by rw [lanes, ha]), lanes]
    exact commit_stop hp ha _
  · rw [commit, commitLane_inactive hp ha]
    exact ⟨rfl, rfl⟩

omit hi in
/-- The end of a tick that is not in RUN before its zones. -/
theorem tickWork_stopped (hs : (tickStep s).safety.stop ≠ .run) : (tickWork s).grants = (tickStep s).grants ∧
    (tickWork s).play = (tickStep s).play ∧ ((tickStep s).safety.stop ≠ .releasing →
      (tickWork s).safety.stop = (tickStep s).safety.stop ∧
      (tickWork s).safety.drivePower = (tickStep s).safety.drivePower ∧
      (tickWork s).safety.unparkInRamp = (tickStep s).safety.unparkInRamp) := by
  obtain ⟨safety, grants, play⟩ := calm_exchanged h
  obtain ⟨hg, hp, hx⟩ := evaluateZones_stopped (s := exchanged s) (by rw [safety]; exact hs)
  rw [tickWork_eq]
  rw [safety] at hx
  exact ⟨hg.trans grants, hp.trans play, hx⟩

end Stops

/-- Settles O35: by the stop state, the lanes by the form committed, the stop state by the stopped test. -/
theorem servoTickInAStop : Obligations.ServoTickInAStop := by
  intro c b s hc hi hn
  obtain ⟨u, run, start⟩ := issuesTick hc
  have same := start.idleStart hi
  have calm : NoDriveFails u := noDriveFails_congr same.lanes same.drives hn
  have idle : u.play.state = .idle := by rw [same.play, hi]
  have work := endWork_settle (tickWork u)
  have clock := settled_tick_tb start
  refine ⟨fun hs => ⟨_, run, clock, ?_, fun l hp => ?_⟩, fun hs => ⟨_, run, clock, ?_, fun l hp ha => ?_, fun l hp ha => ?_, fun hm => ?_, fun hr => ?_⟩⟩
  · rw [← same.safety] at hs
    obtain ⟨safety, grants, -⟩ := idle_step_rest idle hs
    have notRun : (tickStep u).safety.stop ≠ .run := by rw [safety]; rcases hs with hs | hs <;> rw [hs] <;> decide
    rw [work.grants, (tickWork_stopped calm notRun).1, grants, same.grants]
  · rw [← same.safety] at hs
    obtain ⟨safety, -, -⟩ := idle_step_rest idle hs
    rw [← same.lanes] at hp ⊢
    obtain ⟨h1, h2, h3⟩ := tickWork_rest calm idle hs hp
    rw [work.lanes, work.drives, calm_sent calm hp, h1, same.tb, safety, same.safety]
    exact ⟨rfl, h2, h3, rfl⟩
  all_goals
    rw [← same.safety] at hs
    obtain ⟨grants, -, safety⟩ := idle_step_stopping idle hs
    have notRun : (tickStep u).safety.stop ≠ .run := by
      rw [safety]
      split
      · exact fun w => by cases w
      · rw [hs]; decide
  · rw [work.grants, (tickWork_stopped calm notRun).1, grants, same.grants]
  · rw [← same.lanes] at hp ha ⊢
    rw [work.lanes]
    exact (tickWork_stops calm idle (.inl hs) hp).1 ha
  · rw [← same.lanes] at hp ha ⊢
    rw [work.lanes]
    exact (tickWork_stops calm idle (.inl hs) hp).2 ha
  all_goals
    have present : ∀ l : Lane, (laneStep (playBefore u)).lanes[l].present = s.lanes[l].present := fun l => by
      rw [(laneStep_condition _ l).1, (playBefore_frame u).frame.lanes, same.lanes]
    have condition : ∀ l : Lane, (laneStep (playBefore u)).lanes[l].condition = s.lanes[l].condition := fun l => by
      rw [(laneStep_condition _ l).2, playBefore_missFaults, (playBefore_frame u).frame.lanes, missFaults_parked calm, same.lanes]
  · obtain ⟨l, hp, ha, hv⟩ := hm
    rw [work.lanes, tickWork_lanes] at hv
    have moving : (laneStep (playBefore u)).atRest = false := by
      rw [← Bool.not_eq_true, atRest_iff]
      exact fun w => hv (w l (by rw [present, hp]) (by rw [condition, ha]))
    rw [moving, if_neg Bool.false_ne_true] at safety
    obtain ⟨-, -, hx⟩ := tickWork_stopped calm notRun
    obtain ⟨stop, power, -⟩ := hx (by rw [safety, hs]; decide)
    rw [work.safety, stop, power, safety, hs, same.safety]
    exact ⟨rfl, rfl⟩
  · have rests : (laneStep (playBefore u)).atRest = true := by
      rw [atRest_iff]
      intro l hp ha
      have := hr l (by rw [← present, hp]) (by rw [← condition, ha])
      rwa [work.lanes, tickWork_lanes] at this
    rw [rests, if_pos rfl] at safety
    obtain ⟨-, -, hx⟩ := tickWork_stopped calm notRun
    obtain ⟨stop, power, unpark⟩ := hx (by rw [safety]; exact fun w => by cases w)
    rw [work.safety, stop, power, unpark, safety, ← same.safety]
    exact ⟨rfl, rfl, rfl⟩

/-! ### The zones' results after a tick (R141, R142) -/

theorem stoppedTest_safety (s : State) : (stoppedTest s).safety = s.safety ∨
    (s.safety.stop = .stopping ∧ (stoppedTest s).safety = safetyStopped s.safety) := by
  by_cases h : s.safety.stop = .stopping ∧ s.atRest = true
  · exact .inr ⟨h.1, (stoppedTest_rests h.1 h.2).1⟩
  · rw [stoppedTest_moving]
    · exact .inl rfl
    · by_cases hs : s.safety.stop = .stopping
      · exact .inr (Bool.not_eq_true _ |>.mp fun hr => h ⟨hs, hr⟩)
      · exact .inl hs

theorem keepsStep_zones (v : Vector ZoneEntry 16) : KeepsStep (fun t => t.safety.zones = v) where
  raise _ _ _ h := h
  playBefore t h := by rw [(playBefore_frame t).safety, h]
  playAfter t h := by rw [(playAfter_frame t).safety, h]
  commitRun _ _ h := h
  commitStop _ _ h := h
  commitRest _ h := h
  writeBack _ _ h := h
  causes ks t h := by rw [causeEvents_zones, h]
  stoppedTest t h := by
    rcases stoppedTest_safety t with hs | ⟨-, hs⟩ <;> rw [hs] <;> exact h

theorem keepsDrives_zones (v : Vector ZoneEntry 16) : KeepsDrives (fun t => t.safety.zones = v) where
  channels _ _ _ h := h
  driveCause := driveCause_keeps (fun _ _ _ h => h) (fun ks t h => by rw [causeEvents_zones, h])
  settled _ _ _ _ h := h

theorem exchanged_zones (s : State) : (exchanged s).safety.zones = s.safety.zones := by
  have step : (tickStep s).safety.zones = s.safety.zones := (keepsStep_zones _).step rfl
  rw [(exchanged_frame s).safety]
  exact (keepsDrives_zones _).exchangeTick (by rw [(beforeExchange_frame s).2.2.2.1, step])

theorem exitCleared_record (e : ZoneEntry) : (exitCleared e).record = e.record := by
  unfold exitCleared
  split <;> rfl

theorem exitCleared_unarmed {e : ZoneEntry} (h : e.armedKeepOut = false) : exitCleared e = e := by
  unfold exitCleared
  rw [if_neg]
  rw [h]
  simp

/-- An enabled record's entry after the evaluation. -/
theorem evaluated_enabled {e : ZoneEntry} {r : ZoneRecord} (h : e.record = some r) (he : r.enabled = true) (m : Motion) :
    exitCleared (evalZone m e) = { e with
      predicting := zonePredicts m r
      breached := zoneContains m r
      exiting := e.exiting && (r.kind = .slow || zoneContains m r) } := by
  rw [evalZone_enabled h he]
  cases hk : r.kind with
  | slow =>
    rw [exitCleared_unarmed (by simp [ZoneEntry.armedKeepOut, h, hk])]
    simp
  | keepOut =>
    cases hx : e.exiting <;> cases hc : zoneContains m r <;>
      simp [exitCleared, ZoneEntry.armedKeepOut, h, hk, he]

theorem evaluated_disabled {e : ZoneEntry} (h : ∀ r, e.record = some r → r.enabled = false) (m : Motion) :
    exitCleared (evalZone m e) = { e with predicting := false, breached := false } := by
  cases hr : e.record with
  | none =>
    rw [exitCleared_unarmed (by simp [ZoneEntry.armedKeepOut, (evalZone_keeps m e).1, hr]), evalZone, hr]
  | some r =>
    have off := h r hr
    rw [exitCleared_unarmed (by simp [ZoneEntry.armedKeepOut, (evalZone_keeps m e).1, hr, off]), evalZone, hr]
    exact if_neg (by rw [off]; decide)

/-! ### EXIT_CLEARED -/

theorem noted_raiseFor {e : Event} {s : State} {p : Port} (h : Noted e s.ports[p]) (aud : Port → Bool) (body : EventBody) :
    Noted e (raiseFor aud body s).ports[p] := by
  rw [raiseFor_port]
  split
  · exact h.pushEvent _
  · exact h

theorem keepsTakes_noted (e : Event) (p : Port) : KeepsTakes (fun t => Noted e t.ports[p]) where
  raise _ _ _ h := noted_raiseFor h _ _
  mem _ _ _ h := h
  recorder _ _ _ h := h

theorem keepsPlay_noted (e : Event) (p : Port) : KeepsPlay (fun t => Noted e t.ports[p]) where
  raise _ _ _ h := noted_raiseFor h _ _
  play _ _ _ h := h
  leave l why t h := by
    unfold leaveLane
    split
    · exact h
    · dsimp only
      have ended := noted_raiseFor (s := t.setGrant l fun _ => chooseNext t.lens l t.lanes[l].p t.grants[l]) h
      split
      · exact noted_raiseFor (ended _ _) _ _
      · exact noted_raiseFor (ended _ _) _ _
      · exact ended _ _
  contexts _ h := h
  dropPlay _ h := h

theorem keepsStops_noted (e : Event) (p : Port) : KeepsStops (fun t => Noted e t.ports[p]) where
  raise _ _ _ h := noted_raiseFor h _ _
  recordEnds o _ h := (keepsTakes_noted e p).recordEnds o h
  endPlayback o _ h := (keepsPlay_noted e p).endPlayback o h
  safety _ _ _ h := h
  power on t h := by
    unfold setPower
    split
    · exact h
    · exact noted_raiseFor (s := refreshOutputs (t.setSafety { t.safety with drivePower := on })) h _ _

theorem noted_settle {e : Event} {s : State} {p : Port} (h : Noted e s.ports[p]) : Noted e (settle s).ports[p] := by
  have work := (endWork_settle s).port p
  rcases h with h | h
  · exact .inl (work.events.subset h)
  · exact .inr (work.lost h)

/-- R142: the mark of zone z is cleared, and every ACTIVE port is told or has lost the event. -/
theorem noted_clearExit {s : State} {z : ZoneNo} {p : Port} (ha : s.isActive p = true)
    (hz : (s.safety.zones[z].exiting && s.safety.zones[z].armedKeepOut && !s.safety.zones[z].breached) = true) :
    Noted { f := s.tb.f, t := s.tb.t, body := .exitCleared z s.tb.f s.tb.t } (clearExit z s).ports[p] := by
  have cleared : clearExit z s = raiseAll (.exitCleared z s.tb.f s.tb.t) (s.setZone z fun e => { e with exiting := false }) :=
    if_pos hz
  have active : (s.setZone z fun e => { e with exiting := false }).isActive p = true := ha
  rw [cleared, raiseAll, raiseFor_port, active, if_pos (by decide)]
  exact noted_pushEvent_self _ _

theorem noted_clearExits {s : State} {z : ZoneNo} {p : Port} (ha : s.isActive p = true)
    (hz : (s.safety.zones[z].exiting && s.safety.zones[z].armedKeepOut && !s.safety.zones[z].breached) = true) :
    Noted { f := s.tb.f, t := s.tb.t, body := .exitCleared z s.tb.f s.tb.t }
      (forEach (List.finRange 16) clearExit s).ports[p] := by
  obtain ⟨pre, post, split⟩ := List.append_of_mem (List.mem_finRange z)
  have nodup := List.nodup_finRange 16
  rw [split] at nodup ⊢
  have notPre : z ∉ pre := fun hm => (List.nodup_append.mp nodup).2.2 z hm z (List.mem_cons_self ..) rfl
  have frame := clearExits_list pre s
  rw [foldl_updAt_list (fun _ => exitCleared) pre (List.nodup_append.mp nodup).1] at frame
  have zone : (forEach pre clearExit s).safety.zones[z] = s.safety.zones[z] := by
    rw [frame.safety, State.setSafety_safety, mapAll_get, if_neg notPre]
  have active : (forEach pre clearExit s).isActive p = true := by
    rw [State.isActive, frame.link]
    exact ha
  have told := noted_clearExit active (z := z) (by rw [zone]; exact hz)
  have clock : (forEach pre clearExit s).tb = s.tb := frame.tb
  rw [clock] at told
  have all : forEach (pre ++ z :: post) clearExit s = forEach post clearExit (clearExit z (forEach pre clearExit s)) := by
    simp [forEach]
  rw [all]
  exact forEach_keeps (P := fun t => Noted _ t.ports[p]) (fun y t ht => (keepsStops_noted _ p).clearExit y ht) post told

/-! ### The whole tick (R140, R144, R145) -/

theorem KeepsTick.exchanged {P : State → Prop} (k : KeepsTick P) {s : State} (h : P s) : P (exchanged s) := by
  have step : P (tickStep s) := k.step h
  have before : P (beforeExchange s) := by
    unfold beforeExchange
    split
    · exact k.compose _ step
    · exact step
  unfold Machine.exchanged
  split
  · exact k.telemetry _ _ (k.exchange _ before)
  · exact k.exchange _ before

theorem Told.link {q r : StationPort} (h : Told q r) : r.link = q.link := by rw [h]

theorem exchanged_active {s : State} {p : Port} (h : s.ports[p].link = .active) : (exchanged s).isActive p = true := by
  have links := keepsUnits_links (fun _ v => v[p].link = .active) fun _ v w hs hv => (hs p).1.trans hv
  have tick : KeepsTick (fun t => t.ports[p].link = .active) := links.plain.tick fun hs t ht => by
    rw [(formTelemetry_frame hs t).link]
    exact ht
  exact decide_eq_true (tick.exchanged h)

/-- A station's lane steps alike with the playback's demands renewed. -/
theorem idle_runCandidate {s : State} (hi : s.play.state = .idle) {l : Lane} (hg : s.grants[l].heldByPlayback = false) :
    (playBefore s).runCandidate l = s.runCandidate l := by
  obtain ⟨lanes, grants, -, -, lens, -⟩ := idle_before hi
  unfold State.runCandidate
  rw [grants, lanes, idle_effScale hi]
  cases hh : s.grants[l].holder with
  | none => rfl
  | some h =>
    have station : (playBefore s).heldTarget l h = s.heldTarget l h := by
      unfold State.heldTarget
      cases hw : h.who with
      | station q => rw [lens]
      | playback =>
        rw [Grant.heldByPlayback, hh] at hg
        dsimp only at hg
        rw [hw] at hg
        cases hg
    dsimp only
    rw [station]

theorem candidates_congr {s t : State} {f g : Lane → Candidate} (hl : t.lanes = s.lanes) (h : ∀ l, g l = f l) :
    t.candidates g = s.candidates f := by
  unfold State.candidates
  rw [hl, funext h]

theorem runCandidate_of_eq {s u : State} {b : Timebase} (h : IdleStart s b u) (l : Lane) : u.runCandidate l = s.runCandidate l := by
  have scale : u.effScale l = s.effScale l := effScale_of_eq (by rw [h.grants]) (by rw [h.play]) h.safety h.rig
  unfold State.runCandidate State.heldTarget
  rw [h.grants, h.lanes, scale, h.lens, h.play]

/-- The zones that predict, with an idle Playback Unit, on the candidates of the tick. -/
theorem idle_predicted {s u : State} {b : Timebase} (h : IdleStart s b u) (hi : s.play.state = .idle)
    (hg : ∀ l : Lane, s.grants[l].heldByPlayback = false) :
    predictedZones (playBefore u) ((playBefore u).candidateMotion ((playBefore u).candidates (playBefore u).runCandidate)) =
      predictedZones s (s.candidateMotion (s.candidates s.runCandidate)) := by
  have idle : u.play.state = .idle := by rw [h.play, hi]
  obtain ⟨lanes, -, safety, -⟩ := idle_before idle
  have candidates : (playBefore u).candidates (playBefore u).runCandidate = s.candidates s.runCandidate :=
    candidates_congr (lanes.trans h.lanes) fun l =>
      (idle_runCandidate idle (by rw [h.grants]; exact hg l)).trans (runCandidate_of_eq h l)
  unfold predictedZones State.candidateMotion
  rw [candidates, lanes, h.lanes, safety, h.safety]

theorem mem_predictedZones {s : State} {m : Motion} {z : ZoneNo} {r : ZoneRecord} (hr : s.safety.zones[z].record = some r)
    (he : r.enabled = true) (hk : r.kind = .keepOut) (hx : s.safety.zones[z].exiting = false) (hp : zonePredicts m r = true) :
    z ∈ predictedZones s m := by
  unfold predictedZones
  rw [List.mem_filter]
  refine ⟨List.mem_finRange z, ?_⟩
  dsimp only
  rw [armedKeepOut_iff.2 ⟨r, hr, he, hk⟩, hx, hr]
  exact hp

theorem CauseHeld.stoppedTest {k : CauseKind} {s : State} (h : CauseHeld k s) : CauseHeld k (stoppedTest s) := by
  rcases stoppedTest_safety s with hs | ⟨-, hs⟩
  · exact h.of_eq hs
  · unfold CauseHeld State.hasCause
    rw [hs]
    exact ⟨fun w => (by cases w), h.2⟩

theorem stoppedTest_keeps (s : State) : (stoppedTest s).grants = s.grants ∧ (stoppedTest s).play = s.play := by
  by_cases h : s.safety.stop = .stopping ∧ s.atRest = true
  · exact (stoppedTest_rests h.1 h.2).2
  · rw [stoppedTest_moving]
    · exact ⟨rfl, rfl⟩
    · by_cases hs : s.safety.stop = .stopping
      · exact .inr (Bool.not_eq_true _ |>.mp fun hr => h ⟨hs, hr⟩)
      · exact .inl hs

/-- The step at which a zone predicts, with no playback. -/
theorem idle_step_predicted {s : State} {z : ZoneNo} (hi : s.play.state = .idle) (hs : s.safety.stop = .run)
    (hz : z ∈ predictedZones (playBefore s)
      ((playBefore s).candidateMotion ((playBefore s).candidates (playBefore s).runCandidate))) :
    CauseHeld (.zonePredicted z) (tickStep s) ∧ (tickStep s).grants = s.grants ∧ (tickStep s).play.state = .idle := by
  obtain ⟨-, grants, safety, -, -, -, state⟩ := idle_before hi
  have run : (playBefore s).safety.stop = .run := by rw [safety, hs]
  have mem : CauseKind.zonePredicted z ∈ (predictedZones (playBefore s) ((playBefore s).candidateMotion
      ((playBefore s).candidates (playBefore s).runCandidate))).map CauseKind.zonePredicted := List.mem_map_of_mem hz
  have frame := commitAll_frame ((playBefore s).candidates fun l => stopStep (playBefore s).lanes[l]) (playBefore s)
  have step := laneStep_predicted run (List.ne_nil_of_mem hz)
  obtain ⟨play, -, kept⟩ := causeEvents_in_run (s := commitAll ((playBefore s).candidates fun l => stopStep (playBefore s).lanes[l])
    (playBefore s)) (by rw [frame.safety]; exact run) (List.ne_nil_of_mem mem)
  have keptGrants := kept (by rw [frame.play]; exact state)
  obtain ⟨tg, tp⟩ := stoppedTest_keeps (laneStep (playBefore s))
  have held : CauseHeld (.zonePredicted z) (laneStep (playBefore s)) := by
    rw [step]
    exact ⟨causeEvents_leaves_run (List.ne_nil_of_mem mem) _, causeEvents_hasCause mem _⟩
  have idle : (stoppedTest (laneStep (playBefore s))).play.state = .idle := by rw [tp, step]; exact play
  rw [tickStep, playAfter_of_idle idle]
  refine ⟨held.stoppedTest, ?_, idle⟩
  rw [tg, step, keptGrants, frame.grants]
  exact grants

theorem exit_clears {e : ZoneEntry} {r : ZoneRecord} {m : Motion} (hr : e.record = some r) (he : r.enabled = true)
    (hk : r.kind = .keepOut) (hx : e.exiting = true) (hb : zoneContains m r = false) :
    ((evalZone m e).exiting && (evalZone m e).armedKeepOut && !(evalZone m e).breached) = true := by
  have armed : (evalZone m e).armedKeepOut = true := armedKeepOut_iff.2 ⟨r, (evalZone_keeps m e).1.trans hr, he, hk⟩
  rw [armed, evalZone_enabled hr he, hx, hb]
  rfl

/-- Settles O36: a zone that predicts, by the step that is committed instead; the zones' results, by the evaluation that ends
every tick. -/
theorem keepOutPredictionStops : Obligations.KeepOutPredictionStops := by
  refine ⟨fun c b z r s hc hs hi hn hg hr he hk hx hp => ?_, fun c b s hc => ?_⟩
  · obtain ⟨u, run, start⟩ := issuesTick hc
    have same := start.idleStart hi
    have calm : NoDriveFails u := noDriveFails_congr same.lanes same.drives hn
    have idle : u.play.state = .idle := by rw [same.play, hi]
    have work := endWork_settle (tickWork u)
    have predicted : z ∈ predictedZones (playBefore u)
        ((playBefore u).candidateMotion ((playBefore u).candidates (playBefore u).runCandidate)) := by
      rw [idle_predicted same hi hg]
      exact mem_predictedZones hr he hk hx hp
    have moving : u.safety.stop = .run := by rw [same.safety, hs]
    obtain ⟨held, grants, play⟩ := idle_step_predicted idle moving predicted
    obtain ⟨tgrants, tplay, -⟩ := tickWork_stopped calm held.1
    have tickHeld : CauseHeld (.zonePredicted z) (tickWork u) := by
      rw [tickWork_eq]
      exact (held.of_eq (calm_exchanged calm).1).evaluateZones
    refine ⟨_, run, settled_tick_tb start, ?_, ?_, ?_, ?_, fun l hl ha => ?_⟩
    · rw [work.safety]; exact tickHeld.1
    · rw [State.hasCause, work.safety]; exact tickHeld.2
    · rw [work.grants, tgrants, grants, same.grants]
    · rw [work.play, tplay, play]
    · rw [← same.lanes] at hl ha ⊢
      rw [work.lanes]
      exact (tickWork_stops calm idle (.inr ⟨moving, List.ne_nil_of_mem predicted⟩) hl).1 ha
  · obtain ⟨u, run, start⟩ := issuesTick hc
    have work := endWork_settle (tickWork u)
    refine ⟨_, run, settled_tick_tb start, fun z => ?_⟩
    have motion : (settle (tickWork u)).motion = (exchanged u).motion := by
      rw [State.motion, State.motion, work.lanes, tickWork_eq, evaluateZones_lanes]
    have before : (exchanged u).safety.zones[z] = s.safety.zones[z] := by rw [exchanged_zones, start.safety]
    have after : (settle (tickWork u)).safety.zones[z] =
        exitCleared (evalZone (settle (tickWork u)).motion s.safety.zones[z]) := by
      rw [motion, work.safety, tickWork_eq, evaluateZones_zones, State.zonesAfter, mapAll_get, before]
    refine ⟨?_, fun hr => ?_, fun r hr => ⟨fun he => ?_, fun he => ?_, fun he hk hx hb => ?_, fun he hk hx hb p hp => ?_⟩⟩
    · rw [after, exitCleared_record, (evalZone_keeps _ _).1]
    · rw [after, evaluated_disabled fun r w => by rw [hr] at w; cases w]
    · rw [after, evaluated_disabled fun r' w => by rw [hr] at w; cases w; exact he]
    · rw [after, evaluated_enabled hr he]
    · have mem : CauseKind.zoneBreached z ∈ (exchanged u).breaches := by
        rw [mem_breaches, before, ← motion]
        exact ⟨r, hr, he, hk, hx, hb⟩
      have held : CauseHeld (.zoneBreached z) (tickWork u) := by
        rw [tickWork_eq, evaluateZones_eq]
        exact ⟨causeEvents_leaves_run (List.ne_nil_of_mem mem) _, causeEvents_hasCause mem _⟩
      exact ⟨(held.of_eq work.safety).2, (held.of_eq work.safety).1⟩
    · have links : u.ports[p].link = .active := (start.frame.port p).link.trans hp
      have clear : ((zonesJudged (exchanged u)).safety.zones[z].exiting && (zonesJudged (exchanged u)).safety.zones[z].armedKeepOut &&
          !(zonesJudged (exchanged u)).safety.zones[z].breached) = true := by
        rw [zonesJudged_zone, before, ← motion]
        exact exit_clears hr he hk hx hb
      have told := noted_clearExits (s := zonesJudged (exchanged u)) (exchanged_active links) clear
      have clock : (zonesJudged (exchanged u)).tb = b := by
        change (exchanged u).tb = b
        rw [exchanged_tb, start.frame.tb]
        rfl
      rw [clock] at told
      have noted := noted_settle ((keepsStops_noted _ p).causeEvents (exchanged u).breaches (s := zonesEvaluated (exchanged u)) told)
      rw [← evaluateZones_eq, ← tickWork_eq] at noted
      exact noted.imp_left fun hm => ⟨_, hm, rfl⟩

end Sys2Proof.Machine
end

section
/-! PROOFS. Ticks in RUN: the stall rules, the tests after the step, and what the tick commits (O34). -/

namespace Sys2Proof.Machine

open Sys2Proof

/-! ### Stalls (R126) -/

/-- The playback's record of a stalled step. -/
def State.stalledPlay (s : State) : Playback :=
  { s.play with
    spoiled := true
    stallDemands := some (match s.play.stallDemands with
      | some d => d
      | none => Vector.ofFn fun l =>
        if s.participates l then (s.play.posAt (s.play.k.getD 0) l).orElse fun _ => s.play.lastDemand[l] else none)
    stallCount := if s.tb.t = 0 then min 9 (s.play.stallCount + 1) else s.play.stallCount }

/-- The playback's record of a step that is not stalled. -/
def Playback.supplied (u : Playback) : Playback := { u with stallDemands := none, stallCount := 0, marksDue := false }

section Stall

variable {s : State}

theorem stallStep_still (h : s.play.state ≠ .rolling) : stallStep s = s := if_pos h

theorem stallStep_lacking (h : s.play.state = .rolling) (hl : s.play.lacks (s.play.k.getD 0) = true) :
    stallStep s = s.setPlay s.stalledPlay := by
  unfold stallStep
  dsimp only
  rw [if_neg (not_not_intro h), if_pos hl]
  unfold State.stalledPlay
  cases s.play.stallDemands <;> rfl

theorem stallStep_supplied (h : s.play.state = .rolling) (hl : s.play.lacks (s.play.k.getD 0) = false) : stallStep s =
    if s.play.marksDue then actMarks (s.play.k.getD 0) (s.setPlay s.play.supplied) else s.setPlay s.play.supplied := by
  unfold stallStep
  dsimp only
  rw [if_neg (not_not_intro h), if_neg (by rw [hl]; decide)]
  rfl

/-- A step that is not stalled and whose marks begin no segment. -/
theorem stallStep_plays (h : s.play.state = .rolling) (hl : s.play.lacks (s.play.k.getD 0) = false)
    (hd : s.play.marksDue = false ∨ s.play.defersAt (s.play.k.getD 0) = false) :
    (stallStep s).play = s.play.supplied := by
  rw [stallStep_supplied h hl]
  split
  · next hm =>
    have plain : s.play.defersAt (s.play.k.getD 0) = false := hd.resolve_left (by rw [hm]; decide)
    exact (actMarks_plain (s := s.setPlay s.play.supplied) plain).play
  · rfl

theorem defersAt_some {u : Playback} {k : Nat} (h : u.defersAt k = true) :
    ∃ x, u.sample k = some x ∧ x.marks.defer = true ∧ k + 1 ≠ u.len := by
  unfold Playback.defersAt at h
  split at h
  · next x hx =>
    rw [Bool.and_eq_true, decide_eq_true_eq] at h
    exact ⟨x, hx, h.1, h.2⟩
  · cases h

/-- A step whose marks had waited for the end of a stall begins their segment. -/
theorem stallStep_defers (h : s.play.state = .rolling) (hl : s.play.lacks (s.play.k.getD 0) = false)
    (hm : s.play.marksDue = true) (hd : s.play.defersAt (s.play.k.getD 0) = true) :
    (stallStep s).play = (s.setPlay s.play.supplied).segmentAt (s.play.k.getD 0) := by
  obtain ⟨x, hx, hdefer, hk⟩ := defersAt_some hd
  rw [stallStep_supplied h hl, if_pos hm]
  exact (actMarks_defers (s := s.setPlay s.play.supplied) hx hdefer hk).1

end Stall

theorem playBefore_play (s : State) :
    (playBefore s).play = { (stallStep s).play with lastDemand := playSupply (stallStep s) } := rfl

/-! ### The tests after the step (R119, R122, R125) -/

theorem trackingTest_play (s : State) : (trackingTest s).play =
    if (strayLane s).isSome then { s.play with spoiled := true, slipReported := true } else s.play := by
  unfold trackingTest
  cases h : strayLane s with
  | none => rfl
  | some l =>
    dsimp only
    split <;> rfl

theorem playAfter_grants (s : State) : (playAfter s).grants = s.grants := by
  unfold playAfter
  split
  · unfold trackingTest
    split
    · rfl
    · dsimp only
      split <;> rfl
  · unfold readyTest
    split <;> rfl
  · rfl

theorem playAfter_rolling {s : State} (h : s.play.state = .rolling) : playAfter s = trackingTest s := by
  rw [playAfter, h]

theorem playAfter_cueing {s : State} (h : s.play.state = .cueing) : playAfter s = readyTest s := by
  rw [playAfter, h]

theorem playAfter_deferred {s : State} (h : s.play.state = .deferred) : playAfter s = s := by
  rw [playAfter, h]

theorem strayLane_iff (s : State) : (strayLane s).isSome = true ↔ ∃ l : Lane, s.participates l = true ∧
    s.lanes[l].condition = .active ∧ (s.lanes[l].trackTol < (s.lanes[l].t - s.lanes[l].p).natAbs ∨
      ∃ d, s.play.lastDemand[l] = some d ∧ (d < s.lanes[l].softMin ∨ s.lanes[l].softMax < d)) := by
  have beyond : ∀ l : Lane, s.demandBeyond l = true ↔
      ∃ d, s.play.lastDemand[l] = some d ∧ (d < s.lanes[l].softMin ∨ s.lanes[l].softMax < d) := fun l => by
    unfold State.demandBeyond
    cases s.play.lastDemand[l] with
    | none => simp
    | some d => simp [-Fin.getElem_fin]
  unfold strayLane
  rw [List.find?_isSome]
  simp only [Bool.and_eq_true, Bool.or_eq_true, decide_eq_true_eq, beyond, and_assoc]
  exact ⟨fun ⟨l, _, h⟩ => ⟨l, h⟩, fun ⟨l, h⟩ => ⟨l, List.mem_finRange l, h⟩⟩

theorem readyTest_state {s : State} (h : s.play.state = .cueing) : (readyTest s).play.state =
    if readyCondition s then .ready else .cueing := by
  unfold readyTest
  split
  · rfl
  · exact h

theorem nearSample_iff (s : State) (j : Nat) : s.nearSample j = true ↔ ∀ l : Lane, s.participates l = true →
    ∃ a, s.play.posAt j l = some a ∧ (s.lanes[l].p - a).natAbs ≤ s.lanes[l].trackTol := by
  unfold State.nearSample
  rw [List.all_eq_true]
  refine ⟨fun h l hl => ?_, fun h l _ => ?_⟩
  · have near := h l (List.mem_finRange l)
    rw [hl, Bool.not_true, Bool.false_or] at near
    split at near
    · next a ha => exact ⟨a, ha, of_decide_eq_true near⟩
    · cases near
  · cases hl : s.participates l with
    | false => rfl
    | true =>
      obtain ⟨a, ha, near⟩ := h l hl
      rw [ha]
      exact decide_eq_true near

theorem readyCondition_iff (s : State) : readyCondition s = true ↔
    (∀ l : Lane, s.participates l = true → s.lanes[l].v = 0 ∧
      ∃ a, s.play.posAt 0 l = some a ∧ (s.lanes[l].p - a).natAbs ≤ s.lanes[l].trackTol) ∧
    (4 ≤ s.play.buffer.length ∨ (s.play.len < 4 ∧ s.play.buffer.length = s.play.len)) := by
  have rests : (allLanes.all fun l => !s.participates l || s.lanes[l].v = 0) = true ↔
      ∀ l : Lane, s.participates l = true → s.lanes[l].v = 0 := by
    rw [List.all_eq_true]
    refine ⟨fun h l hl => ?_, fun h l _ => ?_⟩
    · have := h l (List.mem_finRange l)
      rw [hl] at this
      simpa [-Fin.getElem_fin] using this
    · cases hl : s.participates l with
      | false => rfl
      | true => exact decide_eq_true (h l hl)
  unfold readyCondition
  rw [Bool.and_eq_true, Bool.and_eq_true, rests, nearSample_iff, Bool.or_eq_true, Bool.and_eq_true, decide_eq_true_eq,
    decide_eq_true_eq, decide_eq_true_eq]
  exact and_congr_left fun _ => ⟨fun h l hl => ⟨h.2 l hl, h.1 l hl⟩, fun h => ⟨fun l hl => (h l hl).2, fun l hl => (h l hl).1⟩⟩

/-! ### A tick in RUN with no zone in the table -/

/-- The grants once the step's excess has been given back. -/
def State.givenBack (s : State) (cs : Vector Candidate 12) (l : Lane) : Grant :=
  if s.lanes[l].stepped then writeBack cs[l].excess s.grants[l] else s.grants[l]

/-- What a tick in RUN leaves, with no drive failing and no zone in the table. -/
theorem run_tick {s : State} (hr : s.safety.stop = .run) (hn : NoDriveFails s) (hz : ∀ z : ZoneNo, s.safety.zones[z].record = none) :
    let v := playBefore s
    let cs := v.candidates v.runCandidate
    (∃ zs, (tickWork s).safety = { s.safety with zones := zs }) ∧
      (tickStep s).safety = s.safety ∧
      (∀ l : Lane, (tickWork s).grants[l] = v.givenBack cs l) ∧
      (tickWork s).play = (playAfter (laneStep v)).play ∧
      (laneStep v).play = v.play ∧
      ∀ l : Lane, (tickWork s).lanes[l] = commitLane (v.effScale l) cs[l] s.lanes[l] := by
  dsimp only
  have before := playBefore_frame s
  have calm : NoDriveFails (playBefore s) := noDriveFails_congr before.frame.lanes before.drives hn
  have run : (playBefore s).safety.stop = .run := by rw [before.safety, hr]
  have predicts : predictedZones (playBefore s) ((playBefore s).candidateMotion
      ((playBefore s).candidates (playBefore s).runCandidate)) = [] := by
    unfold predictedZones
    rw [List.filter_eq_nil_iff]
    intro z _
    dsimp only
    rw [before.safety, hz z]
    simp
  have step := laneStep_runs run predicts
  have stepSafety : (laneStep (playBefore s)).safety = s.safety := step.safety.trans before.safety
  have still : stoppedTest (laneStep (playBefore s)) = laneStep (playBefore s) := by
    refine stoppedTest_moving (.inl ?_)
    rw [stepSafety, hr]
    decide
  have tick : tickStep s = playAfter (laneStep (playBefore s)) := congrArg playAfter still
  have tickSafety : (tickStep s).safety = s.safety := by rw [tick, (playAfter_frame _).safety, stepSafety]
  obtain ⟨safety, grants, play⟩ := calm_exchanged hn
  have zones := evaluateZones_none (s := exchanged s) (by rw [safety, tickSafety]; exact hz)
  have lanes : ∀ l : Lane, (tickWork s).lanes[l] = commitLane ((playBefore s).effScale l)
      ((playBefore s).candidates (playBefore s).runCandidate)[l] s.lanes[l] := fun l => by
    rw [tickWork_lanes, laneStep_lanes_run run predicts, commitLanes_calm calm, before.frame.lanes]
  refine ⟨⟨(exchanged s).zonesAfter, ?_⟩, tickSafety, fun l => ?_, ?_, step.play, lanes⟩
  · rw [tickWork_eq, zones.safety, State.setSafety_safety, safety, tickSafety]
  · rw [tickWork_eq, zones.grants]
    change (exchanged s).grants[l] = _
    have stepped : (commitLanes ((playBefore s).candidates (playBefore s).runCandidate) (playBefore s)).lanes[l].stepped =
        (playBefore s).lanes[l].stepped := by
      obtain ⟨hp, hc, -⟩ := commitLane_keeps ((playBefore s).effScale l)
        ((playBefore s).candidates (playBefore s).runCandidate)[l] (playBefore s).lanes[l]
      rw [commitLanes_calm calm, LaneRec.stepped, LaneRec.stepped, hp, hc]
    rw [grants, tick, playAfter_grants, step.grants, writeBackAll, State.setGrants_grants, mapAll_get, stepped]
    rfl
  · rw [tickWork_eq, zones.play, State.setSafety_play, play, tick]

end Sys2Proof.Machine
end

section
/-! PROOFS. Settling the tick in RUN (O34): what stations and the playback have their lanes do, and how a pass goes on. -/

namespace Sys2Proof.Machine

open Sys2Proof

/-! ### A pass at a tick -/

section Pass

variable {s : State} (hr : s.safety.stop = .run) (hn : NoDriveFails s) (hz : ∀ z : ZoneNo, s.safety.zones[z].record = none)

include hr hn hz

theorem tick_rolls (h : (stallStep s).play.state = .rolling) : (tickWork s).play =
    if (strayLane (laneStep (playBefore s))).isSome then
      { (playBefore s).play with spoiled := true, slipReported := true }
    else (playBefore s).play := by
  obtain ⟨-, -, -, play, kept, -⟩ := run_tick hr hn hz
  rw [play, playAfter_rolling (by rw [kept]; exact h), trackingTest_play, kept]

theorem tick_defers (h : (stallStep s).play.state = .deferred) : (tickWork s).play = (playBefore s).play := by
  obtain ⟨-, -, -, play, kept, -⟩ := run_tick hr hn hz
  rw [play, playAfter_deferred (by rw [kept]; exact h), kept]

/-- R126: a stalled step spoils the pass, which goes on rolling. -/
theorem tick_lacking (h : s.play.state = .rolling) (hl : s.play.lacks (s.play.k.getD 0) = true) :
    (tickWork s).play.state = .rolling ∧ (tickWork s).play.k = s.play.k ∧ (tickWork s).play.spoiled = true ∧
      (tickWork s).play.stallCount = s.stalledPlay.stallCount ∧
      (tickWork s).play.stallDemands = s.stalledPlay.stallDemands := by
  have stalled := stallStep_lacking h hl
  have play : (playBefore s).play = { s.stalledPlay with lastDemand := playSupply (s.setPlay s.stalledPlay) } := by
    rw [playBefore_play, stalled]
    rfl
  rw [tick_rolls hr hn hz (by rw [stalled]; exact h), play]
  split <;> exact ⟨h, rfl, rfl, rfl, rfl⟩

/-- R126: the first step that is not stalled ends the stall. -/
theorem tick_supplied (h : s.play.state = .rolling) (hl : s.play.lacks (s.play.k.getD 0) = false) :
    (tickWork s).play.stallCount = 0 ∧ (tickWork s).play.stallDemands = none ∧ (tickWork s).play.marksDue = false ∧
      (tickWork s).play.k = s.play.k ∧
      (s.play.marksDue = true → s.play.defersAt (s.play.k.getD 0) = true →
        (tickWork s).play.state = .deferred ∧ (tickWork s).play.deferIndex = some (s.play.k.getD 0)) ∧
      (s.play.marksDue = false ∨ s.play.defersAt (s.play.k.getD 0) = false → (tickWork s).play.state = .rolling) := by
  by_cases hd : s.play.marksDue = true ∧ s.play.defersAt (s.play.k.getD 0) = true
  · have segment := stallStep_defers h hl hd.1 hd.2
    have play := tick_defers hr hn hz (by rw [segment]; rfl)
    rw [playBefore_play, segment] at play
    rw [play]
    refine ⟨rfl, rfl, rfl, rfl, fun _ _ => ⟨rfl, rfl⟩, fun w => ?_⟩
    rw [hd.1, hd.2] at w
    exact absurd w (by simp)
  · have calm : s.play.marksDue = false ∨ s.play.defersAt (s.play.k.getD 0) = false := by
      cases hm : s.play.marksDue with
      | false => exact .inl rfl
      | true => exact .inr (Bool.not_eq_true _ |>.mp fun w => hd ⟨hm, w⟩)
    have plays := stallStep_plays h hl calm
    rw [tick_rolls hr hn hz (by rw [plays]; exact h), playBefore_play, plays]
    have rolls : s.play.supplied.state = .rolling := h
    refine ⟨?_, ?_, ?_, ?_, fun w1 w2 => absurd ⟨w1, w2⟩ hd, fun _ => ?_⟩ <;> split <;> first | rfl | exact rolls

end Pass

/-- The demands a stall holds fixed (R126). -/
theorem stalled_demands (s : State) {k : Nat} (hk : s.play.k.getD 0 = k) : ∃ d, s.stalledPlay.stallDemands = some d ∧
    (∀ e, s.play.stallDemands = some e → d = e) ∧ (s.play.stallDemands = none → ∀ l : Lane, s.participates l = true →
      (∀ a, s.play.posAt k l = some a → d[l] = some a) ∧ (s.play.posAt k l = none → d[l] = s.play.lastDemand[l])) := by
  subst hk
  unfold State.stalledPlay
  refine ⟨_, rfl, fun e he => by rw [he], fun hn l hl => ?_⟩
  rw [hn]
  dsimp only
  rw [Fin.getElem_fin, Vector.getElem_ofFn, if_pos (show s.participates ⟨l.val, l.isLt⟩ = true from hl)]
  exact ⟨fun a ha => by rw [show s.play.posAt (s.play.k.getD 0) ⟨l.val, l.isLt⟩ = some a from ha]; rfl,
    fun ha => by rw [show s.play.posAt (s.play.k.getD 0) ⟨l.val, l.isLt⟩ = none from ha]; rfl⟩

/-! ### What the lanes commit -/

theorem writeBack_step {g : Grant} {h : Hold} {d : Int} (hh : g.holder = some h) (hk : h.ctx.kind = .step)
    (hd : h.ctx.d = some d) (cut : Int) :
    writeBack cut g = { g with holder := some { h with ctx := { h.ctx with d := some (d - cut) } } } := by
  by_cases hc : cut = 0
  · have same : { h with ctx := { h.ctx with d := some d } } = h := by rw [← hd]
    simp [writeBack, hh, hc, same]
  · simp [writeBack, hh, hk, hd, hc]

theorem writeBack_other {g : Grant} (h : ∀ x, g.holder = some x → x.ctx.kind ≠ .step ∨ x.ctx.d = none) (cut : Int) :
    writeBack cut g = g := by
  unfold writeBack
  cases hh : g.holder with
  | none =>
    rw [Option.map_none, ← hh]
  | some x =>
    have keep : (decide (x.ctx.kind = .step) && x.ctx.d.isSome && decide (cut ≠ 0)) = false := by
      rcases h x hh with hk | hk <;> simp [hk]
    rw [Option.map_some, if_neg (by rw [keep]; decide), ← hh]

theorem stepped_iff (x : LaneRec) : x.stepped = true ↔ x.present = true ∧ x.condition = .active := by
  rw [LaneRec.stepped, Bool.and_eq_true, decide_eq_true_eq]

theorem givenBack_rest {s : State} {l : Lane} (h : s.lanes[l].condition ≠ .active) (cs : Vector Candidate 12) :
    s.givenBack cs l = s.grants[l] := if_neg fun w => h ((stepped_iff _).1 w).2

theorem givenBack_stepped {s : State} {l : Lane} (hp : s.lanes[l].present = true) (ha : s.lanes[l].condition = .active)
    (f : Lane → Candidate) : s.givenBack (s.candidates f) l = writeBack (f l).excess s.grants[l] := by
  rw [State.givenBack, if_pos ((stepped_iff _).2 ⟨hp, ha⟩), candidates_stepped hp ha]

theorem runCandidate_held {s : State} {l : Lane} {h : Hold} (hh : s.grants[l].holder = some h) :
    s.runCandidate l = heldStep s.lanes[l] (s.heldTarget l h) (gainOf s.lanes[l] h) (s.effScale l) := by
  rw [State.runCandidate, hh]

theorem runCandidate_free {s : State} {l : Lane} (hh : s.grants[l].holder = none) : s.runCandidate l = holdStep s.lanes[l] := by
  rw [State.runCandidate, hh]

/-! ### A tick in RUN with no playback -/

theorem heldByPlayback_station {g : Grant} {h : Hold} {q : Port} (hh : g.holder = some h) (hw : h.who = .station q) :
    g.heldByPlayback = false := by
  rw [Grant.heldByPlayback, hh]
  exact decide_eq_false (by rw [hw]; exact fun w => by cases w)

theorem heldByPlayback_free {g : Grant} (hh : g.holder = none) : g.heldByPlayback = false := by
  rw [Grant.heldByPlayback, hh]

section Stations

variable {s u : State} {b : Timebase} {l : Lane} (same : IdleStart s b u) (hi : s.play.state = .idle)

include same hi

/-- The candidate of a lane that no playback holds, as the tick computes it. -/
theorem station_candidate (hp : s.lanes[l].present = true) (ha : s.lanes[l].condition = .active)
    (hg : s.grants[l].heldByPlayback = false) :
    ((playBefore u).candidates (playBefore u).runCandidate)[l] = s.runCandidate l := by
  have idle : u.play.state = .idle := by rw [same.play, hi]
  have lanes : (playBefore u).lanes = s.lanes := (idle_before idle).1.trans same.lanes
  rw [candidates_stepped (by rw [lanes, hp]) (by rw [lanes, ha]),
    idle_runCandidate idle (by rw [same.grants]; exact hg), runCandidate_of_eq same]

/-- What a lane that no playback holds gives back. -/
theorem station_givenBack (hp : s.lanes[l].present = true) (ha : s.lanes[l].condition = .active)
    (hg : s.grants[l].heldByPlayback = false) :
    (playBefore u).givenBack ((playBefore u).candidates (playBefore u).runCandidate) l =
      writeBack (s.runCandidate l).excess s.grants[l] := by
  have idle : u.play.state = .idle := by rw [same.play, hi]
  have lanes : (playBefore u).lanes = s.lanes := (idle_before idle).1.trans same.lanes
  have grants : (playBefore u).grants = s.grants := (idle_before idle).2.1.trans same.grants
  rw [State.givenBack, if_pos ((stepped_iff _).2 (by rw [lanes]; exact ⟨hp, ha⟩)), station_candidate same hi hp ha hg, grants]

end Stations

/-! ### A lane that a playback holds -/

/-- R6, R119: the committed step of a lane that a playback holds follows the demand supplied. -/
theorem playback_step {s : State} {l : Lane} {h : Hold} (hp : s.lanes[l].present = true) (ha : s.lanes[l].condition = .active)
    (hh : (playBefore s).grants[l].holder = some h) (hw : h.who = .playback) :
    ((playBefore s).candidates (playBefore s).runCandidate)[l] =
      heldStep s.lanes[l] ((playSupply (stallStep s))[l].getD h.setpoint) 65536 ((playBefore s).effScale l) := by
  have lanes : (playBefore s).lanes = s.lanes := (playBefore_frame s).frame.lanes
  rw [candidates_stepped (by rw [lanes, hp]) (by rw [lanes, ha]), runCandidate_held hh, lanes]
  have gain : gainOf s.lanes[l] h = 65536 := by rw [gainOf, hw]
  have target : (playBefore s).heldTarget l h = (playSupply (stallStep s))[l].getD h.setpoint := by
    rw [State.heldTarget, hw]
    rfl
  rw [gain, target]

/-! ### The statement's four parts -/

/-- The first part of O34, about one command that issues a tick with no playback. -/
theorem tickInRun_idle {c : Instr} {b : Timebase} {s : State} (hc : IssuesTick c b s) (hs : s.safety.stop = .run)
    (hi : s.play.state = .idle) (hn : NoDriveFails s) (hz : ∀ z : ZoneNo, s.safety.zones[z].record = none) :
    ∃ t, exec c s = .next t ∧ t.tb = b ∧ (∃ zs, t.safety = { s.safety with zones := zs }) ∧
      (∀ l : Lane, s.lanes[l].present = false → t.lanes[l] = s.lanes[l]) ∧
      (∀ l : Lane, s.lanes[l].present = true → s.lanes[l].condition ≠ .active →
        t.lanes[l] = { s.lanes[l] with v := 0, sEff := s.effScale l, limitClip := false, capped := false } ∧
          t.grants[l] = s.grants[l]) ∧
      (∀ l : Lane, s.lanes[l].present = true → s.lanes[l].condition = .active → s.grants[l].heldByPlayback = false →
        t.lanes[l] = commitLane (s.effScale l) (s.runCandidate l) s.lanes[l] ∧
          t.grants[l] = writeBack (s.runCandidate l).excess s.grants[l]) ∧
      (∀ l : Lane, s.lanes[l].present = true → t.drives.channels[l].exchange = some
        { f := b.f, t := b.t, sent :=
          if s.safety.drivePower = true ∧ s.lanes[l].condition = .active then some (Int.fdiv t.lanes[l].p 256)
          else none } ∧
        (s.drives.channels[l].exchange.isSome = true → t.drives.channels[l].status = .missing ∧
          t.drives.channels[l].missing = min 2 (s.drives.channels[l].missing + 1)) ∧
        (s.drives.channels[l].exchange = none → t.drives.channels[l].status = s.drives.channels[l].status ∧
          t.drives.channels[l].missing = s.drives.channels[l].missing)) := by
  obtain ⟨u, run, start⟩ := issuesTick hc
  have same := start.idleStart hi
  have calm : NoDriveFails u := noDriveFails_congr same.lanes same.drives hn
  have idle : u.play.state = .idle := by rw [same.play, hi]
  have work := endWork_settle (tickWork u)
  obtain ⟨⟨zs, safety⟩, stepSafety, grants, -, -, lanes⟩ := run_tick (s := u) (by rw [same.safety, hs]) calm (by rw [same.safety]; exact hz)
  have laneEq : (playBefore u).lanes = s.lanes := (idle_before idle).1.trans same.lanes
  have grantEq : (playBefore u).grants = s.grants := (idle_before idle).2.1.trans same.grants
  refine ⟨_, run, settled_tick_tb start, ⟨zs, by rw [work.safety, safety, same.safety]⟩, fun l hp => ?_, fun l hp ha => ⟨?_, ?_⟩,
    fun l hp ha hg => ⟨?_, ?_⟩, fun l hp => ⟨?_, fun he => ?_, fun he => ?_⟩⟩
  · rw [work.lanes, lanes, same.lanes, commitLane_absent hp]
  · rw [work.lanes, lanes, same.lanes, commitLane_inactive hp ha, same.effScale hi]
  · rw [work.grants, grants, givenBack_rest (by rw [laneEq]; exact ha), grantEq]
  · rw [work.lanes, lanes, station_candidate same hi hp ha hg, same.effScale hi, same.lanes]
  · rw [work.grants, grants, station_givenBack same hi hp ha hg]
  · rw [work.lanes, work.drives, calm_sent calm (by rw [same.lanes, hp]), stepSafety, same.safety, same.lanes, same.tb]
  · rw [work.drives, ← same.drives]
    exact tickWork_missed (by rw [State.exchangeOpen, same.lanes, same.drives, hp, he]; rfl)
  · rw [work.drives, ← same.drives]
    exact tickWork_unmissed (by rw [same.drives, he])

theorem capped_hold (n : Nat) : cappedFlag n false = decide (n < 65536) := Bool.or_false _

end Sys2Proof.Machine
end

section
/-! PROOFS. The tick in RUN settled (O34). -/

namespace Sys2Proof.Machine

open Sys2Proof

/-- What the beginning of a tick leaves the tick itself in RUN. -/
theorem TickStart.ready {s u : State} {b : Timebase} (h : TickStart s b u) (hs : s.safety.stop = .run) (hn : NoDriveFails s)
    (hz : ∀ z : ZoneNo, s.safety.zones[z].record = none) :
    u.safety.stop = .run ∧ NoDriveFails u ∧ ∀ z : ZoneNo, u.safety.zones[z].record = none :=
  ⟨by rw [h.safety, hs], noDriveFails_congr h.frame.lanes h.drives hn, by rw [h.safety]; exact hz⟩

/-! ### A frame start that finds the unit rolling or armed -/

/-- The frame of the roll and the samples it finds, before the tick. -/
theorem frameStart_plays {s : State} {first : Nat} (hg : (applySettings s.tb).gaveUp = false)
    (hr : Rolls (playbackStart s.tb.ownTime s) first) (hk : (s.tb.opened s.tb.ownTime).f - first < s.play.len) :
    let u := openWork s.tb.ownTime s
    let k := (s.tb.opened s.tb.ownTime).f - first
    (s.play.lacks k = true → s.play.defersAt k = false → s.play.stallCount < 8 →
      u.play = (s.setTb (s.tb.opened s.tb.ownTime)).rollingAt first (s.play.sample k).isNone) ∧
    (s.play.lacks k = false → s.play.defersAt k = false →
      u.play = (s.setTb (s.tb.opened s.tb.ownTime)).rollingAt first (s.play.sample k).isNone) ∧
    (s.play.defersAt k = true → u.play.state = .deferred ∧ u.play.k = some k ∧ u.play.stallCount = 0 ∧
      u.play.stallDemands = none) := by
  dsimp only
  obtain ⟨htb, -, -, hplay, -⟩ := playbackStart_frame s.tb.ownTime s
  have frame : (playbackStart s.tb.ownTime s).tb.f - first < (playbackStart s.tb.ownTime s).play.len := by rw [htb, hplay]; exact hk
  rw [openWork_going hg]
  change (_ → _ → _ → (playbackFrame (playbackStart s.tb.ownTime s)).play = _) ∧
    (_ → _ → (playbackFrame (playbackStart s.tb.ownTime s)).play = _) ∧ (_ → _)
  have plain : (s.play.stallCount ≠ 8 ∨ s.play.lacks ((s.tb.opened s.tb.ownTime).f - first) = false) →
      s.play.defersAt ((s.tb.opened s.tb.ownTime).f - first) = false → (playbackFrame (playbackStart s.tb.ownTime s)).play =
        (s.setTb (s.tb.opened s.tb.ownTime)).rollingAt first (s.play.sample ((s.tb.opened s.tb.ownTime).f - first)).isNone := by
    intro hc hd
    have whole := rolls_plain hr frame (by rw [htb, hplay]; exact hc) (by rw [htb, hplay]; exact hd)
    have marks := actMarks_plain (k := (playbackStart s.tb.ownTime s).tb.f - first)
      (s := (rollReported (playbackStart s.tb.ownTime s)).setPlay ((playbackStart s.tb.ownTime s).rollingAt first
        ((playbackStart s.tb.ownTime s).play.sample ((playbackStart s.tb.ownTime s).tb.f - first)).isNone))
      (by rw [State.setPlay_play, rollingAt_defersAt, htb, hplay]; exact hd)
    rw [whole, marks.play, State.setPlay_play, State.rollingAt, htb, hplay]
    rfl
  refine ⟨fun hl hd h8 => plain (.inl (by omega)) hd, fun hl hd => plain (.inr hl) hd, fun hd => ?_⟩
  obtain ⟨x, hx, hdefer, hlast⟩ := defersAt_some hd
  obtain ⟨hp, -⟩ := rolls_defers (x := x) hr (by rw [htb, hplay]; omega) (by rw [htb, hplay]; exact hx) hdefer
  change (playbackFrame (playbackStart s.tb.ownTime s)).play.state = _ ∧
    (playbackFrame (playbackStart s.tb.ownTime s)).play.k = _ ∧
    (playbackFrame (playbackStart s.tb.ownTime s)).play.stallCount = _ ∧
    (playbackFrame (playbackStart s.tb.ownTime s)).play.stallDemands = _
  rw [hp]
  refine ⟨rfl, ?_, rfl, rfl⟩
  change some ((playbackStart s.tb.ownTime s).tb.f - first) = _
  rw [htb]

theorem rollingAt_posAt (s : State) (first : Nat) (due : Bool) (l : Lane) :
    (s.rollingAt first due).posAt (s.tb.f - first) l = s.play.posAt (s.tb.f - first) l := by
  rw [Playback.posAt, Playback.posAt, rollingAt_sample]

/-- The third part of O34: the tick of a frame start that finds the unit rolling or rolls it. -/
theorem tickInRun_frame {b : Timebase} {first : Nat} {s : State} (hc : IssuesTick .frameStart b s)
    (hl : s.tb.lock = .flywheel → s.tb.flywheelCount ≠ 8) (hs : s.safety.stop = .run) (hn : NoDriveFails s)
    (hz : ∀ z : ZoneNo, s.safety.zones[z].record = none)
    (hr : (s.play.state = .rolling ∧ s.play.fRoll = some first) ∨
      (s.play.state = .rollArmed ∧ (∃ j, s.play.armed = some (b.f, j)) ∧ ¬ (b.mode = .referenced ∧ b.lock = .search) ∧
        s.play.fRoll.getD b.f = first)) (hk : b.f - first < s.play.len) :
    let k := b.f - first
    ∃ t, exec .frameStart s = .next t ∧ t.tb = b ∧
      (s.play.lacks k = true → s.play.defersAt k = false → s.play.stallCount < 8 →
        t.play.state = .rolling ∧ t.play.k = some k ∧ t.play.stallCount = s.play.stallCount + 1 ∧ t.play.spoiled = true ∧
          ∃ d, t.play.stallDemands = some d ∧ (∀ e, s.play.stallDemands = some e → d = e) ∧
            (s.play.stallDemands = none → ∀ l : Lane, s.participates l = true →
              (∀ a, s.play.posAt k l = some a → d[l] = some a) ∧
                (s.play.posAt k l = none → d[l] = s.play.lastDemand[l]))) ∧
      (s.play.lacks k = false ∨ s.play.defersAt k = true →
        t.play.stallCount = 0 ∧ t.play.stallDemands = none ∧ t.play.k = some k ∧
          t.play.state = if s.play.defersAt k = true then .deferred else .rolling) := by
  dsimp only
  rcases hc with ⟨w, -⟩ | ⟨-, hlock, hdone, hb⟩
  · cases w
  obtain rfl : b = s.tb.opened s.tb.ownTime := hb
  have start := openWork_tickStart s.tb.ownTime s
  obtain ⟨run, calm, noZones⟩ := start.ready hs hn hz
  obtain ⟨htb, -, -, hplay, -⟩ := playbackStart_frame s.tb.ownTime s
  have rolls : Rolls (playbackStart s.tb.ownTime s) first := by
    unfold Rolls
    rw [htb, hplay]
    rcases hr with hr | ⟨h1, h2, h3, h4⟩
    · exact .inr hr
    · exact .inl ⟨⟨h1, h2⟩, h3, h4⟩
  obtain ⟨stalled, supplied, defers⟩ := frameStart_plays (applySettings_going fun h h8 => absurd h8 (hl h)) rolls hk
  have work := endWork_settle (tickWork (openWork s.tb.ownTime s))
  have zero : (openWork s.tb.ownTime s).tb.t = 0 := by rw [start.frame.tb]; rfl
  refine ⟨settle (tickWork (openWork s.tb.ownTime s)),
    congrArg (fun t => Host.Outcome.next (settle t)) (frameStart_acts hlock ((frameDone_iff _).2 hdone)), settled_tick_tb start,
    fun hlack hd h8 => ?_, fun hor => ?_⟩
  · have play := stalled hlack hd h8
    have kEq : (openWork s.tb.ownTime s).play.k = some ((s.tb.opened s.tb.ownTime).f - first) := by
      rw [play]; rfl
    have lacks : (openWork s.tb.ownTime s).play.lacks ((openWork s.tb.ownTime s).play.k.getD 0) = true := by
      rw [kEq, Option.getD_some, play]
      exact (rollingAt_lacks (s.setTb (s.tb.opened s.tb.ownTime)) first _).trans hlack
    obtain ⟨h1, h2, h3, h4, h5⟩ := tick_lacking run calm noZones (by rw [play]; rfl) lacks
    obtain ⟨d, hd1, hd2, hd3⟩ := stalled_demands (openWork s.tb.ownTime s) (k := (s.tb.opened s.tb.ownTime).f - first)
      (by rw [kEq]; rfl)
    have count : (openWork s.tb.ownTime s).play.stallCount = s.play.stallCount := by
      rw [play]
      rfl
    have demands : (openWork s.tb.ownTime s).play.stallDemands = s.play.stallDemands := by
      rw [play]
      rfl
    have last : (openWork s.tb.ownTime s).play.lastDemand = s.play.lastDemand := by
      rw [play]
      rfl
    have part : ∀ l, (openWork s.tb.ownTime s).participates l = s.participates l := fun l => by
      rw [State.participates, play]
      rfl
    have pos : ∀ l, (openWork s.tb.ownTime s).play.posAt ((s.tb.opened s.tb.ownTime).f - first) l =
        s.play.posAt ((s.tb.opened s.tb.ownTime).f - first) l := fun l => by
      rw [play]
      exact rollingAt_posAt (s.setTb (s.tb.opened s.tb.ownTime)) first _ l
    rw [work.play]
    refine ⟨h1, h2.trans kEq, ?_, h3, d, h5.trans hd1, fun e he => hd2 e (demands.trans he), fun hnone l hp => ?_⟩
    · rw [h4, State.stalledPlay, zero, count]
      exact Nat.min_eq_right (by omega)
    · obtain ⟨p1, p2⟩ := hd3 (demands.trans hnone) l ((part l).trans hp)
      rw [pos, last] at p2
      exact ⟨fun a ha => p1 a ((pos l).trans ha), p2⟩
  · rw [work.play]
    cases hd : s.play.defersAt ((s.tb.opened s.tb.ownTime).f - first) with
    | true =>
      obtain ⟨d1, d2, d3, d4⟩ := defers hd
      have still := stallStep_still (s := openWork s.tb.ownTime s) (by rw [d1]; decide)
      rw [tick_defers run calm noZones (by rw [still]; exact d1), playBefore_play, still]
      exact ⟨d3, d4, d2, d1.trans (if_pos rfl).symm⟩
    | false =>
      have hlack := hor.resolve_right (by rw [hd]; decide)
      have play := supplied hlack hd
      have kEq : (openWork s.tb.ownTime s).play.k = some ((s.tb.opened s.tb.ownTime).f - first) := by
        rw [play]; rfl
      have lacks : (openWork s.tb.ownTime s).play.lacks ((openWork s.tb.ownTime s).play.k.getD 0) = false := by
        rw [kEq, Option.getD_some, play]
        exact (rollingAt_lacks (s.setTb (s.tb.opened s.tb.ownTime)) first _).trans hlack
      have noDefer : (openWork s.tb.ownTime s).play.defersAt ((openWork s.tb.ownTime s).play.k.getD 0) = false := by
        rw [kEq, Option.getD_some, play]
        exact (rollingAt_defersAt (s.setTb (s.tb.opened s.tb.ownTime)) first _).trans hd
      obtain ⟨h1, h2, -, h4, -, h6⟩ := tick_supplied run calm noZones (by rw [play]; rfl) lacks
      exact ⟨h1, h2, h4.trans kEq, (h6 (.inr noDefer)).trans (if_neg Bool.false_ne_true).symm⟩

/-! ### A tick after the frame's first, with a playback -/

theorem servoTick_issues {b : Timebase} {s : State} (hc : IssuesTick .servoTick b s) :
    exec .servoTick s = .next (settle (tickWork (s.setTb b))) ∧ b.t ≠ 0 := by
  rcases hc with ⟨-, hs, hn, rfl⟩ | ⟨w, -⟩
  · refine ⟨congrArg (fun t => Host.Outcome.next (settle t)) (servoTick_acts ?_), Nat.succ_ne_zero _⟩
    rw [frameDone_iff, hs]
    rintro (h | h)
    · cases h
    · omega
  · cases w

/-- The lanes after a tick in RUN keep the limits and tolerances they had. -/
theorem run_tick_laneStep {s : State} (hr : s.safety.stop = .run) (hn : NoDriveFails s)
    (hz : ∀ z : ZoneNo, s.safety.zones[z].record = none) (l : Lane) :
    (laneStep (playBefore s)).lanes[l] = (tickWork s).lanes[l] ∧ (tickWork s).lanes[l].softMin = s.lanes[l].softMin ∧
      (tickWork s).lanes[l].softMax = s.lanes[l].softMax := by
  obtain ⟨-, -, -, -, -, lanes⟩ := run_tick hr hn hz
  obtain ⟨-, -, hmin, hmax, -⟩ := commitLane_keeps ((playBefore s).effScale l)
    ((playBefore s).candidates (playBefore s).runCandidate)[l] s.lanes[l]
  refine ⟨by rw [tickWork_lanes], ?_, ?_⟩
  · rw [lanes, hmin]
  · rw [lanes, hmax]

/-- R119: CUEING and the READY condition at the tick. -/
theorem tick_cueing {s : State} (hr : s.safety.stop = .run) (hn : NoDriveFails s)
    (hz : ∀ z : ZoneNo, s.safety.zones[z].record = none) (h : s.play.state = .cueing) : (tickWork s).play.state =
      if readyCondition (laneStep (playBefore s)) then .ready else .cueing := by
  obtain ⟨-, -, -, play, kept, -⟩ := run_tick hr hn hz
  have still := stallStep_still (s := s) (by rw [h]; decide)
  have state : (laneStep (playBefore s)).play.state = .cueing := by
    rw [kept, playBefore_play, still]
    exact h
  rw [play, playAfter_cueing state, readyTest_state state]

/-- The unit rolls on through a step that leaves it rolling: the stall rules keep the pass and its reports. -/
theorem stallStep_rolling {s : State} (h : s.play.state = .rolling) :
    (stallStep s).play.participation = s.play.participation ∧
      ((stallStep s).play.state = .rolling → (stallStep s).play.slipReported = s.play.slipReported ∧
        (s.play.lacks (s.play.k.getD 0) = false → (stallStep s).play.spoiled = s.play.spoiled)) := by
  cases hl : s.play.lacks (s.play.k.getD 0) with
  | true =>
    rw [stallStep_lacking h hl]
    exact ⟨rfl, fun _ => ⟨rfl, fun w => (by cases w)⟩⟩
  | false =>
    by_cases hd : s.play.marksDue = true ∧ s.play.defersAt (s.play.k.getD 0) = true
    · rw [stallStep_defers h hl hd.1 hd.2]
      exact ⟨rfl, fun w => by cases w⟩
    · rw [stallStep_plays h hl (by
        cases hm : s.play.marksDue with
        | false => exact .inl rfl
        | true => exact .inr (Bool.not_eq_true _ |>.mp fun w => hd ⟨hm, w⟩))]
      exact ⟨rfl, fun _ => ⟨rfl, fun _ => rfl⟩⟩

section Tracks

variable {s : State} (hr : s.safety.stop = .run) (hn : NoDriveFails s) (hz : ∀ z : ZoneNo, s.safety.zones[z].record = none)

include hr hn hz

/-- Only a unit that rolls is left rolling by a tick. -/
theorem tick_rolling (h : (tickWork s).play.state = .rolling) : s.play.state = .rolling ∧ (stallStep s).play.state = .rolling := by
  obtain ⟨-, -, -, play, kept, -⟩ := run_tick hr hn hz
  have before : (laneStep (playBefore s)).play.state = (stallStep s).play.state := by rw [kept]; rfl
  have after : (stallStep s).play.state = .rolling := by
    by_contra hs
    have := h
    rw [play] at this
    unfold playAfter at this
    split at this
    · next hx => exact hs (before.symm.trans hx)
    · next hx =>
      rw [readyTest_state hx] at this
      split at this <;> cases this
    · rw [before] at this
      exact hs this
  refine ⟨?_, after⟩
  by_contra hs
  rw [stallStep_still hs] at after
  exact hs after

/-- R122, R125: whether a lane strays decides what a tick that leaves the unit rolling makes of the pass. -/
theorem tick_tracks (h : (tickWork s).play.state = .rolling) :
    let strays := ∃ l : Lane, s.participates l = true ∧ (tickWork s).lanes[l].condition = .active ∧
      ((tickWork s).lanes[l].trackTol < ((tickWork s).lanes[l].t - (tickWork s).lanes[l].p).natAbs ∨
        ∃ d, (playSupply (stallStep s))[l] = some d ∧ (d < s.lanes[l].softMin ∨ s.lanes[l].softMax < d))
    (strays → (tickWork s).play.spoiled = true ∧ (tickWork s).play.slipReported = true) ∧
      (¬ strays → (tickWork s).play.slipReported = s.play.slipReported ∧
        (s.play.lacks (s.play.k.getD 0) = false → (tickWork s).play.spoiled = s.play.spoiled)) := by
  obtain ⟨rolling, stays⟩ := tick_rolling hr hn hz h
  obtain ⟨part, kept⟩ := stallStep_rolling rolling
  obtain ⟨-, -, -, -, same, -⟩ := run_tick hr hn hz
  have play := tick_rolls hr hn hz stays
  have iff := strayLane_iff (laneStep (playBefore s))
  have participates : ∀ l, (laneStep (playBefore s)).participates l = s.participates l := fun l => by
    rw [State.participates, same, playBefore_play, State.participates, part]
  have last : (laneStep (playBefore s)).play.lastDemand = playSupply (stallStep s) := by rw [same, playBefore_play]
  simp only [participates, last, (run_tick_laneStep hr hn hz _).1, (run_tick_laneStep hr hn hz _).2.1,
    (run_tick_laneStep hr hn hz _).2.2] at iff
  refine ⟨fun hs => ?_, fun hs => ?_⟩
  · rw [play, if_pos (iff.2 hs)]
    exact ⟨rfl, rfl⟩
  · rw [play, if_neg (fun w => hs (iff.1 w))]
    exact kept stays

end Tracks

/-- The fourth part of O34: a tick after the frame's first, with a playback. -/
theorem tickInRun_servo {b : Timebase} {s : State} (hc : IssuesTick .servoTick b s) (hs : s.safety.stop = .run)
    (hn : NoDriveFails s) (hz : ∀ z : ZoneNo, s.safety.zones[z].record = none) :
    let u := playBefore (s.setTb b)
    let k := s.play.k.getD 0
    ∃ t, exec .servoTick s = .next t ∧ t.tb = b ∧ t.safety.stop = .run ∧ t.safety.causes = s.safety.causes ∧
      (∀ (l : Lane) (h : Hold), s.lanes[l].present = true → s.lanes[l].condition = .active →
        u.grants[l].holder = some h → h.who = .playback →
        let t0 := ((playSupply (stallStep (s.setTb b)))[l]).getD h.setpoint
        let c := heldStep s.lanes[l] t0 65536 (u.effScale l)
        t.lanes[l].p = c.p ∧ t.lanes[l].v = c.v ∧ t.lanes[l].t = clampInt s.lanes[l].softMin s.lanes[l].softMax t0) ∧
      (s.play.state = .cueing →
        let ready := (∀ l : Lane, s.participates l = true → t.lanes[l].v = 0 ∧
            ∃ a, s.play.posAt 0 l = some a ∧ (t.lanes[l].p - a).natAbs ≤ t.lanes[l].trackTol) ∧
          (4 ≤ s.play.buffer.length ∨ (s.play.len < 4 ∧ s.play.buffer.length = s.play.len))
        (ready → t.play.state = .ready) ∧ (¬ ready → t.play.state = .cueing)) ∧
      (s.play.state = .rolling → s.play.lacks k = true →
        t.play.state = .rolling ∧ t.play.spoiled = true ∧ t.play.stallCount = s.play.stallCount ∧
          ∃ d, t.play.stallDemands = some d ∧ (∀ e, s.play.stallDemands = some e → d = e) ∧
            (s.play.stallDemands = none → ∀ l : Lane, s.participates l = true →
              (∀ a, s.play.posAt k l = some a → d[l] = some a) ∧
                (s.play.posAt k l = none → d[l] = s.play.lastDemand[l]))) ∧
      (s.play.state = .rolling → s.play.lacks k = false →
        t.play.stallCount = 0 ∧ t.play.stallDemands = none ∧ t.play.marksDue = false ∧
          (s.play.marksDue = true → s.play.defersAt k = true → t.play.state = .deferred ∧ t.play.deferIndex = some k) ∧
          (s.play.marksDue = false ∨ s.play.defersAt k = false → t.play.state = .rolling)) ∧
      (t.play.state = .rolling →
        let strays := ∃ l : Lane, s.participates l = true ∧ t.lanes[l].condition = .active ∧
          (t.lanes[l].trackTol < (t.lanes[l].t - t.lanes[l].p).natAbs ∨
            ∃ d, (playSupply (stallStep (s.setTb b)))[l] = some d ∧ (d < s.lanes[l].softMin ∨ s.lanes[l].softMax < d))
        (strays → t.play.spoiled = true ∧ t.play.slipReported = true) ∧
          (¬ strays → t.play.slipReported = s.play.slipReported ∧
            (s.play.lacks k = false → t.play.spoiled = s.play.spoiled))) := by
  dsimp only
  obtain ⟨run, hb⟩ := servoTick_issues hc
  have ready : (s.setTb b).safety.stop = .run := hs
  have calm : NoDriveFails (s.setTb b) := hn
  have noZones : ∀ z : ZoneNo, (s.setTb b).safety.zones[z].record = none := hz
  obtain ⟨⟨zs, safety⟩, -, -, -, same, lanes⟩ := run_tick ready calm noZones
  have work := endWork_settle (tickWork (s.setTb b))
  refine ⟨_, run, ?_, ?_, ?_, fun l h hp ha hh hw => ?_, fun hcue => ?_, fun hroll hl => ?_, fun hroll hl => ?_, fun hroll => ?_⟩
  · rw [work.tb, tickWork_tb]
    rfl
  · rw [work.safety, safety]
    exact hs
  · rw [work.safety, safety]
    rfl
  · rw [work.lanes, lanes, playback_step (s := s.setTb b) hp ha hh hw, commitLane_active (x := (s.setTb b).lanes[l]) hp ha]
    exact ⟨rfl, rfl, rfl⟩
  · have still := stallStep_still (s := s.setTb b) (show s.play.state ≠ .rolling by rw [hcue]; decide)
    have iff := readyCondition_iff (laneStep (playBefore (s.setTb b)))
    have part : ∀ l, (laneStep (playBefore (s.setTb b))).participates l = s.participates l := fun l => by
      rw [State.participates, same, playBefore_play, still]
      rfl
    have pos : ∀ l, (laneStep (playBefore (s.setTb b))).play.posAt 0 l = s.play.posAt 0 l := fun l => by
      rw [same, playBefore_play, still]
      rfl
    have buffer : (laneStep (playBefore (s.setTb b))).play.buffer = s.play.buffer := by
      rw [same, playBefore_play, still]
      rfl
    have len : (laneStep (playBefore (s.setTb b))).play.len = s.play.len := by
      rw [same, playBefore_play, still]
      rfl
    simp only [part, pos, buffer, len, ← tickWork_lanes] at iff
    have state := tick_cueing ready calm noZones hcue
    rw [work.lanes, work.play]
    exact ⟨fun w => state.trans (if_pos (iff.2 w)), fun w => state.trans (if_neg fun x => w (iff.1 x))⟩
  · obtain ⟨h1, -, h3, h4, h5⟩ := tick_lacking ready calm noZones hroll hl
    obtain ⟨d, hd1, hd2, hd3⟩ := stalled_demands (s.setTb b) (k := s.play.k.getD 0) rfl
    rw [work.play]
    exact ⟨h1, h3, h4.trans (if_neg hb), d, h5.trans hd1, hd2, hd3⟩
  · obtain ⟨h1, h2, h3, -, h5, h6⟩ := tick_supplied ready calm noZones hroll hl
    rw [work.play]
    exact ⟨h1, h2, h3, h5, h6⟩
  · rw [work.play] at hroll ⊢
    rw [work.lanes]
    exact tick_tracks ready calm noZones hroll

/-- T0 of a lane that a station holds (R6). -/
def State.stationTarget (s : State) (l : Lane) (h : Hold) : Int := match mapDemand s.lens l h.ctx with
  | some m => m + h.ctx.o
  | none => h.setpoint

theorem heldTarget_station {s : State} {l : Lane} {h : Hold} {q : Port} (hw : h.who = .station q) :
    s.heldTarget l h = s.stationTarget l h := by
  cases hm : mapDemand s.lens l h.ctx <;> simp only [State.heldTarget, State.stationTarget, hw, hm]

/-- Settles O34: without a playback by the lanes' forms and exchanges, with one by the stall rules and the tests. -/
theorem servoTickInRun : Obligations.ServoTickInRun := by
  refine ⟨fun c b s hc hs hi hn hz => ?_, fun u ht hs hp hn hz => ⟨fun hl h8 => ?_, fun hl => ?_⟩,
    fun b first s hc hl hs hn hz hr hk => tickInRun_frame hc hl hs hn hz hr hk,
    fun b s hc hs _ hn hz => tickInRun_servo hc hs hn hz⟩
  · obtain ⟨t, run, clock, ⟨zs, safety⟩, absent, rest, active, sent⟩ := tickInRun_idle hc hs hi hn hz
    refine ⟨t, run, clock, by rw [safety, hs], by rw [safety], by rw [safety], absent, rest, fun l h q hp ha hh hw => ?_,
      fun l hp ha hh => ?_, sent⟩
    · obtain ⟨lane, given⟩ := active l hp ha (heldByPlayback_station hh hw)
      have held := runCandidate_held hh
      have gain : gainOf s.lanes[l] h = s.lanes[l].k := by rw [gainOf, hw]
      have target : s.heldTarget l h = s.stationTarget l h := heldTarget_station hw
      rw [gain, target] at held
      rw [held] at lane given
      refine ⟨?_, fun d hk hd => ?_, fun hk => ?_⟩
      · rw [lane, commitLane_active hp ha]
        rfl
      · rw [given]
        exact writeBack_step hh hk hd _
      · rw [given]
        refine writeBack_other (fun x hx => ?_) _
        rw [hh] at hx
        cases hx
        exact hk
    · obtain ⟨lane, given⟩ := active l hp ha (heldByPlayback_free hh)
      rw [runCandidate_free hh] at lane given
      refine ⟨?_, ?_⟩
      · rw [given]
        exact writeBack_other (fun x hx => by rw [hh] at hx; cases hx) _
      · rw [lane, commitLane_active hp ha]
        exact congrArg (fun c => { s.lanes[l] with
          p := (holdStep s.lanes[l]).p, v := (holdStep s.lanes[l]).v, t := (holdStep s.lanes[l]).p,
          sEff := s.effScale l, limitClip := (holdStep s.lanes[l]).clip.isSome, capped := c }) (capped_hold _)
  · obtain ⟨h1, h2, h3, h4, -⟩ := tick_lacking hs hn hz hp hl
    refine ⟨h1, h2, ?_, h3⟩
    rw [h4, State.stalledPlay, if_pos ht]
    exact Nat.min_eq_right (by omega)
  · obtain ⟨h1, h2, -⟩ := tick_supplied hs hn hz hp hl
    exact ⟨h1, h2⟩

end Sys2Proof.Machine
end

section
/-! PROOFS. The reset state meets the invariants (O4). -/

namespace Sys2Proof.Machine

open Sys2Proof

/-! ### The entries of the reset tables -/

theorem reset_lane (l : Lane) : State.reset.lanes[l] = LaneRec.reset := Vector.getElem_replicate l.isLt
theorem reset_grant (l : Lane) : State.reset.grants[l] = Grant.reset := Vector.getElem_replicate l.isLt
theorem reset_channel (l : Lane) : State.reset.drives.channels[l] = Channel.reset := Vector.getElem_replicate l.isLt
theorem reset_block (b : BlockNo) : State.reset.mem.blocks[b] = { state := .free, data := [] } := Vector.getElem_replicate b.isLt
theorem reset_slot (i : SlotNo) : State.reset.mem.slots[i] = Slot.reset := Vector.getElem_replicate i.isLt
theorem reset_port (p : Port) : State.reset.ports[p] = StationPort.reset := Vector.getElem_replicate p.isLt

theorem reset_limits : LimitsOrdered State.reset := by
  refine ⟨?_, fun r hr => ?_, fun r hr => ?_, fun l hp => ?_⟩
  · unfold RigRecord.ordered
    decide
  · cases hr
  · cases hr
  · rw [reset_lane] at hp
    cases hp

theorem reset_noErase (b : BlockNo) : State.reset.mem.blocks[b].state ≠ .erasing true ∧
    State.reset.mem.blocks[b].state ≠ .erasing false := by
  rw [reset_block]
  exact ⟨nofun, nofun⟩

/-- The reset memory has no block in use, nothing in progress and no take. -/
theorem reset_takes : TakesWf State.reset := by
  refine ⟨?_, ⟨fun b i => ?_, fun i => ?_⟩, ⟨fun b => ⟨fun h => ?_, fun h => ?_⟩, fun b h => ?_, fun i b k n h => ?_, fun i b k n h => ?_⟩,
    ⟨fun i _ => ?_, fun i h => ?_, fun h => ?_⟩⟩
  · have none : State.reset.erasingBlocks = [] := by
      unfold State.erasingBlocks
      rw [List.filter_eq_nil_iff]
      intro b _ h
      obtain ⟨h1, h2⟩ := reset_noErase b
      exact (of_decide_eq_true h).elim h1 h2
    rw [OneErasing, none]
    exact Nat.zero_le 1
  · rw [reset_slot, reset_block]
    refine ⟨nofun, ?_⟩
    rintro ⟨place, retire, h⟩
    cases h
  · rw [reset_slot]
    exact List.nodup_nil
  · exact absurd h (reset_noErase b).2
  · rcases h with h | h | ⟨again, h⟩ <;> cases h
  · rcases h with h | h <;> cases h
  · cases h
  · cases h
  · rw [reset_slot]
    exact ⟨rfl, rfl⟩
  · cases h
  · exact absurd rfl h

theorem reset_places (l : Lane) : State.reset.grants[l].places = [] := by
  rw [reset_grant]
  rfl

theorem reset_grants : GrantsWf State.reset := by
  intro l
  rw [reset_grant]
  refine ⟨⟨List.nodup_nil, ?_, fun h => absurd rfl h, nofun, fun _ => rfl⟩,
    nofun, nofun, nofun⟩
  exact List.pairwise_singleton _ _

/-- The Timebase starts in INTERNAL mode with no lock state and nothing pending (R26). -/
theorem reset_timebase : TimebaseWf State.reset := by
  refine ⟨by decide, by decide, by decide, by decide, by decide, by decide, by decide, ⟨fun _ => rfl, fun _ => rfl⟩,
    fun h => ?_, fun h => ?_, fun h => ?_, fun a h => ?_⟩ <;> cases h

/-- Settles O4: each invariant from the entries of the reset tables. -/
theorem resetMeetsTheInvariants : Obligations.ResetMeetsTheInvariants := by
  have ports : ∀ p : Port, State.reset.ports[p].role = none ∧ State.reset.ports[p].link = .down := fun p => by
    rw [reset_port]
    exact ⟨rfl, rfl⟩
  refine ⟨fun l => ?_, fun l => ?_, fun l => ?_, fun l _ => ?_, reset_limits, ⟨fun l _ => ?_, fun _ l => ?_⟩, fun l => ?_,
    ⟨⟨nofun, nofun⟩, List.nodup_singleton _⟩, ⟨nofun, nofun⟩, fun h => ?_, fun h => ?_,
    fun p => ?_, fun p => ?_, Nat.zero_le _, reset_takes, fun p => ⟨fun h => ?_, fun _ => (ports p).1⟩, fun p q h _ => ?_,
    fun _ p => (ports p).2, reset_grants, fun l p h => ?_, reset_timebase⟩
  · rw [reset_lane]; decide
  · rw [reset_lane]; decide
  · rw [reset_lane]; decide
  · rw [reset_lane]; decide
  · rw [reset_lane]; rfl
  · rw [reset_lane]; rfl
  · rw [reset_channel, State.outputsOn, reset_lane]
    exact ⟨rfl, rfl⟩
  · rcases h with h | h <;> cases h
  · exact absurd rfl h
  · rw [reset_port]; decide
  · rw [reset_port]; decide
  · rw [(ports p).2] at h
    cases h
  · rw [State.holdsMotion, (ports p).1] at h
    simp at h
  · rw [reset_places] at h
    cases h

end Sys2Proof.Machine
end

section
/-! PROOFS. The bounds of the event queues, the reply paths and the write queue (O9, R107, R179, R181): every operation
that makes one of them longer tests its room first. -/

namespace Sys2Proof.Machine

open Sys2Proof

/-- Every event queue and the write queue keep their bounds, and the reply path of each port one of its own. -/
structure QueuesBounded (paths : Port → Nat) (s : State) : Prop where
  events : ∀ p : Port, s.ports[p].events.length ≤ 16
  replies : ∀ p : Port, countedReplies s.ports[p] ≤ paths p
  queue : s.recorder.queue.length ≤ 8

/-- The bounds with room for one REPLY more at the port. -/
def roomAt (p : Port) : Port → Nat := fun q => if q = p then 7 else 8

theorem roomAt_le (p q : Port) : roomAt p q ≤ 8 := by
  unfold roomAt
  split <;> omega

namespace QueuesBounded

variable {b : Port → Nat} {s t : State}

theorem within (h : QueuesBounded b s) (hp : QueuesWithin s.ports t.ports) (hq : t.recorder = s.recorder) :
    QueuesBounded b t :=
  ⟨fun p => (hp p).1.trans (h.events p), fun p => (hp p).2.trans (h.replies p), by rw [hq]; exact h.queue⟩

theorem raiseFor (h : QueuesBounded b s) (aud : Port → Bool) (body : EventBody) :
    QueuesBounded b (raiseFor aud body s) := by
  have port : ∀ p : Port, (Machine.raiseFor aud body s).ports[p].events.length ≤ 16 ∧
      countedReplies (Machine.raiseFor aud body s).ports[p] = countedReplies s.ports[p] := by
    intro p
    rw [raiseFor_port]
    have room := h.events p
    split
    · unfold pushEvent
      split
      · next hl =>
        refine ⟨?_, rfl⟩
        rw [List.length_append, List.length_singleton]
        omega
      · exact ⟨room, rfl⟩
    · exact ⟨room, rfl⟩
  exact ⟨fun p => (port p).1, fun p => by rw [(port p).2]; exact h.replies p, h.queue⟩

theorem pump (h : QueuesBounded b s) : QueuesBounded b (pump s) := by
  refine h.within (fun p => ?_) rfl
  obtain ⟨-, -, -, -, -, events, replies⟩ := pumpPort_keeps s.ports[p]
  rw [pump_port, events, countedReplies, replies]
  exact ⟨Nat.le_refl _, Nat.le_refl _⟩

end QueuesBounded

theorem keepsUnits_bounded (b : Port → Nat) : KeepsUnits (QueuesBounded b) where
  raise aud body _ h := h.raiseFor aud body
  mem _ _ _ h := ⟨h.events, h.replies, h.queue⟩
  recorder r s hr h := by
    have old := h.queue
    exact ⟨h.events, h.replies, by rw [State.setRecorder_recorder]; omega⟩
  pump _ h := h.pump
  lanes _ _ h := ⟨h.events, h.replies, h.queue⟩
  grants _ _ h := ⟨h.events, h.replies, h.queue⟩
  nextArrival _ _ h := ⟨h.events, h.replies, h.queue⟩
  lens _ _ h := ⟨h.events, h.replies, h.queue⟩
  anyMem _ _ h := ⟨h.events, h.replies, h.queue⟩
  play _ _ h := ⟨h.events, h.replies, h.queue⟩
  safety _ _ h := ⟨h.events, h.replies, h.queue⟩
  drives _ _ h := ⟨h.events, h.replies, h.queue⟩
  rig _ _ h := ⟨h.events, h.replies, h.queue⟩

/-- A REPLY joins the path of a port that has room for it. -/
theorem QueuesBounded.pushReply {p : Port} {s : State} (h : QueuesBounded (roomAt p) s) (r : Reply) :
    QueuesBounded (fun _ => 8) (pushReply p r s) := by
  have kept : QueuesBounded (fun _ => 8) s := ⟨h.events, fun q => (h.replies q).trans (roomAt_le p q), h.queue⟩
  unfold Machine.pushReply
  split
  · refine ⟨fun q => ?_, fun q => ?_, h.queue⟩ <;> rw [State.setPort, State.setPorts_ports, updAt_get]
    · split <;> exact kept.events q
    · split
      · next e =>
        subst e
        have room : countedReplies s.ports[p] ≤ 7 := by simpa [roomAt] using h.replies p
        have filtered : ([r].filter fun r => r.kind ≠ .fetch).length ≤ 1 := List.length_filter_le _ [r]
        rw [countedReplies] at room ⊢
        rw [List.filter_append, List.length_append]
        omega
      · exact kept.replies q
  · exact kept

theorem keepsLinks_bounded : KeepsLinks (QueuesBounded fun _ => 8) (fun p => QueuesBounded (roomAt p)) where
  raise := (keepsUnits_bounded _).raise
  same _ _ _ hq h := h.within hq rfl
  move p f s _ hq h := h.within (queuesWithin_updAt hq) rfl
  enter p s hc h := by
    refine ⟨h.events, fun q => ?_, h.queue⟩
    unfold roomAt
    split
    · next e => subst e; omega
    · exact h.replies q
  leave p _ h := ⟨h.events, fun q => (h.replies q).trans (roomAt_le p q), h.queue⟩
  answer _ r _ h := h.pushReply r
  leaving rx _ s h := QueuesBounded.pushReply (s := s.setPort rx.port fun q => { q with leaving := true }) (h.within
    (queuesWithin_updAt (p := rx.port) (f := fun q => { q with leaving := true }) ⟨Nat.le_refl _, Nat.le_refl _⟩) rfl) _

theorem QueuesBounded.clearLatched {b : Port → Nat} {s : State} (h : QueuesBounded b s) :
    QueuesBounded b (clearLatched s) := by
  refine h.within (fun p => ?_) rfl
  rw [Machine.clearLatched, State.setPorts_ports, mapAll_get]
  exact ⟨Nat.le_refl _, Nat.le_refl _⟩

theorem judgeQuery_bounded (b : Port → Nat) (t : TableName) : KeptBy (QueuesBounded b) (judgeQuery t) := by
  intro s h
  unfold judgeQuery
  dsimp only
  split
  · exact h.clearLatched
  · exact h

theorem QueuesBounded.dropPort {s : State} (p : Port) (h : QueuesBounded (fun _ => 8) s) :
    QueuesBounded (fun _ => 8) (dropPort p s) := by
  refine h.within (fun q => ?_) rfl
  rw [dropPort_ports, updAt_get]
  split
  · exact ⟨Nat.zero_le _, Nat.zero_le _⟩
  · exact ⟨Nat.le_refl _, Nat.le_refl _⟩

theorem QueuesBounded.powerUp (lines : LineStates) (d : Damage) (s : State) :
    QueuesBounded (fun _ => 8) (powerUp lines d s) := by
  refine ⟨fun p => ?_, fun p => ?_, Nat.zero_le _⟩ <;> rw [powerUp_port] <;> exact Nat.zero_le _

theorem QueuesBounded.endStarting {b : Port → Nat} {s : State} (h : QueuesBounded b s) :
    QueuesBounded b (endStarting s) := by
  have recorder : (Machine.endStarting s).recorder = s.recorder := by
    rw [Machine.endStarting, apply_ite State.recorder, State.setStarting_recorder, State.setMem_recorder, ite_self]
  refine h.within (fun p => ?_) recorder
  rw [endStarting_ports]
  exact ⟨Nat.le_refl _, Nat.le_refl _⟩

theorem QueuesBounded.setTb {bound : Port → Nat} (b : Timebase) (s : State) (h : QueuesBounded bound s) :
    QueuesBounded bound (s.setTb b) := ⟨h.events, h.replies, h.queue⟩

theorem keepsCommands_bounded : KeepsCommands (QueuesBounded fun _ => 8) (fun p => QueuesBounded (roomAt p)) :=
  (keepsUnits_bounded _).plain.allCommands keepsLinks_bounded
    (fun p => (keepsUnits_bounded (roomAt p)).plain.judges (judgeQuery_bounded _) (judgeTimebaseSet_keeps QueuesBounded.setTb))
    (fun p _ => QueuesBounded.dropPort p) QueuesBounded.setTb (fun lines d s _ => .powerUp lines d s) fun _ h => h.endStarting

/-- No command overfills an event queue, a reply path or the write queue. -/
theorem step_bounded {s t : State} (ht : step s = .next t) (h : QueuesBounded (fun _ => 8) s) :
    QueuesBounded (fun _ => 8) t :=
  keepsCommands_bounded.step ht (fun _ h => ⟨h.events, h.replies, h.queue⟩) h

end Sys2Proof.Machine
end

section
/-! PROOFS. Properties of the lanes, the drives and the stops, in which the ports, the clock and the grants have no part:
what they have to survive, and the stop state (O8, R137, R144 to R149, R153). -/

namespace Sys2Proof.Machine

open Sys2Proof

/-! ### What such a property has to survive -/

/-- R2: an index that names a lane names a present one. -/
theorem present_of_namedLane {s : State} {l : Lane} {i : Nat} (h : s.namedLane i = some l) : s.lanes[l].present = true := by
  unfold State.namedLane at h
  split at h
  · split at h
    · next hp => obtain rfl := Option.some.inj h; exact hp
    · cases h
  · cases h

/-- The part with the entries of a RIG WRITE taken, before its record waits for its write (R166). -/
def State.rigWritten (s : State) (es : List RigEntry) (identity : Nat) (set : LaneSet) : State :=
  let lanes := mapAll (applyEntries es s.rig.record.lanes) fun _ x => clampDefaults x
  (s.setLanes (mapAll s.lanes fun l x => rigAdjust lanes[l] x)).setRig
    { s.rig with record := { s.rig.record with identity := identity, presentSet := set, lanes := lanes } }

/-- The property survives every change of the ports, the clock, the grants and the maps, and the operations of the take
memory, the Playback Unit, the lanes, the drives and the stops. -/
structure KeepsGuard (P : State → Prop) : Prop where
  ports : ∀ v s, P s → P (s.setPorts v)
  tb : ∀ b s, P s → P (s.setTb b)
  grants : ∀ v s, P s → P (s.setGrants v)
  nextArrival : ∀ x s, P s → P (s.setNextArrival x)
  lens : ∀ x s, P s → P (s.setLens x)
  recorder : ∀ x s, P s → P (s.setRecorder x)
  mem : ∀ m s, RigKept s.mem m → P s → P (s.setMem m)
  reserve : ∀ s, P s → P (startReserved s)
  reservedDone : ∀ ok s, P s → P (reservedDone ok s)
  play : ∀ x s, (x.state = .idle ∨ s.play.state ≠ .idle) → P s → P (s.setPlay x)
  begins : ∀ x s, s.safety.stop = .run → P s → P (s.setPlay x)
  monitor : ∀ x s, x.stop = s.safety.stop → x.causes = s.safety.causes → x.release = s.safety.release →
    x.drivePower = s.safety.drivePower → P s → P (s.setSafety x)
  causes : ∀ cs s, P s → P (causeEvents cs s)
  cancel : ∀ why s, s.safety.stop = .releasing ∨ s.safety.release.isSome = true → P s → P (cancelRelease why s)
  openWindow : ∀ rx s, s.safety.stop = .stopped → P s → P (openWindow rx s)
  enterRun : ∀ party s, s.safety.stop = .releasing → P s → P (enterRun party s)
  toKeepsDrives : KeepsDrives P
  parked : ∀ s, P s →
    P (refreshOutputs ((s.setLanes (mapAll s.lanes fun _ x => parkLane x)).setDrives { s.drives with parked := true }))
  unpark : ∀ s, P s → P (unpark s)
  shaped : ∀ (l : Lane) a s, mag s.lanes[l].v ≤ (shapeLane s.rig.record.lanes[l] a s.lanes[l]).1.vmax → P s →
    P (s.setLane l fun _ => (shapeLane s.rig.record.lanes[l] a s.lanes[l]).1)
  limited : ∀ (l : Lane) (lo hi : Int) s, s.lanes[l].present = true → lo ≤ hi → P s → P (s.setLane l fun x => { x with
    softMin := clampInt s.rig.record.lanes[l].hardMin s.rig.record.lanes[l].hardMax lo
    softMax := clampInt s.rig.record.lanes[l].hardMin s.rig.record.lanes[l].hardMax hi })
  rigStore : ∀ x s, x.record = s.rig.record → P s → P (s.setRig x)
  rigWritten : ∀ es identity set s, entriesValid es s.rig.record.lanes = true →
    (∀ l : Lane, rigBlocked (rigAdjust (clampDefaults (applyEntries es s.rig.record.lanes)[l]) s.lanes[l]) = false) →
    P s → P (s.rigWritten es identity set)

theorem rigKept_storeScan (m : TakeMemory) : RigKept m (storeScan m) := by
  refine .same ?_ ?_ <;> rw [storeScan]

namespace KeepsGuard

variable {P : State → Prop} (k : KeepsGuard P) {s : State}

include k

theorem toKeepsTakes : KeepsTakes P where
  raise _ _ _ h := k.ports _ _ h
  mem := k.mem
  recorder r s _ := k.recorder r s

theorem toKeepsGrants : KeepsGrants P := keepsGrants_of k.toKeepsTakes.toKeepsEvents k.grants k.nextArrival

theorem park (h : P s) : P (park s) := by
  have cleared : P (forEach allLanes (fun l s => if s.lanePresent l then clearLane l s else s) s) := by
    refine forEach_keeps (fun l s hs => ?_) _ h
    split
    · exact clearLane_keeps k.toKeepsTakes.toKeepsEvents k.grants l s hs
    · exact hs
  unfold Machine.park
  generalize forEach allLanes (fun l s => if s.lanePresent l then clearLane l s else s) s = u at cleared
  exact k.parked u cleared

theorem judgeShapeSet (a : ShapeArgs) : KeptBy P (judgeShapeSet a) := by
  intro s h
  unfold Machine.judgeShapeSet
  split
  · exact h
  · dsimp only
    split
    · exact h
    · next hv => exact k.shaped _ a s (Nat.le_of_not_lt hv) h

theorem judgeLimitsSet (a : LimitsArgs) : KeptBy P (judgeLimitsSet a) := by
  intro s h
  unfold Machine.judgeLimitsSet
  split
  · exact h
  · next l hl =>
    split
    · exact h
    · next ho =>
      dsimp only
      split
      · exact h
      · exact k.limited l a.min a.max s (present_of_namedLane hl) (Int.not_lt.mp ho) h

theorem judgeRigWrite (a : RigArgs) : KeptBy P (judgeRigWrite a) := by
  intro s h
  unfold Machine.judgeRigWrite
  dsimp only
  split
  · exact h
  split
  · exact h
  split
  · exact h
  next hv =>
  split
  · exact h
  · next hb =>
    rw [Bool.not_eq_true, Bool.not_eq_false', Bool.and_eq_true, Bool.and_eq_true] at hv
    refine k.toKeepsTakes.queueReserved _ (k.rigStore _ _ rfl (k.rigWritten a.entries _ _ s hv.1.1 (fun l => ?_) h))
    rw [Bool.not_eq_true, List.any_eq_false] at hb
    have free := hb _ (Vector.mem_toList_iff.mpr (Vector.getElem_mem l.isLt))
    rw [mapAll_getNat, mapAll_get] at free
    exact Bool.not_eq_true _ |>.mp free

theorem judgeRigFreeze (u : Unit) : KeptBy P (judgeRigFreeze u) := by
  intro s h
  unfold Machine.judgeRigFreeze
  split
  · exact h
  split
  · exact h
  split
  · exact h
  · exact k.toKeepsTakes.queueReserved _ (k.rigStore _ _ rfl (k.rigStore { s.rig with freezePending := true } s rfl h))

theorem toKeepsMachine : KeepsMachine P where
  toKeepsWork := KeepsArray.toKeepsWork
    { toKeepsTakes := k.toKeepsTakes, pump := fun _ h => k.ports _ _ h, reserve := k.reserve }
  pump _ h := k.ports _ _ h
  reservedDone := k.reservedDone
  lens := k.lens
  play := k.play
  leave := k.toKeepsGrants.leave
  contexts _ h := k.grants _ _ h
  monitor := k.monitor
  causes := k.causes
  cancel := k.cancel
  openWindow := k.openWindow
  enterRun := k.enterRun
  toKeepsDrives := k.toKeepsDrives
  acquire p ls _ _ := k.toKeepsGrants.judgeAcquire p ls
  yield p ls _ := k.toKeepsGrants.judgeYield p ls
  demand p es _ := k.toKeepsGrants.judgeDemand p es
  trim p es _ := k.toKeepsGrants.judgeTrim p es
  cue _ s h := judgeCue_keeps (fun _ _ _ _ _ hr _ => k.toKeepsTakes.suspendErase
    (forEach_keeps (fun _ _ hs => k.toKeepsGrants.gain _ _ _ _ hs) _ (k.begins _ s hr h))) h
  park _ := k.park
  unpark := k.unpark
  shapeSet := k.judgeShapeSet
  limitsSet := k.judgeLimitsSet
  rigWrite := k.judgeRigWrite
  rigFreeze := k.judgeRigFreeze

theorem leaveActive (p : Port) (why : DownReason) (h : P s) : P (leaveActive p why s) :=
  leaveActive_keeps why k.toKeepsTakes.raise (removeStation_keeps k.toKeepsGrants p)
    (fun o _ => k.toKeepsMachine.toKeepsPlay.playIdle o) (fun _ => k.toKeepsMachine.askerLost p)
    (fun o _ => k.toKeepsTakes.recordEnds o) (fun _ => k.toKeepsTakes.discardUpload)
    (k.toKeepsTakes.dropFetch p (k.ports _ _ h))

/-- Every command. -/
theorem commands (tick : ∀ s, P s → P (tickWork s)) (powerUp : ∀ lines d s, P s → P (powerUp lines d s))
    (starting : ∀ b s, P s → P (s.setStarting b)) : KeepsCommands P :=
  k.toKeepsMachine.unlinked k.ports k.tb (fun p why _ => k.leaveActive p why) tick powerUp fun s h => by
    unfold endStarting
    split
    · have stored : P (s.setMem (storeScan s.mem)) := k.mem (storeScan s.mem) s (rigKept_storeScan s.mem) h
      exact starting false (s.setMem (storeScan s.mem)) stored
    · exact h

/-- The tick, where the property survives each commit and the test for STOPPED. -/
theorem tickWork (commitRun : ∀ s, s.safety.stop = .run → P s → P (commitLanes (s.candidates s.runCandidate) s))
    (commitStop : ∀ s, s.safety.stop = .run ∨ s.safety.stop = .stopping → P s →
      P (commitLanes (s.candidates fun l => stopStep s.lanes[l]) s))
    (commitRest : ∀ s, P s → P (commitLanes (s.candidates fun l => restStep s.lanes[l]) s))
    (stopped : ∀ s, P s → P (stoppedTest s)) (h : P s) : P (tickWork s) :=
  KeepsTick.tickWork (P := P) {
    raise := k.toKeepsTakes.raise
    playBefore := fun _ => k.toKeepsMachine.toKeepsPlay.playBefore
    playAfter := fun _ => k.toKeepsMachine.toKeepsPlay.playAfter
    commitRun := commitRun
    commitStop := commitStop
    commitRest := commitRest
    writeBack := fun _ _ => k.grants _ _
    causes := k.causes
    stoppedTest := stopped
    compose := fun _ => k.toKeepsTakes.composeSample
    exchange := fun _ => k.toKeepsDrives.exchangeTick
    telemetry := fun _ _ => k.ports _ _
    evaluate := fun _ => k.toKeepsMachine.evaluateZones } h

end KeepsGuard

/-! ### A release into RUN -/

/-- The lanes as a release reloads them (R153, steps 2 and 3). -/
def State.reloadedLanes (s : State) : Vector LaneRec 12 :=
  mapAll s.lanes fun l x => releaseReload (!s.safety.drivePower) s.drives.channels[l] x

/-- What a release makes of the part, apart from its events (R153). -/
def State.released (s : State) : State :=
  let cleared := s.setSafety { s.safety with causes := [], release := none }
  let reloaded := cleared.setLanes s.reloadedLanes
  let powered := refreshOutputs (reloaded.setSafety { reloaded.safety with drivePower := true })
  let marked := powered.setSafety { powered.safety with
    zones := mapAll powered.safety.zones fun _ e => markExit powered.motion e }
  let granted := marked.setGrants (mapAll marked.grants fun l g => releaseLane marked.lens l marked.lanes[l].p g)
  granted.setSafety { granted.safety with stop := .run }

theorem enterRun_frame (party : Party) (s : State) : SameButQueues s.released (enterRun party s) := by
  unfold enterRun State.released
  dsimp only
  split
  · exact (changeStop_frame _ none (some party) none _).trans (raiseAll_frame _ _)
  · exact changeStop_frame _ none (some party) none _

theorem released_safety (s : State) : s.released.safety = { s.safety with
    causes := [], release := none, drivePower := true, stop := .run,
    zones := mapAll s.safety.zones fun _ e => markExit (s.setLanes s.reloadedLanes).motion e } := by
  have motion : ∀ x y, (((s.setSafety x).setLanes s.reloadedLanes).setSafety y).motion =
      (s.setLanes s.reloadedLanes).motion := fun x y => by
    rw [State.motion, State.motion, State.setSafety_lanes, State.setLanes_lanes, State.setLanes_lanes]
  have outputs : ∀ (t : State) d, (t.setDrives d).motion = t.motion := fun t d => by
    rw [State.motion, State.motion, State.setDrives_lanes]
  simp only [State.released, outputs, motion, State.setGrants_safety, State.setSafety_safety, State.setLanes_safety,
    refreshOutputs, State.setDrives_safety]

theorem released_lanes (s : State) : s.released.lanes = s.reloadedLanes := rfl

/-! ### The stop state -/

/-- The cause set, the release record, drive power and the playback agree with the stop state (R137, R144, R145, R149,
R153). -/
structure StopAgrees (x : Safety) (playing : PlayState) : Prop where
  causes : x.causes = [] ↔ x.stop = .run
  nodup : (x.causes.map fun c => c.kind).Nodup
  release : x.release.isSome = true ↔ x.stop = .releasing
  power : x.stop = .run ∨ x.stop = .stopping → x.drivePower = true
  play : playing ≠ .idle → x.stop = .run

theorem stopAgrees_iff (s : State) :
    StopAgrees s.safety s.play.state ↔ CausesWf s ∧ ReleaseWf s ∧ PowerInRun s ∧ PlayInRun s :=
  ⟨fun h => ⟨⟨h.causes, h.nodup⟩, h.release, h.power, h.play⟩,
    fun ⟨hc, hr, hp, hl⟩ => ⟨hc.1, hc.2, hr, hp, hl⟩⟩

namespace StopAgrees

variable {x y : Safety} {p q : PlayState}

theorem monitor (h : StopAgrees x p) (hs : y.stop = x.stop) (hc : y.causes = x.causes) (hr : y.release = x.release)
    (hp : y.drivePower = x.drivePower) : StopAgrees y p :=
  ⟨by rw [hc, hs]; exact h.causes, by rw [hc]; exact h.nodup, by rw [hr, hs]; exact h.release,
    by rw [hs, hp]; exact h.power, by rw [hs]; exact h.play⟩

theorem play_le (h : StopAgrees x p) (hq : q = .idle ∨ p ≠ .idle) : StopAgrees x q :=
  ⟨h.causes, h.nodup, h.release, h.power, fun hn => hq.elim (fun hi => absurd hi hn) h.play⟩

theorem inRun (h : StopAgrees x p) (hr : x.stop = .run) (q : PlayState) : StopAgrees x q :=
  ⟨h.causes, h.nodup, h.release, h.power, fun _ => hr⟩

/-- Outside RUN no playback is active, and drive power at rest is free. -/
theorem idle (h : StopAgrees x p) (hr : x.stop ≠ .run) : p = .idle := Decidable.not_not.mp fun hp => hr (h.play hp)

/-- R145: cause events keep the agreement; those that enter a stop end the playback. -/
theorem after (h : StopAgrees x p) {f t : Nat} {ks : List CauseKind} (hk : ks ≠ []) (hq : q = .idle ∨ (p = q ∧ x.stop ≠ .run)) :
    StopAgrees (safetyAfter f t ks x) q := by
  have some : causesAfter f t x.causes ks ≠ [] := causesAfter_ne_nil _ hk
  have nodup := causesAfter_nodup (f := f) (t := t) ks h.nodup
  have idle : q = .idle := hq.elim id fun ⟨e, hr⟩ => e ▸ h.idle hr
  have playing : ∀ {s : StopState}, q ≠ .idle → s = .run := fun hn => absurd idle hn
  cases hs : x.stop with
  | run =>
    rw [safetyAfter_run f t ks hs]
    refine ⟨by simp [some], nodup, ?_, fun _ => h.power (.inl hs), playing⟩
    have := h.release
    simp_all
  | stopping =>
    rw [safetyAfter_stopping f t ks hs]
    exact ⟨by simp [some, hs], nodup, h.release, h.power, playing⟩
  | stopped =>
    rw [safetyAfter_stopped f t ks hs]
    exact ⟨by simp [some, hs], nodup, h.release, by simp [hs], playing⟩
  | releasing =>
    rw [safetyAfter_releasing f t ks hs]
    exact ⟨by simp [some], nodup, by simp, by simp, playing⟩

end StopAgrees

theorem causeEvents_stopAgrees (ks : List CauseKind) (s : State) (h : StopAgrees s.safety s.play.state) :
    StopAgrees (causeEvents ks s).safety (causeEvents ks s).play.state := by
  by_cases hk : ks = []
  · subst hk
    exact h
  · rw [causeEvents_safety hk]
    refine h.after hk ?_
    by_cases hr : s.safety.stop = .run
    · exact .inl (causeEvents_in_run hr hk).1
    · refine .inr ⟨?_, hr⟩
      rw [(causeEvents_outside_run hr ks).2.1]

/-- The stop state after cause events outside RUN and STOPPING: at rest still. -/
theorem causeEvents_rests (ks : List CauseKind) {s : State} (h : s.safety.stop = .stopped ∨ s.safety.stop = .releasing) :
    (causeEvents ks s).safety.stop = .stopped ∨ (causeEvents ks s).safety.stop = .releasing := by
  by_cases hk : ks = []
  · subst hk
    exact h
  · rw [causeEvents_safety hk]
    exact .inl (by rcases h with h | h <;> simp [safetyAfter, h, stopAfterCause])

theorem setPower_stopAgrees {on : Bool} {s : State} (h : StopAgrees s.safety s.play.state)
    (hp : on = true ∨ s.safety.stop = .stopped ∨ s.safety.stop = .releasing) :
    StopAgrees (setPower on s).safety (setPower on s).play.state := by
  rw [setPower_safety, (setPower_keeps on s).2.2.2.1]
  refine ⟨h.causes, h.nodup, h.release, fun hr => ?_, h.play⟩
  rcases hp with hp | hp | hp
  · exact hp
  · rcases hr with hr | hr <;> rw [hp] at hr <;> cases hr
  · rcases hr with hr | hr <;> rw [hp] at hr <;> cases hr

/-- A release that ends: STOPPED with no release record; the causes stay. -/
theorem cancelRelease_stopAgrees {why : StopReason} {s : State} (h : StopAgrees s.safety s.play.state)
    (hr : s.safety.stop = .releasing ∨ s.safety.release.isSome = true) :
    StopAgrees (cancelRelease why s).safety (cancelRelease why s).play.state := by
  have hs : s.safety.stop = .releasing := hr.elim id h.release.mp
  have some : s.safety.causes ≠ [] := fun hc => by have := h.causes.mp hc; rw [hs] at this; cases this
  have frame := cancelRelease_frame why s
  have idle : s.play.state = .idle := h.idle (by rw [hs]; decide)
  rw [frame.safety, frame.play]
  exact ⟨by simp [some], h.nodup, by simp, by simp, by simp [idle]⟩

theorem openWindow_stopAgrees (rx : Rx) {s : State} (hs : s.safety.stop = .stopped) (h : StopAgrees s.safety s.play.state) :
    StopAgrees (openWindow rx s).safety (openWindow rx s).play.state := by
  have frame := openWindow_frame rx s
  have some : s.safety.causes ≠ [] := fun hc => by have := h.causes.mp hc; rw [hs] at this; cases this
  have idle : s.play.state = .idle := h.idle (by rw [hs]; decide)
  rw [frame.safety, frame.play]
  exact ⟨by simp [some], h.nodup, by simp, by simp, by simp [idle]⟩

theorem enterRun_stopAgrees (party : Party) (s : State) :
    StopAgrees (enterRun party s).safety (enterRun party s).play.state := by
  rw [(enterRun_frame party s).safety, released_safety]
  exact ⟨by simp, List.nodup_nil, by simp, by simp, by simp⟩

theorem stoppedTest_stopAgrees (s : State) (h : StopAgrees s.safety s.play.state) :
    StopAgrees (stoppedTest s).safety (stoppedTest s).play.state := by
  rw [(stoppedTest_keeps s).2]
  rcases stoppedTest_safety s with hx | ⟨hs, hx⟩ <;> rw [hx]
  · exact h
  · have some : s.safety.causes ≠ [] := fun hc => by have := h.causes.mp hc; rw [hs] at this; cases this
    have idle : s.play.state = .idle := h.idle (by rw [hs]; decide)
    have none : s.safety.release.isSome ≠ true := fun hr => by have := h.release.mp hr; rw [hs] at this; cases this
    exact ⟨by simp [safetyStopped, some], h.nodup, by simpa [safetyStopped] using none, by simp [safetyStopped],
      by simp [idle]⟩

theorem unpark_stopAgrees (s : State) (h : StopAgrees s.safety s.play.state) :
    StopAgrees (unpark s).safety (unpark s).play.state := by
  have caused := fun (v : DrivePort) w => causeEvents_stopAgrees (s.failingLanes.map CauseKind.driveFault) ((s.setLanes w).setDrives v) h
  have rests := fun (v : DrivePort) w => causeEvents_rests (s.failingLanes.map CauseKind.driveFault) (s := (s.setLanes w).setDrives v)
  unfold unpark refreshOutputs
  simp only [State.setDrives_safety, State.setDrives_play]
  split
  · exact caused _ _
  · exact (caused _ _).monitor rfl rfl rfl rfl
  · next hs => exact setPower_stopAgrees (caused _ _) (.inr (rests _ _ (.inl hs)))
  · next hs => exact setPower_stopAgrees (caused _ _) (.inr (rests _ _ (.inr hs)))

theorem keepsGuard_stopAgrees : KeepsGuard (fun s => StopAgrees s.safety s.play.state) where
  ports _ _ h := h
  tb _ _ h := h
  grants _ _ h := h
  nextArrival _ _ h := h
  lens _ _ h := h
  recorder _ _ h := h
  mem _ _ _ h := h
  reserve := startReserved_keeps (fun _ _ h => h) (fun _ _ h => h) fun _ _ h => h
  reservedDone := reservedDone_keeps ⟨fun _ _ _ h => h⟩ (fun _ _ h => h) (fun _ _ h => h) fun _ _ h => h
  play _ _ hx h := h.play_le hx
  begins _ _ hr h := h.inRun hr _
  monitor _ _ hs hc hr hp h := h.monitor hs hc hr hp
  causes := causeEvents_stopAgrees
  cancel _ _ hr h := cancelRelease_stopAgrees h hr
  openWindow rx _ hs h := openWindow_stopAgrees rx hs h
  enterRun party s _ _ := enterRun_stopAgrees party s
  toKeepsDrives :=
    { channels := fun _ _ _ h => h
      driveCause := driveCause_keeps (fun _ _ _ h => h) causeEvents_stopAgrees
      settled := fun _ _ _ _ h => h }
  parked _ h := h
  unpark := unpark_stopAgrees
  shaped _ _ _ _ h := h
  limited _ _ _ _ _ _ h := h
  rigStore _ _ _ h := h
  rigWritten _ _ _ _ _ _ h := h

theorem powerUp_safety (lines : LineStates) (d : Damage) (s : State) : (powerUp lines d s).safety = powerSafety lines := by
  rw [powerUp]

theorem powerUp_stopAgrees (lines : LineStates) (d : Damage) (s : State) :
    StopAgrees (powerUp lines d s).safety (powerUp lines d s).play.state := by
  have play : (powerUp lines d s).play = Playback.reset := by rw [powerUp]
  rw [powerUp_safety, play]
  refine ⟨by simp [powerSafety, Safety.reset], ?_, by simp [powerSafety, Safety.reset], by simp [powerSafety, Safety.reset],
    by simp [Playback.reset]⟩
  cases hl : lines.stop <;> simp [powerSafety, Safety.reset, hl]

/-- Settles O8: the stop state changes with the causes, the release record, drive power and the playback it governs. -/
theorem everyStepKeepsTheStopStateConsistent : Obligations.EveryStepKeepsTheStopStateConsistent := by
  unfold Obligations.EveryStepKeepsTheStopStateConsistent
  intro s t hc hr hp hl ht
  have k := keepsGuard_stopAgrees
  have tick : ∀ s : State, StopAgrees s.safety s.play.state →
      StopAgrees (tickWork s).safety (tickWork s).play.state := fun s h =>
    k.tickWork (fun _ _ h => h) (fun _ _ h => h) (fun _ h => h) stoppedTest_stopAgrees h
  have commands := k.commands tick (fun lines d s _ => powerUp_stopAgrees lines d s) fun _ _ h => h
  exact (stopAgrees_iff t).mp (commands.step ht (fun _ h => h) ((stopAgrees_iff s).mpr ⟨hc, hr, hp, hl⟩))

end Sys2Proof.Machine
end

section
/-! PROOFS. The promises on the lane records (O5, R1, R9, R13, R14, R21, R165): each is one of every lane with its part of
the rig record, kept by whatever writes a lane. -/

namespace Sys2Proof.Machine

open Sys2Proof

/-! ### Candidates keep the speed -/

/-- The candidate is no faster than the lane's Vmax where the lane is not. -/
def WithinSpeed (x : LaneRec) (c : Candidate) : Prop := mag x.v ≤ x.vmax → mag c.v ≤ x.vmax

/-- The limit clip leaves a velocity or takes it to 0. -/
theorem limitClip_speed (x : LaneRec) (p v : Int) : (limitClip x p v).2.1 = v ∨ (limitClip x p v).2.1 = 0 := by
  rcases limitClip_spec x p v with ⟨h, -⟩ | ⟨h, -⟩ | ⟨h, -⟩ <;> rw [h]
  · exact .inl rfl
  · exact .inr rfl
  · exact .inr rfl

theorem withinSpeed_limitClip {x : LaneRec} {c : Candidate} {p v : Int} (hc : c.v = (limitClip x p v).2.1)
    (hv : mag x.v ≤ x.vmax → mag v ≤ x.vmax) : WithinSpeed x c := by
  intro h
  rw [hc]
  rcases limitClip_speed x p v with e | e <;> rw [e]
  · exact hv h
  · exact Nat.zero_le _

theorem withinSpeed_rest (x : LaneRec) : WithinSpeed x (restStep x) := fun _ => Nat.zero_le _

theorem withinSpeed_stop (x : LaneRec) : WithinSpeed x (stopStep x) :=
  withinSpeed_limitClip rfl fun h => by
    have := slowed_natAbs x.v x.astop
    simp only [mag] at h ⊢
    omega

theorem withinSpeed_hold (x : LaneRec) : WithinSpeed x (holdStep x) :=
  withinSpeed_limitClip rfl fun h => by
    have := clamped_change_between x.v 0 x.a
    simp only [mag] at h ⊢
    omega

theorem withinSpeed_held (x : LaneRec) (t0 : Int) (gain : Nat) {sEff : Nat} (hs : sEff ≤ 65536) :
    WithinSpeed x (heldStep x t0 gain sEff) := by
  intro h
  have range := nextVelocity_range (x := x) (t0 := t0) (gain := gain) hs h
  rcases heldStep_cases x t0 gain sEff with ⟨-, -, hv, -⟩ | ⟨-, -, hv, -⟩ | ⟨-, -, hv, -⟩ <;> rw [hv]
  · exact range
  · exact Nat.zero_le _
  · exact Nat.zero_le _

theorem withinSpeed_run (s : State) (l : Lane) : WithinSpeed s.lanes[l] (s.runCandidate l) := by
  unfold State.runCandidate
  split
  · exact withinSpeed_held _ _ _ (effScale_le s l)
  · exact withinSpeed_hold _

/-! ### A property of every lane with its rig record -/

/-- The property R of a lane record, with the lane's part of the rig record, survives whatever writes either; a rig record
whose lanes meet it meets S. -/
structure KeepsLane (R : RigLane → LaneRec → Prop) (S : RigRecord → Prop) : Prop where
  record : ∀ (r : RigRecord) (x : Vector LaneRec 12), (∀ l : Lane, R r.lanes[l] x[l]) → ∀ frozen, S { r with frozen := frozen }
  commit : ∀ r x e c, e ≤ 65536 → WithinSpeed x c → R r x → R r (commitLane e c x)
  disable : ∀ r why x, R r x → R r (disableLane why x)
  settle : ∀ r count (x : LaneRec), x.present = true → R r x → R r (settleLane count x)
  reload : ∀ r off c x, R r x → R r (releaseReload off c x)
  park : ∀ r x, R r x → R r (parkLane x)
  unpark : ∀ r c x, R r x → R r (unparkLane r c x)
  shape : ∀ r a (x : LaneRec), mag x.v ≤ (shapeLane r a x).1.vmax → R r x → R r (shapeLane r a x).1
  limits : ∀ (r : RigLane) (lo hi : Int) (x : LaneRec), x.present = true → lo ≤ hi → R r x →
    R r { x with softMin := clampInt r.hardMin r.hardMax lo, softMax := clampInt r.hardMin r.hardMax hi }
  rig : ∀ r raw (x : LaneRec), raw = r ∨ rigLaneValid raw = true → rigBlocked (rigAdjust (clampDefaults raw) x) = false →
    R r x → R (clampDefaults raw) (rigAdjust (clampDefaults raw) x)
  power : ∀ (r : RigRecord) l, S r → R r.lanes[l] (powerLane r l)
  blank : S RigRecord.blank

/-- Every lane has R, and S holds of the rig record stored and of one being written. -/
structure LanesHave (R : RigLane → LaneRec → Prop) (S : RigRecord → Prop) (s : State) : Prop where
  lane : ∀ l : Lane, R s.rig.record.lanes[l] s.lanes[l]
  stored : ∀ r, s.mem.stored.rig = some r → S r
  writing : ∀ r, s.mem.op = some (.reserved (.rig r)) → S r

/-- R166: an entry that is taken leaves each lane of the record as it was or valid. -/
theorem applyEntries_lane {es : List RigEntry} {v : Vector RigLane 12} (h : entriesValid es v = true) (l : Lane) :
    (applyEntries es v)[l] = v[l] ∨ rigLaneValid (applyEntries es v)[l] = true := by
  induction es generalizing v with
  | nil => exact .inl rfl
  | cons e es ih =>
    rw [entriesValid, Bool.and_eq_true] at h
    obtain ⟨first, rest⟩ := h
    rcases ih rest with same | valid
    · change (applyEntries es (takeEntry e v))[l] = v[l] ∨ rigLaneValid (applyEntries es (takeEntry e v))[l] = true
      rw [same, takeEntry]
      split at first
      · next i hi =>
        rw [updAt_get]
        split
        · next e => subst e; exact .inr first
        · exact .inl rfl
      · cases first
    · exact .inr valid

namespace LanesHave

variable {R : RigLane → LaneRec → Prop} {S : RigRecord → Prop} {s t : State}

theorem of_eq (h : LanesHave R S s) (hl : t.lanes = s.lanes) (hr : t.rig.record.lanes = s.rig.record.lanes)
    (hm : RigKept s.mem t.mem) : LanesHave R S t := by
  refine ⟨fun l => by rw [hl, hr]; exact h.lane l, fun r hs => h.stored r (by rwa [← hm.1]), fun r ho => ?_⟩
  rcases hm.2 with e | ne
  · exact h.writing r (by rwa [← e])
  · exact absurd ho (ne r)

theorem same (h : LanesHave R S s) (hl : t.lanes = s.lanes) (hr : t.rig = s.rig) (hm : t.mem = s.mem) : LanesHave R S t :=
  h.of_eq hl (by rw [hr]) (by rw [hm]; exact .same rfl rfl)

theorem setDrives (h : LanesHave R S s) (v : DrivePort) : LanesHave R S (s.setDrives v) := h.same rfl rfl rfl

/-- An operation begins whose content, where it is the rig record, has S. -/
theorem setOp (h : LanesHave R S s) {op : ArrayOp} (ho : ∀ r, op = .reserved (.rig r) → S r) :
    LanesHave R S (setOp op s) := ⟨h.lane, h.stored, fun r hr => ho r (Option.some.inj hr)⟩

/-- The lanes change, one by one. -/
theorem setLanes (h : LanesHave R S s) {v : Vector LaneRec 12} (hv : ∀ l : Lane, R s.rig.record.lanes[l] v[l]) :
    LanesHave R S (s.setLanes v) := ⟨hv, h.stored, h.writing⟩

theorem setLane (h : LanesHave R S s) {l : Lane} {f : LaneRec → LaneRec} (hf : R s.rig.record.lanes[l] (f s.lanes[l])) :
    LanesHave R S (s.setLane l f) := by
  refine h.setLanes fun i => ?_
  rw [updAt_get]
  split
  · next e => subst e; exact hf
  · exact h.lane i

/-- The commit of a candidate vector none of which is too fast. -/
theorem commit (h : LanesHave R S s) (k : KeepsLane R S) {f : Lane → Candidate}
    (hf : ∀ l : Lane, WithinSpeed s.lanes[l] (f l)) : LanesHave R S (commitLanes (s.candidates f) s) := by
  refine LanesHave.setLanes (s := s) h fun l => ?_
  change R s.rig.record.lanes[l] (commitLanes (s.candidates f) s).lanes[l]
  have scale := effScale_le s l
  rw [commitLanes_lane]
  split
  · next hm =>
    have off : (disableLane .driveFault s.lanes[l]).condition ≠ .active := by
      unfold disableLane
      split
      · exact fun hc => by cases hc
      · assumption
    have rests := k.commit _ _ _ _ scale (withinSpeed_rest (disableLane .driveFault s.lanes[l]))
      (k.disable _ .driveFault _ (h.lane l))
    have present : (disableLane .driveFault s.lanes[l]).present = true := by
      rw [disableLane, apply_ite LaneRec.present, ite_self]
      exact (missFaults_iff.mp hm).1
    rw [commitLane_inactive present off] at rests ⊢
    exact rests
  · refine k.commit _ _ _ _ scale ?_ (h.lane l)
    have cand : (s.candidates f)[l] = if s.lanes[l].stepped then f l else restStep s.lanes[l] := by
      rw [State.candidates, Fin.getElem_fin, Vector.getElem_ofFn]
    rw [cand]
    split
    · exact hf l
    · exact withinSpeed_rest _

end LanesHave

section Guard

variable {R : RigLane → LaneRec → Prop} {S : RigRecord → Prop}

theorem keepsTakes_lanesHave : KeepsTakes (LanesHave R S) where
  raise _ _ _ h := h.same rfl rfl rfl
  mem _ _ hm h := h.of_eq rfl rfl hm
  recorder _ _ _ h := h.same rfl rfl rfl

theorem keepsPlay_lanesHave : KeepsPlay (LanesHave R S) where
  raise _ _ _ h := h.same rfl rfl rfl
  play _ _ _ h := h.same rfl rfl rfl
  leave := (keepsGrants_of keepsTakes_lanesHave.toKeepsEvents (fun _ _ h => h.same rfl rfl rfl)
    fun _ _ h => h.same rfl rfl rfl).leave
  contexts _ h := h.same rfl rfl rfl
  dropPlay s h := h.of_eq rfl rfl (rigKept_dropRead _ s.mem)

theorem keepsStops_lanesHave : KeepsStops (LanesHave R S) where
  raise _ _ _ h := h.same rfl rfl rfl
  recordEnds o _ := keepsTakes_lanesHave.recordEnds o
  endPlayback o _ := keepsPlay_lanesHave.endPlayback o
  safety _ _ _ h := h.same rfl rfl rfl
  power := setPower_survives keepsTakes_lanesHave.toKeepsEvents (fun _ _ h => h.same rfl rfl rfl) fun _ _ h => h.same rfl rfl rfl

theorem keepsDrives_lanesHave (k : KeepsLane R S) : KeepsDrives (LanesHave R S) where
  channels _ _ _ h := h.same rfl rfl rfl
  driveCause := driveCause_keeps
    (fun why l s h => LanesHave.same (s := s.setLane l (disableLane why)) (h.setLane (k.disable _ why _ (h.lane l))) rfl rfl rfl)
    fun cs _ => keepsStops_lanesHave.causeEvents cs
  settled l count _ hp h := h.setLane (k.settle _ count _ hp (h.lane l))

/-- R82: the write of the rig record takes the record as it stands. -/
theorem startReserved_lanesHave (k : KeepsLane R S) (s : State) (h : LanesHave R S s) : LanesHave R S (startReserved s) := by
  unfold startReserved
  split
  · exact h
  · dsimp only
    split
    · refine LanesHave.setOp ?_ fun r hr => by cases hr
      exact h.of_eq rfl rfl (.same rfl rfl)
    · refine LanesHave.setOp ?_ fun r hr => by cases hr
      exact h.of_eq rfl rfl (.same rfl rfl)
    · refine LanesHave.setOp (h.of_eq ?_ ?_ ?_) fun r hr => ?_
      · rfl
      · rfl
      · exact .same rfl rfl
      obtain rfl := ReservedWrite.rig.inj (ArrayOp.reserved.inj hr)
      exact k.record _ _ h.lane _

theorem reservedDone_lanesHave (ok : Bool) (s : State) (h : LanesHave R S s) : LanesHave R S (reservedDone ok s) := by
  unfold reservedDone
  split
  · next w hw =>
    have stored : ∀ y r, (storeContent w y).rig = some r → (∀ r, y.rig = some r → S r) → S r := by
      intro y r hr hy
      cases w with
      | dir => exact hy r hr
      | profile => exact hy r hr
      | rig c => exact Option.some.inj hr ▸ h.writing c hw
    have ended : ∀ m : TakeMemory, m.op = none → (∀ r, m.stored.rig = some r → S r) → LanesHave R S (s.setMem m) :=
      fun m ho hs => ⟨h.lane, hs, fun r hr => by rw [State.setMem_mem, ho] at hr; cases hr⟩
    dsimp only
    have done : LanesHave R S (if ok = true then (freeArray s).setMem
        { (freeArray s).mem with stored := storeContent w (freeArray s).mem.stored }
        else (freeArray s).setMem { (freeArray s).mem with programFail := true }) := by
      split
      · exact ended _ rfl fun r hr => stored _ r hr h.stored
      · exact ended _ rfl h.stored
    generalize (if ok = true then _ else _ : State) = u at done
    unfold writeEnds
    split
    · exact done
    · exact done.same rfl rfl rfl
    · dsimp only
      split
      · exact done.of_eq rfl rfl (.same rfl rfl)
      · exact done.of_eq rfl rfl (.same rfl rfl)
  · exact h

theorem enterRun_lanesHave (k : KeepsLane R S) (party : Party) (s : State) (h : LanesHave R S s) :
    LanesHave R S (enterRun party s) := by
  have frame := enterRun_frame party s
  refine ⟨fun l => ?_, ?_, ?_⟩
  · rw [frame.rig, frame.lanes, released_lanes, State.reloadedLanes, mapAll_get]
    exact k.reload _ _ _ _ (h.lane l)
  · rw [frame.mem]
    exact h.stored
  · rw [frame.mem]
    exact h.writing

theorem unpark_lanesHave (k : KeepsLane R S) (s : State) (h : LanesHave R S s) : LanesHave R S (unpark s) := by
  have lanes : LanesHave R S (s.setLanes (mapAll s.lanes fun l x => unparkLane s.rig.record.lanes[l] s.drives.channels[l] x)) := by
    refine h.setLanes fun l => ?_
    rw [mapAll_get]
    exact k.unpark _ _ _ (h.lane l)
  have caused := fun v => keepsStops_lanesHave.causeEvents (s.failingLanes.map CauseKind.driveFault)
    (lanes.setDrives v)
  unfold unpark
  refine LanesHave.same (s := match s.safety.stop with | .run => _ | .stopping => _ | .stopped => _ | .releasing => _) ?_ rfl rfl rfl
  split
  · exact caused _
  · exact (caused _).same rfl rfl rfl
  · exact keepsStops_lanesHave.power _ _ (caused _)
  · exact keepsStops_lanesHave.power _ _ (caused _)

theorem keepsGuard_lanesHave (k : KeepsLane R S) : KeepsGuard (LanesHave R S) where
  ports _ _ h := h.same rfl rfl rfl
  tb _ _ h := h.same rfl rfl rfl
  grants _ _ h := h.same rfl rfl rfl
  nextArrival _ _ h := h.same rfl rfl rfl
  lens _ _ h := h.same rfl rfl rfl
  recorder _ _ h := h.same rfl rfl rfl
  mem _ _ hm h := h.of_eq rfl rfl hm
  reserve := startReserved_lanesHave k
  reservedDone := reservedDone_lanesHave
  play _ _ _ h := h.same rfl rfl rfl
  begins _ _ _ h := h.same rfl rfl rfl
  monitor _ _ _ _ _ _ h := h.same rfl rfl rfl
  causes cs _ := keepsStops_lanesHave.causeEvents cs
  cancel _ _ _ := keepsStops_lanesHave.cancelRelease _
  openWindow rx _ _ := keepsStops_lanesHave.openWindow rx
  enterRun party s _ := enterRun_lanesHave k party s
  toKeepsDrives := keepsDrives_lanesHave k
  parked s h := by
    have lanes : LanesHave R S (s.setLanes (mapAll s.lanes fun _ x => parkLane x)) := by
      refine h.setLanes fun l => ?_
      rw [mapAll_get]
      exact k.park _ _ (h.lane l)
    exact lanes.same rfl rfl rfl
  unpark := unpark_lanesHave k
  shaped l a s hv h := h.setLane (k.shape _ a _ hv (h.lane l))
  limited l lo hi s hp hlo h := h.setLane (k.limits _ lo hi _ hp hlo (h.lane l))
  rigStore _ _ hr h := h.of_eq rfl (by rw [State.setRig_rig, hr]) (.same rfl rfl)
  rigWritten es identity set s hv hb h := by
    refine ⟨fun l => ?_, h.stored, h.writing⟩
    change R (mapAll (applyEntries es s.rig.record.lanes) fun _ x => clampDefaults x)[l]
      (mapAll s.lanes fun l x => rigAdjust (mapAll (applyEntries es s.rig.record.lanes) fun _ x => clampDefaults x)[l] x)[l]
    rw [mapAll_get, mapAll_get, mapAll_get]
    exact k.rig _ _ _ (applyEntries_lane hv l) (hb l) (h.lane l)

theorem powerUp_lanesHave (k : KeepsLane R S) (lines : LineStates) (d : Damage) (s : State) (h : LanesHave R S s) :
    LanesHave R S (powerUp lines d s) := by
  have stored : ∀ r, (readReserved d s).rig = some r → S r := by
    intro r hr
    unfold readReserved at hr
    dsimp only at hr
    split at hr
    · cases hr
    · exact h.stored r hr
  have read : S (readRig (readReserved d s).rig).record := by
    unfold readRig
    split
    · next r hr => exact stored r hr
    · exact k.blank
  have rig : (powerUp lines d s).rig = readRig (readReserved d s).rig := by rw [powerUp]
  have lane : ∀ l : Lane, (powerUp lines d s).lanes[l] = powerLane (readRig (readReserved d s).rig).record l := fun l => by
    rw [powerUp, Fin.getElem_fin, Vector.getElem_ofFn]
  have mem : (powerUp lines d s).mem = scanMemory lines (readReserved d s) s.mem := by rw [powerUp]
  refine ⟨fun l => by rw [rig, lane]; exact k.power _ _ read, ?_, ?_⟩
  · rw [mem, scanMemory]
    exact stored
  · rw [mem, scanMemory]
    exact nofun

/-- A property of every lane with its rig record is kept by every step. -/
theorem step_lanesHave (k : KeepsLane R S) {s t : State} (ht : step s = .next t) (h : LanesHave R S s) : LanesHave R S t := by
  have g := keepsGuard_lanesHave k
  have tick : ∀ s : State, LanesHave R S s → LanesHave R S (tickWork s) := fun s h =>
    g.tickWork (fun s _ h => h.commit k (withinSpeed_run s)) (fun s _ h => h.commit k fun l => withinSpeed_stop _)
      (fun s h => h.commit k fun l => withinSpeed_rest _) (fun _ => keepsStops_lanesHave.stoppedTest) h
  exact (g.commands tick (powerUp_lanesHave k) fun _ _ h => h.same rfl rfl rfl).step ht (fun _ h => h.same rfl rfl rfl) h

end Guard

end Sys2Proof.Machine
end

section
/-! PROOFS. The five promises on the lane records (O5), each as a property of a lane with its rig record. -/

namespace Sys2Proof.Machine

open Sys2Proof

/-! ### What each writer of a lane leaves -/

theorem disableLane_cases (why : DisableReason) (x : LaneRec) :
    disableLane why x = x ∨ disableLane why x = { x with condition := .disabled why, v := 0 } := by
  unfold disableLane
  split
  · exact .inr rfl
  · exact .inl rfl

/-- R153: a lane is reloaded at rest, or stays as it is. -/
theorem releaseReload_cases (off : Bool) (c : Channel) (x : LaneRec) :
    releaseReload off c x = x ∨ (x.present = true ∧ releaseReload off c x = reloadLane c.latestCount x) := by
  unfold releaseReload
  split
  · exact .inl rfl
  · next hp =>
    have hp : x.present = true := by simpa using hp
    split
    · split
      · exact .inr ⟨hp, rfl⟩
      · exact .inl rfl
    · split
      · exact .inr ⟨hp, rfl⟩
      · exact .inl rfl
    · exact .inl rfl

theorem parkLane_cases (x : LaneRec) :
    parkLane x = x ∨ (x.present = true ∧ parkLane x = { x with condition := .parked, v := 0 }) := by
  unfold parkLane
  split
  · next hp => exact .inr ⟨hp, rfl⟩
  · exact .inl rfl

/-- R164: a lane that is unparked starts from the rig record at rest, and may be disabled. -/
theorem unparkLane_cases (r : RigLane) (c : Channel) (x : LaneRec) :
    unparkLane r c x = x ∨ (x.present = true ∧ ∃ condition, unparkLane r c x =
      { reloadLane c.latestCount (startLane r x) with condition := condition }) := by
  unfold unparkLane
  split
  · exact .inl rfl
  · next hp =>
    refine .inr ⟨by simpa using hp, ?_⟩
    dsimp only
    split
    · exact ⟨_, rfl⟩
    · exact ⟨_, rfl⟩

theorem rigAdjust_absent {r : RigLane} {x : LaneRec} (hp : x.present = false) : rigAdjust r x = x := by
  rw [rigAdjust, hp, if_pos (by decide)]

theorem rigAdjust_present {r : RigLane} {x : LaneRec} (hp : x.present = true) : rigAdjust r x = { x with
    softMin := clampInt r.hardMin r.hardMax x.softMin, softMax := clampInt r.hardMin r.hardMax x.softMax,
    vmax := min x.vmax r.vmaxCeil, a := min x.a r.aCeil, astop := max (max x.astop r.astopFloor) (min x.a r.aCeil),
    followLimit := min x.followLimit r.followCeil } := by
  rw [rigAdjust, hp, if_neg (by decide)]

theorem powerLane_cases (r : RigRecord) (l : Lane) : powerLane r l = LaneRec.reset ∨
    powerLane r l = { startLane r.lanes[l] LaneRec.reset with present := true } := by
  unfold powerLane
  split
  · exact .inr rfl
  · exact .inl rfl

/-- R3, R16: a lane as a commit leaves it: its record, an ACTIVE lane's candidate, or at rest. -/
theorem commitLane_cases (e : Nat) (c : Candidate) (x : LaneRec) : (x.present = false ∧ commitLane e c x = x) ∨
    (x.present = true ∧ x.condition = .active ∧ commitLane e c x = { x with
      p := c.p, v := c.v, t := c.target.getD x.t, sEff := e, limitClip := c.clip.isSome, capped := cappedFlag e c.capExceeded }) ∨
    (x.present = true ∧ commitLane e c x = { x with v := 0, sEff := e, limitClip := false, capped := false }) := by
  by_cases hp : x.present = true
  · by_cases ha : x.condition = .active
    · exact .inr (.inl ⟨hp, ha, commitLane_active hp ha e c⟩)
    · exact .inr (.inr ⟨hp, commitLane_inactive hp ha e c⟩)
  · exact .inl ⟨Bool.not_eq_true _ |>.mp hp, commitLane_absent (Bool.not_eq_true _ |>.mp hp) e c⟩

/-! ### The five properties -/

/-- R13. -/
theorem keepsLane_speed : KeepsLane (fun _ x => mag x.v ≤ x.vmax) fun _ => True where
  record _ _ _ _ := trivial
  commit _ x e c _ hc h := by
    rcases commitLane_cases e c x with ⟨-, hx⟩ | ⟨-, -, hx⟩ | ⟨-, hx⟩ <;> rw [hx]
    · exact h
    · exact hc h
    · exact Nat.zero_le _
  disable _ why x h := by
    rcases disableLane_cases why x with hx | hx <;> rw [hx]
    · exact h
    · exact Nat.zero_le _
  settle _ _ _ _ _ := Nat.zero_le _
  reload _ off c x h := by
    rcases releaseReload_cases off c x with hx | ⟨-, hx⟩ <;> rw [hx]
    · exact h
    · exact Nat.zero_le _
  park _ x h := by
    rcases parkLane_cases x with hx | ⟨-, hx⟩ <;> rw [hx]
    · exact h
    · exact Nat.zero_le _
  unpark r c x h := by
    rcases unparkLane_cases r c x with hx | ⟨-, _, hx⟩ <;> rw [hx]
    · exact h
    · exact Nat.zero_le _
  shape _ _ _ hv _ := hv
  limits _ _ _ _ _ _ h := h
  rig _ raw x _ hb h := by
    cases hp : x.present with
    | false => rwa [rigAdjust_absent hp]
    | true =>
      have present : (rigAdjust (clampDefaults raw) x).present = true := by rw [rigAdjust_present hp]; exact hp
      rw [rigBlocked, present, Bool.true_and, Bool.or_eq_false_iff] at hb
      have slow : ¬ (rigAdjust (clampDefaults raw) x).vmax < mag (rigAdjust (clampDefaults raw) x).v := of_decide_eq_false hb.2
      exact Nat.le_of_not_lt slow
  power r l _ := by rcases powerLane_cases r l with hx | hx <;> rw [hx] <;> exact Nat.zero_le _
  blank := trivial

/-- R1, R21. -/
theorem keepsLane_astop : KeepsLane (fun _ x => x.a ≤ x.astop) fun _ => True where
  record _ _ _ _ := trivial
  commit _ x e c _ _ h := by rcases commitLane_cases e c x with ⟨-, hx⟩ | ⟨-, -, hx⟩ | ⟨-, hx⟩ <;> rw [hx] <;> exact h
  disable _ why x h := by rcases disableLane_cases why x with hx | hx <;> rw [hx] <;> exact h
  settle _ _ _ _ h := h
  reload _ off c x h := by rcases releaseReload_cases off c x with hx | ⟨-, hx⟩ <;> rw [hx] <;> exact h
  park _ x h := by rcases parkLane_cases x with hx | ⟨-, hx⟩ <;> rw [hx] <;> exact h
  unpark r c x h := by
    rcases unparkLane_cases r c x with hx | ⟨-, _, hx⟩ <;> rw [hx]
    · exact h
    · exact Nat.le_max_right _ _
  shape _ _ _ _ _ := Nat.le_max_right _ _
  limits _ _ _ _ _ _ h := h
  rig _ raw x _ _ h := by
    cases hp : x.present with
    | false => rwa [rigAdjust_absent hp]
    | true =>
      rw [rigAdjust_present hp]
      exact Nat.le_max_right _ _
  power r l _ := by
    rcases powerLane_cases r l with hx | hx <;> rw [hx]
    · exact Nat.le_refl _
    · exact Nat.le_max_right _ _
  blank := trivial

/-- R1, R9. -/
theorem keepsLane_scale : KeepsLane (fun _ x => x.sEff ≤ fullScale) fun _ => True where
  record _ _ _ _ := trivial
  commit _ x e c he _ h := by
    rcases commitLane_cases e c x with ⟨-, hx⟩ | ⟨-, -, hx⟩ | ⟨-, hx⟩ <;> rw [hx]
    · exact h
    · exact he
    · exact he
  disable _ why x h := by rcases disableLane_cases why x with hx | hx <;> rw [hx] <;> exact h
  settle _ _ _ _ h := h
  reload _ off c x h := by rcases releaseReload_cases off c x with hx | ⟨-, hx⟩ <;> rw [hx] <;> exact h
  park _ x h := by rcases parkLane_cases x with hx | ⟨-, hx⟩ <;> rw [hx] <;> exact h
  unpark r c x h := by
    rcases unparkLane_cases r c x with hx | ⟨-, _, hx⟩ <;> rw [hx]
    · exact h
    · exact Nat.zero_le _
  shape _ _ _ _ h := h
  limits _ _ _ _ _ _ h := h
  rig _ raw x _ _ h := by
    cases hp : x.present with
    | false => rwa [rigAdjust_absent hp]
    | true => rw [rigAdjust_present hp]; exact h
  power r l _ := by rcases powerLane_cases r l with hx | hx <;> rw [hx] <;> exact Nat.zero_le _
  blank := trivial

/-- The record of an absent lane (R1). -/
def LaneRec.zeroed (x : LaneRec) : Prop := x.present = false →
  x.p = 0 ∧ x.v = 0 ∧ x.t = 0 ∧ x.softMin = 0 ∧ x.softMax = 0 ∧ x.limitClip = false ∧ x.capped = false

/-- A present lane's record need not be zero. -/
theorem zeroed_of_present {x : LaneRec} (hp : x.present = true) : x.zeroed := fun ha => by rw [hp] at ha; cases ha

theorem keepsLane_absent : KeepsLane (fun _ x => x.zeroed) fun _ => True where
  record _ _ _ _ := trivial
  commit _ x e c _ _ h := by
    rcases commitLane_cases e c x with ⟨-, hx⟩ | ⟨hp, -, hx⟩ | ⟨hp, hx⟩ <;> rw [hx]
    · exact h
    · exact zeroed_of_present hp
    · exact zeroed_of_present hp
  disable _ why x h := by
    rcases disableLane_cases why x with hx | hx <;> rw [hx]
    · exact h
    · intro ha
      obtain ⟨p, -, t, lo, hi, clip, capped⟩ := h ha
      exact ⟨p, rfl, t, lo, hi, clip, capped⟩
  settle _ _ _ hp _ := zeroed_of_present hp
  reload _ off c x h := by
    rcases releaseReload_cases off c x with hx | ⟨hp, hx⟩ <;> rw [hx]
    · exact h
    · exact zeroed_of_present hp
  park _ x h := by
    rcases parkLane_cases x with hx | ⟨hp, hx⟩ <;> rw [hx]
    · exact h
    · exact zeroed_of_present hp
  unpark r c x h := by
    rcases unparkLane_cases r c x with hx | ⟨hp, _, hx⟩ <;> rw [hx]
    · exact h
    · exact zeroed_of_present hp
  shape _ _ _ _ h := h
  limits _ _ _ _ hp _ _ := zeroed_of_present hp
  rig _ raw x _ _ h := by
    cases hp : x.present with
    | false => rwa [rigAdjust_absent hp]
    | true => rw [rigAdjust_present hp]; exact zeroed_of_present hp
  power r l _ := by
    rcases powerLane_cases r l with hx | hx <;> rw [hx]
    · exact fun _ => ⟨rfl, rfl, rfl, rfl, rfl, rfl, rfl⟩
    · exact zeroed_of_present rfl
  blank := trivial

/-- A lane's hard limits are ordered, and a present lane's soft limits lie within them, ordered (R14, R165). -/
structure LimitsWithin (r : RigLane) (x : LaneRec) : Prop where
  hard : r.hardMin ≤ r.hardMax
  soft : x.present = true → r.hardMin ≤ x.softMin ∧ x.softMin ≤ x.softMax ∧ x.softMax ≤ r.hardMax

theorem clampInt_between {lo hi : Int} (h : lo ≤ hi) {a b : Int} (hab : a ≤ b) :
    lo ≤ clampInt lo hi a ∧ clampInt lo hi a ≤ clampInt lo hi b ∧ clampInt lo hi b ≤ hi := by
  unfold clampInt
  omega

theorem LimitsWithin.of_eq {r : RigLane} {x y : LaneRec} (h : LimitsWithin r x) (hp : y.present = x.present)
    (hlo : y.softMin = x.softMin) (hhi : y.softMax = x.softMax) : LimitsWithin r y :=
  ⟨h.hard, by rw [hp, hlo, hhi]; exact h.soft⟩

theorem keepsLane_limits : KeepsLane LimitsWithin RigRecord.ordered where
  record _ _ h _ := fun l => (h l).hard
  commit _ x e c _ _ h := by
    obtain ⟨hp, -, hlo, hhi, -⟩ := commitLane_keeps e c x
    exact h.of_eq hp hlo hhi
  disable _ why x h := by rcases disableLane_cases why x with hx | hx <;> rw [hx] <;> exact h.of_eq rfl rfl rfl
  settle _ _ _ _ h := h.of_eq rfl rfl rfl
  reload _ off c x h := by rcases releaseReload_cases off c x with hx | ⟨-, hx⟩ <;> rw [hx] <;> exact h.of_eq rfl rfl rfl
  park _ x h := by rcases parkLane_cases x with hx | ⟨-, hx⟩ <;> rw [hx] <;> exact h.of_eq rfl rfl rfl
  unpark r c x h := by
    rcases unparkLane_cases r c x with hx | ⟨-, _, hx⟩ <;> rw [hx]
    · exact h
    · exact ⟨h.hard, fun _ => ⟨Int.le_refl _, h.hard, Int.le_refl _⟩⟩
  shape _ _ _ _ h := h.of_eq rfl rfl rfl
  limits _ _ _ _ _ hlo h := ⟨h.hard, fun _ => clampInt_between h.hard hlo⟩
  rig r raw x hr _ h := by
    have hard : (clampDefaults raw).hardMin ≤ (clampDefaults raw).hardMax := by
      rcases hr with rfl | hr
      · exact h.hard
      · simp only [rigLaneValid, Bool.and_eq_true, decide_eq_true_eq] at hr
        exact hr.1.1.1.1.1.1.1.1.1.1.2
    refine ⟨hard, fun hp => ?_⟩
    have hp : x.present = true := by
      cases hx : x.present with
      | false => rw [rigAdjust_absent hx, hx] at hp; cases hp
      | true => rfl
    rw [rigAdjust_present hp]
    exact clampInt_between hard (h.soft hp).2.1
  power r l hs := by
    refine ⟨hs l, fun hp => ?_⟩
    rcases powerLane_cases r l with hx | hx
    · rw [hx] at hp
      cases hp
    · rw [hx]
      exact ⟨Int.le_refl _, hs l, Int.le_refl _⟩
  blank := fun l => by
    rw [RigRecord.blank, Fin.getElem_fin, Vector.getElem_replicate]
    exact Int.le_refl _

theorem step_lane {R : LaneRec → Prop} (k : KeepsLane (fun _ => R) fun _ => True) {s t : State} (ht : step s = .next t)
    (h : ∀ l : Lane, R s.lanes[l]) : ∀ l : Lane, R t.lanes[l] :=
  (step_lanesHave k ht ⟨h, fun _ _ => trivial, fun _ _ => trivial⟩).lane

theorem limitsOrdered_iff (s : State) : LimitsOrdered s ↔ LanesHave LimitsWithin RigRecord.ordered s :=
  ⟨fun ⟨hard, stored, writing, soft⟩ => ⟨fun l => ⟨hard l, soft l⟩, stored, writing⟩,
    fun h => ⟨fun l => (h.lane l).hard, h.stored, h.writing, fun l => (h.lane l).soft⟩⟩

/-- Settles O5: each promise is one of every lane, and each writer of a lane keeps it. -/
theorem everyStepKeepsTheSpeedBound : Obligations.EveryStepKeepsTheSpeedBound := by
  unfold Obligations.EveryStepKeepsTheSpeedBound
  intro s t ht
  exact ⟨step_lane keepsLane_speed ht, step_lane keepsLane_astop ht, step_lane keepsLane_scale ht,
    step_lane keepsLane_absent ht, fun h => (limitsOrdered_iff t).mpr (step_lanesHave keepsLane_limits ht ((limitsOrdered_iff s).mp h))⟩

end Sys2Proof.Machine
end

section
/-! PROOFS. Lanes at rest (O6, R3, R18): a lane that is not stepped does not move, and none does in STOPPED and RELEASING. -/

namespace Sys2Proof.Machine

open Sys2Proof

/-- The lanes rest as the stop state asks, and the release record exists exactly in RELEASING. -/
structure Resting (x : Safety) (v : Vector LaneRec 12) : Prop where
  release : x.release.isSome = true ↔ x.stop = .releasing
  still : ∀ l : Lane, v[l].stepped = false → v[l].v = 0
  rest : x.stop = .stopped ∨ x.stop = .releasing → ∀ l : Lane, v[l].v = 0

theorem resting_iff (s : State) : Resting s.safety s.lanes ↔ ReleaseWf s ∧ Rest s :=
  ⟨fun h => ⟨h.release, h.still, h.rest⟩, fun ⟨hr, hs, hx⟩ => ⟨hr, hs, hx⟩⟩

/-- The lane moves no more than before, and not at all where it is stepped no more. -/
def NoFaster (x y : LaneRec) : Prop := y.v = 0 ∨ (y.v = x.v ∧ (y.stepped = false → x.stepped = false))

theorem NoFaster.refl (x : LaneRec) : NoFaster x x := .inr ⟨rfl, id⟩

namespace Resting

variable {x y : Safety} {v w : Vector LaneRec 12}

theorem lanes (h : Resting x v) (hw : ∀ l : Lane, NoFaster v[l] w[l]) : Resting x w := by
  refine ⟨h.release, fun l hl => ?_, fun hs l => ?_⟩
  · rcases hw l with e | ⟨e, off⟩
    · exact e
    · exact e.trans (h.still l (off hl))
  · rcases hw l with e | ⟨e, -⟩
    · exact e
    · exact e.trans (h.rest hs l)

theorem setLane (h : Resting x v) {l : Lane} {f : LaneRec → LaneRec} (hf : NoFaster v[l] (f v[l])) :
    Resting x (updAt v l f) := by
  refine h.lanes fun i => ?_
  rw [updAt_get]
  split
  · next e => subst e; exact hf
  · exact .refl _

theorem monitor (h : Resting x v) (hs : y.stop = x.stop) (hr : y.release = x.release) : Resting y v :=
  ⟨by rw [hr, hs]; exact h.release, h.still, by rw [hs]; exact h.rest⟩

/-- R145: a cause takes RUN to STOPPING and RELEASING to STOPPED. -/
theorem after (h : Resting x v) (f t : Nat) (ks : List CauseKind) : Resting (safetyAfter f t ks x) v := by
  cases hs : x.stop with
  | run =>
    have none : x.release.isSome ≠ true := fun hr => by have := h.release.mp hr; rw [hs] at this; cases this
    rw [safetyAfter_run f t ks hs]
    exact ⟨by simpa using none, h.still, by simp⟩
  | stopping =>
    rw [safetyAfter_stopping f t ks hs]
    exact h.monitor rfl rfl
  | stopped =>
    rw [safetyAfter_stopped f t ks hs]
    exact h.monitor rfl rfl
  | releasing =>
    rw [safetyAfter_releasing f t ks hs]
    exact ⟨by simp, h.still, fun _ => h.rest (.inr hs)⟩

end Resting

theorem causeEvents_resting (ks : List CauseKind) (s : State) (h : Resting s.safety s.lanes) :
    Resting (causeEvents ks s).safety (causeEvents ks s).lanes := by
  rw [(causeEvents_frame ks s).lanes]
  by_cases hk : ks = []
  · subst hk
    exact h
  · rw [causeEvents_safety hk]
    exact h.after _ _ _

theorem setPower_resting (on : Bool) (s : State) (h : Resting s.safety s.lanes) :
    Resting (setPower on s).safety (setPower on s).lanes := by
  rw [setPower_safety, (setPower_keeps on s).1]
  exact h.monitor rfl rfl

theorem cancelRelease_resting {why : StopReason} {s : State} (h : Resting s.safety s.lanes)
    (hr : s.safety.stop = .releasing ∨ s.safety.release.isSome = true) :
    Resting (cancelRelease why s).safety (cancelRelease why s).lanes := by
  have frame := cancelRelease_frame why s
  rw [frame.safety, frame.lanes]
  exact ⟨by simp, h.still, fun _ => h.rest (.inr (hr.elim id h.release.mp))⟩

theorem openWindow_resting (rx : Rx) {s : State} (hs : s.safety.stop = .stopped) (h : Resting s.safety s.lanes) :
    Resting (openWindow rx s).safety (openWindow rx s).lanes := by
  have frame := openWindow_frame rx s
  rw [frame.safety, frame.lanes]
  exact ⟨by simp, h.still, fun _ => h.rest (.inl hs)⟩

theorem noFaster_reload (off : Bool) (c : Channel) (x : LaneRec) : NoFaster x (releaseReload off c x) := by
  rcases releaseReload_cases off c x with hx | ⟨-, hx⟩ <;> rw [hx]
  · exact .refl x
  · exact .inl rfl

theorem noFaster_park (x : LaneRec) : NoFaster x (parkLane x) := by
  rcases parkLane_cases x with hx | ⟨-, hx⟩ <;> rw [hx]
  · exact .refl x
  · exact .inl rfl

theorem noFaster_unpark (r : RigLane) (c : Channel) (x : LaneRec) : NoFaster x (unparkLane r c x) := by
  rcases unparkLane_cases r c x with hx | ⟨-, _, hx⟩ <;> rw [hx]
  · exact .refl x
  · exact .inl rfl

theorem noFaster_disable (why : DisableReason) (x : LaneRec) : NoFaster x (disableLane why x) := by
  rcases disableLane_cases why x with hx | hx <;> rw [hx]
  · exact .refl x
  · exact .inl rfl

theorem noFaster_rig (r : RigLane) (x : LaneRec) : NoFaster x (rigAdjust r x) := by
  cases hp : x.present with
  | false => rw [rigAdjust_absent hp]; exact .refl x
  | true => rw [rigAdjust_present hp]; exact .inr ⟨rfl, id⟩

theorem enterRun_resting (party : Party) {s : State} (hs : s.safety.stop = .releasing) (h : Resting s.safety s.lanes) :
    Resting (enterRun party s).safety (enterRun party s).lanes := by
  have frame := enterRun_frame party s
  rw [frame.safety, frame.lanes, released_safety, released_lanes]
  refine ⟨by simp, fun l _ => ?_, by simp⟩
  rw [State.reloadedLanes, mapAll_get]
  rcases noFaster_reload (!s.safety.drivePower) s.drives.channels[l] s.lanes[l] with e | ⟨e, -⟩
  · exact e
  · exact e.trans (h.rest (.inr hs) l)

theorem stoppedTest_resting (s : State) (h : Resting s.safety s.lanes) :
    Resting (stoppedTest s).safety (stoppedTest s).lanes := by
  rw [(keepsStops_stopFrame s).stoppedTest (.refl s) |>.lanes]
  by_cases hr : s.safety.stop = .stopping ∧ s.atRest = true
  · obtain ⟨hs, rests⟩ := hr
    have none : s.safety.release.isSome ≠ true := fun hr => by have := h.release.mp hr; rw [hs] at this; cases this
    rw [(stoppedTest_rests hs rests).1]
    refine ⟨by simpa [safetyStopped] using none, h.still, fun _ l => ?_⟩
    by_cases hl : s.lanes[l].stepped = true
    · rw [LaneRec.stepped, Bool.and_eq_true, decide_eq_true_eq] at hl
      exact (atRest_iff s).mp rests l hl.1 hl.2
    · exact h.still l (Bool.not_eq_true _ |>.mp hl)
  · rw [stoppedTest_moving]
    · exact h
    · by_cases hs : s.safety.stop = .stopping
      · exact .inr (Bool.not_eq_true _ |>.mp fun rests => hr ⟨hs, rests⟩)
      · exact .inl hs

/-- R3, R16: a lane as a tick commits it: stepped, or at rest; and at rest in any case where it takes the rest step. -/
theorem commitLanes_still {s : State} (h : ∀ l : Lane, s.lanes[l].stepped = false → s.lanes[l].v = 0) (f : Lane → Candidate)
    (l : Lane) : ((commitLanes (s.candidates f) s).lanes[l].stepped = false → (commitLanes (s.candidates f) s).lanes[l].v = 0) ∧
      ((f l).v = 0 → (commitLanes (s.candidates f) s).lanes[l].v = 0) := by
  have taken : ((s.candidates f)[l].v = (f l).v) ∨ (s.candidates f)[l].v = 0 := by
    have cand : (s.candidates f)[l] = if s.lanes[l].stepped then f l else restStep s.lanes[l] := by
      rw [State.candidates, Fin.getElem_fin, Vector.getElem_ofFn]
    rw [cand]
    split
    · exact .inl rfl
    · exact .inr rfl
  rw [commitLanes_lane]
  generalize hy : (if s.missFaults l = true then disableLane .driveFault s.lanes[l] else s.lanes[l]) = y
  have absent : y.present = false → y.v = 0 := by
    intro hp
    have still : s.lanes[l].present = false → s.lanes[l].v = 0 := fun hx => h l (by rw [LaneRec.stepped, hx, Bool.false_and])
    rw [← hy] at hp ⊢
    split at hp
    · rcases disableLane_cases .driveFault s.lanes[l] with hx | hx
      · rw [hx] at hp
        rw [if_pos ‹_›, hx]
        exact still hp
      · rw [if_pos ‹_›, hx]
    · rw [if_neg ‹_›]
      exact still hp
  rcases commitLane_cases (s.effScale l) (s.candidates f)[l] y with ⟨hp, hx⟩ | ⟨hp, ha, hx⟩ | ⟨-, hx⟩ <;> rw [hx]
  · exact ⟨fun _ => absent hp, fun _ => absent hp⟩
  · refine ⟨fun hs => ?_, fun hv => taken.elim (·.trans hv) id⟩
    simp [LaneRec.stepped, hp, ha] at hs
  · exact ⟨fun _ => rfl, fun _ => rfl⟩

theorem unpark_resting (s : State) (h : Resting s.safety s.lanes) : Resting (unpark s).safety (unpark s).lanes := by
  have lanes : Resting s.safety (mapAll s.lanes fun l x => unparkLane s.rig.record.lanes[l] s.drives.channels[l] x) :=
    h.lanes fun l => by rw [mapAll_get]; exact noFaster_unpark _ _ _
  have caused := fun v => causeEvents_resting (s.failingLanes.map CauseKind.driveFault)
    ((s.setLanes (mapAll s.lanes fun l x => unparkLane s.rig.record.lanes[l] s.drives.channels[l] x)).setDrives v) lanes
  unfold unpark refreshOutputs
  simp only [State.setDrives_safety, State.setDrives_lanes]
  split
  · exact caused _
  · exact (caused _).monitor rfl rfl
  · exact setPower_resting _ _ (caused _)
  · exact setPower_resting _ _ (caused _)

theorem keepsGuard_resting : KeepsGuard (fun s => Resting s.safety s.lanes) where
  ports _ _ h := h
  tb _ _ h := h
  grants _ _ h := h
  nextArrival _ _ h := h
  lens _ _ h := h
  recorder _ _ h := h
  mem _ _ _ h := h
  reserve := startReserved_keeps (fun _ _ h => h) (fun _ _ h => h) fun _ _ h => h
  reservedDone := reservedDone_keeps ⟨fun _ _ _ h => h⟩ (fun _ _ h => h) (fun _ _ h => h) fun _ _ h => h
  play _ _ _ h := h
  begins _ _ _ h := h
  monitor _ _ hs _ hr _ h := h.monitor hs hr
  causes := causeEvents_resting
  cancel _ _ hr h := cancelRelease_resting h hr
  openWindow rx _ hs h := openWindow_resting rx hs h
  enterRun party _ hs h := enterRun_resting party hs h
  toKeepsDrives :=
    { channels := fun _ _ _ h => h
      driveCause := driveCause_keeps (fun why _ _ h => h.setLane (noFaster_disable why _)) causeEvents_resting
      settled := fun _ _ _ _ h => h.setLane (.inl rfl) }
  parked s h := by
    have lanes : Resting s.safety (mapAll s.lanes fun _ x => parkLane x) :=
      h.lanes fun l => by rw [mapAll_get]; exact noFaster_park _
    exact lanes
  unpark := unpark_resting
  shaped l a s _ h := by
    have lanes : Resting s.safety (updAt s.lanes l fun _ => (shapeLane s.rig.record.lanes[l] a s.lanes[l]).1) :=
      h.setLane (.inr ⟨rfl, id⟩)
    exact lanes
  limited l lo hi s _ _ h := by
    have lanes : Resting s.safety (updAt s.lanes l fun x => { x with
        softMin := clampInt s.rig.record.lanes[l].hardMin s.rig.record.lanes[l].hardMax lo
        softMax := clampInt s.rig.record.lanes[l].hardMin s.rig.record.lanes[l].hardMax hi }) :=
      h.setLane (.inr ⟨rfl, id⟩)
    exact lanes
  rigStore _ _ _ h := h
  rigWritten es _ _ s _ _ h := by
    have lanes : Resting s.safety (mapAll s.lanes fun l x =>
        rigAdjust (mapAll (applyEntries es s.rig.record.lanes) fun _ x => clampDefaults x)[l] x) :=
      h.lanes fun l => by rw [mapAll_get]; exact noFaster_rig _ _
    exact lanes

theorem powerUp_resting (lines : LineStates) (d : Damage) (s : State) :
    Resting (powerUp lines d s).safety (powerUp lines d s).lanes := by
  have still : ∀ l : Lane, (powerUp lines d s).lanes[l].v = 0 := fun l => by
    rw [powerUp, Fin.getElem_fin, Vector.getElem_ofFn]
    rcases powerLane_cases (readRig (readReserved d s).rig).record l with hx | hx <;> rw [hx] <;> rfl
  rw [powerUp_safety]
  exact ⟨by simp [powerSafety, Safety.reset], fun l _ => still l, fun _ => still⟩

theorem tickWork_resting (s : State) (h : Resting s.safety s.lanes) : Resting (tickWork s).safety (tickWork s).lanes := by
  have moving : ∀ (t : State) f, t.safety.stop = .run ∨ t.safety.stop = .stopping → Resting t.safety t.lanes →
      Resting t.safety (commitLanes (t.candidates f) t).lanes := fun t f hs h =>
    ⟨h.release, fun l => (commitLanes_still h.still f l).1, fun hr => by
      rcases hs with hs | hs <;> rw [hs] at hr <;> rcases hr with hr | hr <;> cases hr⟩
  have rests : ∀ t : State, Resting t.safety t.lanes →
      Resting t.safety (commitLanes (t.candidates fun l => restStep t.lanes[l]) t).lanes := fun t h =>
    ⟨h.release, fun l => (commitLanes_still h.still _ l).1, fun _ l => (commitLanes_still h.still _ l).2 rfl⟩
  exact keepsGuard_resting.tickWork (fun t hs h => moving t _ (.inl hs) h) (fun t hs h => moving t _ hs h) rests
    stoppedTest_resting h

/-- Settles O6: what writes a lane rests it or leaves its velocity, and STOPPED is entered from rest alone. -/
theorem everyStepKeepsStoppedLanesAtRest : Obligations.EveryStepKeepsStoppedLanesAtRest := by
  unfold Obligations.EveryStepKeepsStoppedLanesAtRest
  intro s t hr hs ht
  have commands := keepsGuard_resting.commands tickWork_resting (fun lines d s _ => powerUp_resting lines d s) fun _ _ h => h
  exact ((resting_iff t).mp (commands.step ht (fun _ h => h) ((resting_iff s).mpr ⟨hr, hs⟩))).2

end Sys2Proof.Machine
end

section
/-! PROOFS. The drive outputs (O7, R149, R150, R159, R162): whatever changes drive power or a lane's condition refreshes
them, and a lane that a tick's miss disables loses them with its judgement at the end of the tick. -/

namespace Sys2Proof.Machine

open Sys2Proof

/-! ### Outputs that follow -/

/-- What the outputs are made of is the same in both states. -/
structure SameOutputs (s t : State) : Prop where
  power : t.safety.drivePower = s.safety.drivePower
  lane : ∀ l : Lane, t.lanes[l].present = s.lanes[l].present ∧ t.lanes[l].condition = s.lanes[l].condition
  channel : ∀ l : Lane, t.drives.channels[l].enable = s.drives.channels[l].enable ∧
    t.drives.channels[l].brake = s.drives.channels[l].brake

theorem SameOutputs.of_eq {s t : State} (hp : t.safety.drivePower = s.safety.drivePower) (hl : t.lanes = s.lanes)
    (hd : t.drives.channels = s.drives.channels) : SameOutputs s t :=
  ⟨hp, fun l => by rw [hl]; exact ⟨rfl, rfl⟩, fun l => by rw [hd]; exact ⟨rfl, rfl⟩⟩

theorem SameOutputs.outputsOn {s t : State} (h : SameOutputs s t) (l : Lane) : t.outputsOn l = s.outputsOn l := by
  obtain ⟨hp, hc⟩ := h.lane l
  rw [State.outputsOn, State.outputsOn, h.power, hp, hc]

theorem outputsFollow_of_same {s t : State} (h : SameOutputs s t) (hf : OutputsFollow s) : OutputsFollow t := by
  intro l
  obtain ⟨he, hb⟩ := h.channel l
  rw [he, hb, h.outputsOn]
  exact hf l

theorem outputsFollow_refresh (s : State) : OutputsFollow (refreshOutputs s) := refreshOutputs_follow s

theorem setPower_follow (on : Bool) (s : State) (h : OutputsFollow s) : OutputsFollow (setPower on s) := by
  unfold setPower
  split
  · exact h
  · exact outputsFollow_of_same (.of_eq rfl rfl rfl) (outputsFollow_refresh (s.setSafety { s.safety with drivePower := on }))

/-- A property of the lanes, drive power and the drives alone. -/
def OfOutputs (P : State → Prop) : Prop :=
  ∀ s t : State, t.lanes = s.lanes → t.safety.drivePower = s.safety.drivePower → t.drives = s.drives → P s → P t

theorem OfOutputs.takes {P : State → Prop} (h : OfOutputs P) : KeepsTakes P where
  raise _ _ s := h s _ rfl rfl rfl
  mem _ s _ := h s _ rfl rfl rfl
  recorder _ s _ := h s _ rfl rfl rfl

theorem OfOutputs.plays {P : State → Prop} (h : OfOutputs P) : KeepsPlay P where
  raise _ _ s := h s _ rfl rfl rfl
  play _ s _ := h s _ rfl rfl rfl
  leave := (keepsGrants_of h.takes.toKeepsEvents (fun _ s => h s _ rfl rfl rfl) fun _ s => h s _ rfl rfl rfl).leave
  contexts s := h s _ rfl rfl rfl
  dropPlay s := h s _ rfl rfl rfl

theorem OfOutputs.stops {P : State → Prop} (h : OfOutputs P) (power : ∀ on s, P s → P (setPower on s)) : KeepsStops P where
  raise _ _ s := h s _ rfl rfl rfl
  recordEnds o _ := h.takes.recordEnds o
  endPlayback o _ := h.plays.endPlayback o
  safety _ s hx := h s _ rfl hx rfl
  power := power

theorem ofOutputs_follow : OfOutputs OutputsFollow :=
  fun _ _ hl hp hd => outputsFollow_of_same (.of_eq hp hl (by rw [hd]))

theorem keepsStops_follow : KeepsStops OutputsFollow := ofOutputs_follow.stops setPower_follow

theorem driveCause_follow (why : DisableReason) (l : Lane) (s : State) : OutputsFollow (driveCause why l s) :=
  keepsStops_follow.causeEvents _ (outputsFollow_refresh (s.setLane l (disableLane why)))

theorem keepsDrives_follow : KeepsDrives OutputsFollow where
  channels v s hv := outputsFollow_of_same (s := s) (t := s.setDrives { s.drives with channels := v })
    ⟨rfl, fun _ => ⟨rfl, rfl⟩, hv⟩
  driveCause why l s _ := driveCause_follow why l s
  settled l count s _ := by
    refine outputsFollow_of_same (s := s) (t := s.setLane l (settleLane count)) ⟨rfl, fun i => ?_, fun _ => ⟨rfl, rfl⟩⟩
    rw [setLane_lane]
    split <;> exact ⟨rfl, rfl⟩

/-! ### The tick -/

/-- The outputs follow, or a judgement of this tick is due that makes them follow. -/
def FollowDue (s : State) : Prop := OutputsFollow s ∨ ∃ l, s.missRaises l

theorem missRaises_of_same {s t : State} {l : Lane} (hp : t.lanes[l].present = s.lanes[l].present)
    (hk : s.lanes[l].condition ≠ .parked → t.lanes[l].condition ≠ .parked)
    (hc : t.drives.channels[l].core = s.drives.channels[l].core) (h : s.missRaises l) : t.missRaises l := by
  obtain ⟨he, hm, hr, -⟩ := channel_of_core hc
  obtain ⟨present, isOpen, missed, unreported⟩ := missFaults_iff.mp h.1
  exact ⟨missFaults_iff.mpr ⟨hp.trans present, by rw [he]; exact isOpen, by rw [hm]; exact missed, hr.trans unreported⟩, hk h.2⟩

theorem ofOutputs_due : OfOutputs FollowDue := fun s t hl hp hd h => by
  rcases h with h | ⟨l, h⟩
  · exact .inl (ofOutputs_follow s t hl hp hd h)
  · exact .inr ⟨l, missRaises_of_same (by rw [hl]) (by rw [hl]; exact id) (by rw [hd]) h⟩

theorem setPower_due (on : Bool) (s : State) (h : FollowDue s) : FollowDue (setPower on s) := by
  rcases h with h | ⟨l, h⟩
  · exact .inl (setPower_follow on s h)
  · refine .inr ⟨l, missRaises_of_same (by rw [setPower_lanes]) (by rw [setPower_lanes]; exact id) ?_ h⟩
    exact (keepsStops_core s).power on s (fun _ => rfl) l

/-- R159: what a commit leaves: where the miss of the tick disables a lane, that lane's judgement is due. -/
theorem commitLanes_due (cs : Vector Candidate 12) (s : State) (h : FollowDue s) : FollowDue (commitLanes cs s) := by
  have drives : (commitLanes cs s).drives = s.drives := rfl
  have power : (commitLanes cs s).safety.drivePower = s.safety.drivePower := rfl
  have present : ∀ l : Lane, (commitLanes cs s).lanes[l].present = s.lanes[l].present := fun l => by
    rw [commitLanes_lane, (commitLane_keeps _ _ _).1, apply_ite LaneRec.present, disableLane, apply_ite LaneRec.present,
      ite_self, ite_self]
  have condition : ∀ l : Lane, (commitLanes cs s).lanes[l].condition =
      if s.missFaults l then (disableLane .driveFault s.lanes[l]).condition else s.lanes[l].condition := fun l => by
    rw [commitLanes_lane, (commitLane_keeps _ _ _).2.1, apply_ite LaneRec.condition]
  have raised : ∀ l, s.missRaises l → (commitLanes cs s).missRaises l := fun l hl => by
    refine missRaises_of_same (present l) (fun hk => ?_) (by rw [drives]) hl
    rw [condition]
    split
    · rcases disableLane_cases .driveFault s.lanes[l] with hx | hx <;> rw [hx]
      · exact hk
      · exact fun hc => by cases hc
    · exact hk
  by_cases hr : ∃ l, s.missRaises l
  · obtain ⟨l, hl⟩ := hr
    exact .inr ⟨l, raised l hl⟩
  · have follow : OutputsFollow s := h.resolve_right hr
    refine .inl (outputsFollow_of_same ⟨power, fun l => ⟨present l, ?_⟩, fun l => by rw [drives]; exact ⟨rfl, rfl⟩⟩ follow)
    rw [condition]
    split
    · next hm =>
      have parked : s.lanes[l].condition = .parked := Decidable.not_not.mp fun hk => hr ⟨l, hm, hk⟩
      rw [disableLane, if_neg (by rw [parked]; decide)]
    · rfl

theorem keepsStep_due : KeepsStep FollowDue where
  raise := ofOutputs_due.takes.raise
  playBefore _ := ofOutputs_due.plays.playBefore
  playAfter _ := ofOutputs_due.plays.playAfter
  commitRun s _ := commitLanes_due _ s
  commitStop s _ := commitLanes_due _ s
  commitRest s := commitLanes_due _ s
  writeBack cs s := ofOutputs_due s (writeBackAll cs s) rfl rfl rfl
  causes cs _ := (ofOutputs_due.stops setPower_due).causeEvents cs
  stoppedTest _ := (ofOutputs_due.stops setPower_due).stoppedTest

/-- R158, R159: once the open exchanges of the lanes are judged, the outputs follow. -/
theorem judged_follow (ls : List Lane) (s : State) (h : OutputsFollow s ∨ ∃ l ∈ ls, s.missRaises l) :
    OutputsFollow (forEach ls takeMissing s) := by
  induction ls generalizing s with
  | nil =>
    rcases h with h | ⟨_, hl, -⟩
    · exact h
    · cases hl
  | cons l ls ih =>
    rw [forEach_cons]
    refine ih (takeMissing l s) ?_
    rcases h with h | ⟨i, hi, raises⟩
    · exact .inl (keepsDrives_follow.takeMissing l h)
    · by_cases hl : s.missRaises l
      · rw [takeMissing_raises hl]
        exact .inl (driveCause_follow _ _ _)
      · have ne : i ≠ l := fun e => hl (e ▸ raises)
        have later : i ∈ ls := (List.mem_cons.mp hi).resolve_left ne
        refine .inr ⟨i, later, ?_⟩
        cases ho : s.exchangeOpen l with
        | false => rwa [takeMissing_closed ho]
        | true =>
          rw [takeMissing_counted ho hl]
          refine missRaises_of_same (s := s) (t := s.setChannel l missNoted) rfl id ?_ raises
          rw [setChannel_channel, if_neg (Ne.symm ne)]

theorem exchangeTick_follow (s : State) (h : FollowDue s) : OutputsFollow (exchangeTick s) := by
  refine keepsDrives_follow.exchangeAll (judged_follow allLanes s ?_)
  exact h.imp id fun ⟨l, hl⟩ => ⟨l, List.mem_finRange l, hl⟩

theorem tickWork_follow (s : State) (h : OutputsFollow s) : OutputsFollow (tickWork s) := by
  have stepped : FollowDue (playAfter (stoppedTest (laneStep (playBefore s)))) := keepsStep_due.step (.inl h)
  have evaluated : ∀ t, OutputsFollow t → OutputsFollow (evaluateZones t) := fun _ => keepsStops_follow.evaluateZones
  have telemetry : ∀ hs t, OutputsFollow t → OutputsFollow (formTelemetry hs t) := fun _ t => ofOutputs_follow t _ rfl rfl rfl
  unfold tickWork
  dsimp only
  split
  · exact evaluated _ (telemetry _ _ (exchangeTick_follow _ (ofOutputs_due.takes.composeSample stepped)))
  · exact evaluated _ (exchangeTick_follow _ stepped)

/-! ### Every command -/

theorem enterRun_follow (party : Party) (s : State) : OutputsFollow (enterRun party s) := by
  have frame := enterRun_frame party s
  refine ofOutputs_follow _ _ ?_ ?_ ?_ (outputsFollow_refresh
    (((s.setSafety { s.safety with causes := [], release := none }).setLanes s.reloadedLanes).setSafety
      { s.safety with causes := [], release := none, drivePower := true }))
  · exact frame.lanes
  · rw [frame.safety, released_safety]
    rfl
  · exact frame.drives

theorem keepsGuard_follow : KeepsGuard OutputsFollow where
  ports _ s := ofOutputs_follow s _ rfl rfl rfl
  tb _ s := ofOutputs_follow s _ rfl rfl rfl
  grants _ s := ofOutputs_follow s _ rfl rfl rfl
  nextArrival _ s := ofOutputs_follow s _ rfl rfl rfl
  lens _ s := ofOutputs_follow s _ rfl rfl rfl
  recorder _ s := ofOutputs_follow s _ rfl rfl rfl
  mem _ s _ := ofOutputs_follow s _ rfl rfl rfl
  reserve := startReserved_keeps (fun _ s => ofOutputs_follow s _ rfl rfl rfl) (fun _ s => ofOutputs_follow s _ rfl rfl rfl)
    fun _ s => ofOutputs_follow s _ rfl rfl rfl
  reservedDone := reservedDone_keeps ofOutputs_follow.takes.toKeepsEvents (fun _ s => ofOutputs_follow s _ rfl rfl rfl)
    (fun _ s => ofOutputs_follow s _ rfl rfl rfl) fun _ s => ofOutputs_follow s _ rfl rfl rfl
  play _ s _ := ofOutputs_follow s _ rfl rfl rfl
  begins _ s _ := ofOutputs_follow s _ rfl rfl rfl
  monitor _ s _ _ _ hp := ofOutputs_follow s _ rfl hp rfl
  causes cs _ := keepsStops_follow.causeEvents cs
  cancel _ _ _ := keepsStops_follow.cancelRelease _
  openWindow rx _ _ := keepsStops_follow.openWindow rx
  enterRun party s _ _ := enterRun_follow party s
  toKeepsDrives := keepsDrives_follow
  parked _ _ := outputsFollow_refresh _
  unpark _ _ := outputsFollow_refresh _
  shaped l a s _ := by
    refine outputsFollow_of_same (s := s)
      (t := s.setLane l fun _ => (shapeLane s.rig.record.lanes[l] a s.lanes[l]).1) ⟨rfl, fun i => ?_, fun _ => ⟨rfl, rfl⟩⟩
    rw [setLane_lane]
    split
    · next e => subst e; exact ⟨rfl, rfl⟩
    · exact ⟨rfl, rfl⟩
  limited l lo hi s _ _ := by
    refine outputsFollow_of_same (s := s) (t := s.setLane l fun x => { x with
        softMin := clampInt s.rig.record.lanes[l].hardMin s.rig.record.lanes[l].hardMax lo
        softMax := clampInt s.rig.record.lanes[l].hardMin s.rig.record.lanes[l].hardMax hi })
      ⟨rfl, fun i => ?_, fun _ => ⟨rfl, rfl⟩⟩
    rw [setLane_lane]
    split <;> exact ⟨rfl, rfl⟩
  rigStore _ s _ := ofOutputs_follow s _ rfl rfl rfl
  rigWritten es identity set s _ _ := by
    refine outputsFollow_of_same (s := s) (t := s.rigWritten es identity set) ⟨rfl, fun i => ?_, fun _ => ⟨rfl, rfl⟩⟩
    have lane : (s.rigWritten es identity set).lanes[i] =
        rigAdjust (mapAll (applyEntries es s.rig.record.lanes) fun _ x => clampDefaults x)[i] s.lanes[i] := by
      rw [State.rigWritten, State.setRig_lanes, State.setLanes_lanes, mapAll_get]
    rw [lane, rigAdjust]
    split <;> exact ⟨rfl, rfl⟩

theorem powerUp_follow (lines : LineStates) (d : Damage) (s : State) : OutputsFollow (powerUp lines d s) := by
  intro l
  have off : (powerUp lines d s).outputsOn l = false := by
    rw [State.outputsOn, powerUp_safety, powerSafety, Safety.reset, Bool.false_and, Bool.false_and]
  have channel : (powerUp lines d s).drives.channels[l] = Channel.reset := by
    rw [powerUp, DrivePort.reset, Fin.getElem_fin, Vector.getElem_replicate]
  rw [off, channel]
  exact ⟨rfl, rfl⟩

/-- Settles O7: the outputs are refreshed with every change of what they follow. -/
theorem everyStepKeepsTheOutputs : Obligations.EveryStepKeepsTheOutputs := by
  unfold Obligations.EveryStepKeepsTheOutputs
  intro s t h ht
  exact (keepsGuard_follow.commands tickWork_follow (fun lines d s _ => powerUp_follow lines d s)
    fun _ s => ofOutputs_follow s _ rfl rfl rfl).step ht (fun _ => ofOutputs_follow s _ rfl rfl rfl) h

end Sys2Proof.Machine
end

section
/-! PROOFS. The grant state of one lane (O11, R40, R42 to R47): who stands on it and at what level, and what each change of
it keeps. -/

namespace Sys2Proof.Machine

open Sys2Proof

/-! ### Who stands on a lane -/

/-- The station that holds the lane, if one does. -/
def Grant.holding (g : Grant) : List Port :=
  match g.holder with
  | some h => match h.who with
    | .station p => [p]
    | .playback => []
  | none => []

/-- The stations on the stack. -/
def Grant.stacked (g : Grant) : List Port := g.stack.map fun e => e.port

/-- The stations that wait. -/
def Grant.queued (g : Grant) : List Port := g.waiting.map fun e => e.port

theorem Grant.places_eq (g : Grant) : g.places = g.holding ++ g.stacked ++ g.queued := rfl

theorem Grant.mem_places {g : Grant} {p : Port} : p ∈ g.places ↔ p ∈ g.holding ∨ p ∈ g.stacked ∨ p ∈ g.queued := by
  rw [places_eq, List.mem_append, List.mem_append, or_assoc]

theorem Grant.mem_holding {g : Grant} {p : Port} : p ∈ g.holding ↔ g.heldBy p = true := by
  unfold Grant.holding Grant.heldBy
  cases g.holder with
  | none => simp
  | some h =>
    dsimp only
    cases h.who with
    | station q =>
      rw [List.mem_singleton, decide_eq_true_eq, Holder.station.injEq]
      exact eq_comm
    | playback => simp

theorem Grant.mem_stacked {g : Grant} {p : Port} : p ∈ g.stacked ↔ g.stacks p = true := by
  simp [Grant.stacked, Grant.stacks]

theorem Grant.mem_queued {g : Grant} {p : Port} : p ∈ g.queued ↔ g.waits p = true := by
  simp [Grant.queued, Grant.waits]

/-- The grant state of a lane is as R38 and R40 promise, and those with a place on it are in the set. -/
structure Standing (act : Port → Prop) (g : Grant) : Prop where
  nodup : (g.holding ++ (g.stacked ++ g.queued)).Nodup
  rising : (g.level :: g.stack.map fun e => e.level).Pairwise (· < ·)
  held : g.waiting ≠ [] → g.holder ≠ none
  weaker : ∀ e ∈ g.waiting, g.level ≤ e.level
  free : g.holder = none → g.stack = []
  levels : g.levels
  active : ∀ p ∈ g.places, act p

theorem standing_iff (act : Port → Prop) (g : Grant) : Standing act g ↔ g.wf ∧ g.levels ∧ ∀ p ∈ g.places, act p := by
  have nodup : g.places.Nodup ↔ (g.holding ++ (g.stacked ++ g.queued)).Nodup := by rw [Grant.places_eq, List.append_assoc]
  exact ⟨fun h => ⟨⟨nodup.mpr h.nodup, h.rising, h.held, h.weaker, h.free⟩, h.levels, h.active⟩,
    fun ⟨⟨hn, hr, hh, hw, hf⟩, hl, ha⟩ => ⟨nodup.mp hn, hr, hh, hw, hf, hl, ha⟩⟩

/-- R43: the stack after a lane was gained: a station that held it stands on top. -/
theorem preempted_stack (g : Grant) (who : Holder) (level : Nat) (setpoint : Int) :
    (g.preempted who level setpoint).stack = g.stack ∨ ∃ x q, g.holder = some x ∧ x.who = .station q ∧
      (g.preempted who level setpoint).stack = { port := q, level := x.level, ctx := x.ctx } :: g.stack := by
  unfold Grant.preempted
  cases hh : g.holder with
  | none => exact .inl rfl
  | some x =>
    cases hx : x.who with
    | station q => exact .inr ⟨x, q, rfl, hx, by simp [hx]⟩
    | playback => exact .inl (by simp [hx])

namespace Standing

variable {act : Port → Prop} {g g' : Grant}

theorem mono {act' : Port → Prop} (h : Standing act g) (ha : ∀ p ∈ g.places, act' p) : Standing act' g :=
  { h with active := ha }

/-- Contexts, setpoints and trims have no part in who stands where. -/
theorem congr (h : Standing act g) (hh : (g'.holder.map fun x => (x.who, x.level)) = g.holder.map fun x => (x.who, x.level))
    (hs : (g'.stack.map fun e => (e.port, e.level)) = g.stack.map fun e => (e.port, e.level)) (hw : g'.waiting = g.waiting) :
    Standing act g' := by
  have holder : g'.holding = g.holding ∧ g'.level = g.level ∧ (g'.holder = none ↔ g.holder = none) := by
    unfold Grant.holding Grant.level
    cases e : g.holder <;> cases e' : g'.holder <;> rw [e, e'] at hh
    · exact ⟨rfl, rfl, Iff.rfl⟩
    · cases hh
    · cases hh
    · next x y =>
      obtain ⟨who, level⟩ := Prod.mk.inj (Option.some.inj hh)
      simp [who, level]
  have stacked : g'.stacked = g.stacked := by
    have := congrArg (List.map Prod.fst) hs
    simpa [Grant.stacked, Function.comp_def] using this
  have stackLevels : (g'.stack.map fun e => e.level) = g.stack.map fun e => e.level := by
    have := congrArg (List.map Prod.snd) hs
    simpa [Function.comp_def] using this
  have queued : g'.queued = g.queued := by rw [Grant.queued, hw, Grant.queued]
  obtain ⟨holding, level, none⟩ := holder
  refine ⟨by rw [holding, stacked, queued]; exact h.nodup, by rw [level, stackLevels]; exact h.rising,
    by rw [hw]; exact fun hx hn => h.held hx (none.mp hn), by rw [hw, level]; exact h.weaker, fun hn => ?_, ⟨?_, ?_, ?_⟩, ?_⟩
  · have := h.free (none.mp hn)
    rw [this] at hs
    simpa using hs
  · intro x hx
    rw [hx] at hh
    obtain ⟨y, hy, e⟩ := Option.map_eq_some_iff.mp hh.symm
    obtain ⟨who, lv⟩ := Prod.mk.inj e
    have := h.levels.1 y hy
    rw [who, lv] at this
    exact this
  · intro e he
    have : e.level ∈ g.stack.map fun e => e.level := stackLevels ▸ List.mem_map_of_mem he
    obtain ⟨x, hx, hl⟩ := List.mem_map.mp this
    rw [← hl]
    exact h.levels.2.1 x hx
  · rw [hw]
    exact h.levels.2.2
  · intro p hp
    rw [Grant.mem_places, holding, stacked, queued, ← Grant.mem_places] at hp
    exact h.active p hp

/-- R46, R47: a station's entries are removed. -/
theorem without (h : Standing act g) (p : Port) : Standing act (g.without p) := by
  have stack : ((g.without p).stack).Sublist g.stack := List.filter_sublist
  have waiting : ((g.without p).waiting).Sublist g.waiting := List.filter_sublist
  have level : (g.without p).level = g.level := rfl
  refine ⟨?_, ?_, fun hw => ?_, fun e he => ?_, fun hn => ?_, ⟨h.levels.1, ?_, ?_⟩, ?_⟩
  · exact h.nodup.sublist ((stack.map _).append (waiting.map _) |>.append_left _)
  · exact h.rising.sublist ((stack.map _).cons_cons _)
  · exact h.held fun e => hw (by rw [Grant.without, e]; rfl)
  · exact h.weaker e (waiting.subset he)
  · rw [Grant.without, h.free hn]; rfl
  · exact fun e he => h.levels.2.1 e (stack.subset he)
  · exact fun e he => h.levels.2.2 e (waiting.subset he)
  · intro q hq
    refine h.active q ?_
    rw [Grant.mem_places] at hq ⊢
    exact hq.imp id fun hq => hq.imp (fun hq => (stack.map _).subset hq) fun hq => (waiting.map _).subset hq

/-- R44: a station that has no place joins the waiting entries of a lane whose holder is not weaker. -/
theorem wait (h : Standing act g) {e : PendEntry} (hp : e.port ∉ g.places) (ha : act e.port) (hl : g.level ≤ e.level)
    (hr : 2 ≤ e.level ∧ e.level ≤ 4) : Standing act { g with waiting := g.waiting ++ [e] } := by
  have queued : Grant.queued { g with waiting := g.waiting ++ [e] } = g.queued ++ [e.port] := by
    simp [Grant.queued]
  have places : ∀ q, q ∈ Grant.places { g with waiting := g.waiting ++ [e] } ↔ q ∈ g.places ∨ q = e.port := by
    intro q
    rw [Grant.mem_places, queued, List.mem_append, List.mem_singleton, Grant.mem_places]
    change q ∈ g.holding ∨ q ∈ g.stacked ∨ q ∈ g.queued ∨ q = e.port ↔ _
    tauto
  refine ⟨?_, h.rising, fun _ hn => ?_, fun x hx => ?_, h.free, ⟨h.levels.1, h.levels.2.1, fun x hx => ?_⟩, fun q hq => ?_⟩
  · rw [queued]
    change (g.holding ++ (g.stacked ++ (g.queued ++ [e.port]))).Nodup
    rw [← List.append_assoc, ← List.append_assoc, List.nodup_append_comm, List.singleton_append, List.nodup_cons]
    refine ⟨?_, by rw [List.append_assoc]; exact h.nodup⟩
    rw [List.append_assoc, List.mem_append, List.mem_append, ← Grant.mem_places]
    exact hp
  · have : g.level = 8 := by unfold Grant.level; rw [show g.holder = none from hn]; rfl
    omega
  · rcases List.mem_append.mp hx with hx | hx
    · exact h.weaker x hx
    · rw [List.mem_singleton.mp hx]
      exact hl
  · rcases List.mem_append.mp hx with hx | hx
    · exact h.levels.2.2 x hx
    · rw [List.mem_singleton.mp hx]
      exact hr
  · rcases (places q).mp hq with hq | rfl
    · exact h.active q hq
    · exact ha

/-- R43: a station with no place, or playback, takes the lane from a weaker holder. -/
theorem preempted (h : Standing act g) {who : Holder} {level : Nat} {setpoint : Int}
    (hw : ∀ p, who = .station p → p ∉ g.places ∧ act p ∧ 2 ≤ level ∧ level ≤ 4 ∧ level < g.level)
    (hp : who = .playback → level = 1) : Standing act (g.preempted who level setpoint) := by
  have stacked : (g.preempted who level setpoint).stacked = g.holding ++ g.stacked := by
    unfold Grant.stacked Grant.preempted Grant.holding
    cases g.holder with
    | none => rfl
    | some x =>
      dsimp only
      cases x.who <;> rfl
  have queued : (g.preempted who level setpoint).queued = g.queued := rfl
  have places : ∀ q, q ∈ (g.preempted who level setpoint).places ↔ who = .station q ∨ q ∈ g.places := by
    intro q
    rw [Grant.mem_places, stacked, queued, List.mem_append, Grant.mem_holding, Grant.mem_places, or_assoc]
    refine or_congr_left ?_
    unfold Grant.heldBy Grant.preempted
    exact decide_eq_true_iff
  have below : ∀ x, g.holder = some x → x.who ≠ .playback → level < x.level := by
    intro x hx hne
    cases who with
    | playback =>
      have := (h.levels.1 x hx).2 hne
      rw [hp rfl]
      omega
    | station p =>
      have := (hw p rfl).2.2.2.2
      rwa [Grant.level, hx] at this
  have above : ∀ e ∈ g.stack, level < e.level := by
    intro e he
    have up : g.level < e.level := List.rel_of_pairwise_cons h.rising (List.mem_map_of_mem he)
    cases who with
    | playback =>
      have := h.levels.2.1 e he
      rw [hp rfl]
      omega
    | station p => exact (hw p rfl).2.2.2.2.trans up
  have stack := preempted_stack g who level setpoint
  have entry : ∀ e ∈ (g.preempted who level setpoint).stack, level < e.level ∧ 2 ≤ e.level ∧ e.level ≤ 4 := by
    intro e he
    rcases stack with hs | ⟨x, q, hx, hq, hs⟩ <;> rw [hs] at he
    · exact ⟨above e he, h.levels.2.1 e he⟩
    · rcases List.mem_cons.mp he with rfl | he
      · have ne : x.who ≠ .playback := by rw [hq]; simp
        exact ⟨below x hx ne, (h.levels.1 x hx).2 ne⟩
      · exact ⟨above e he, h.levels.2.1 e he⟩
  have rising : ((g.preempted who level setpoint).stack.map fun e => e.level).Pairwise (· < ·) := by
    rcases stack with hs | ⟨x, q, hx, hq, hs⟩ <;> rw [hs]
    · exact (List.pairwise_cons.mp h.rising).2
    · have := h.rising
      rwa [Grant.level, hx] at this
  have waits : ∀ e ∈ g.waiting, level ≤ e.level := by
    intro e he
    have weak := h.weaker e he
    cases who with
    | playback =>
      have := h.levels.2.2 e he
      rw [hp rfl]
      omega
    | station p =>
      have := (hw p rfl).2.2.2.2
      omega
  refine ⟨?_, List.pairwise_cons.mpr ⟨fun x hx => ?_, rising⟩, fun _ => by simp [Grant.preempted], waits,
    fun hn => by simp [Grant.preempted] at hn, ⟨fun x hx => ?_, fun e he => (entry e he).2, h.levels.2.2⟩, fun q hq => ?_⟩
  · rw [stacked, queued]
    have rest : (g.holding ++ g.stacked ++ g.queued).Nodup := by rw [List.append_assoc]; exact h.nodup
    cases who with
    | playback => exact rest
    | station p => exact List.nodup_cons.mpr ⟨fun hm => (hw p rfl).1 (by rwa [Grant.places_eq]), rest⟩
  · obtain ⟨e, he, rfl⟩ := List.mem_map.mp hx
    exact (entry e he).1
  · obtain rfl := Option.some.inj hx
    refine ⟨hp, fun ne => ?_⟩
    cases who with
    | playback => exact absurd rfl ne
    | station p =>
      obtain ⟨-, -, lo, hi, -⟩ := hw p rfl
      exact ⟨lo, hi⟩
  · rcases (places q).mp hq with e | hq
    · exact (hw q e).2.1
    · exact h.active q hq

/-- R45: the best waiting entry gains the lane. -/
theorem granted (h : Standing act g) {e : PendEntry} (mem : e ∈ g.waiting) (best : ∀ x ∈ g.waiting, e.level ≤ x.level)
    (above : ∀ y ∈ g.stack, e.level < y.level) (setpoint : Int) (ctx : Context) :
    Standing act { g with
      holder := some { who := .station e.port, level := e.level, setpoint := setpoint, ctx := ctx }
      waiting := g.waiting.filter fun y => y ≠ e } := by
  have rest : (g.stacked ++ g.queued).Nodup := (List.nodup_append.mp h.nodup).2.1
  obtain ⟨-, once, apart⟩ := List.nodup_append.mp rest
  have queued : e.port ∈ g.queued := List.mem_map_of_mem mem
  have fewer : ((g.waiting.filter fun y => y ≠ e).map fun y => y.port).Sublist g.queued := List.filter_sublist.map _
  have gone : e.port ∉ (g.waiting.filter fun y => y ≠ e).map fun y => y.port := by
    intro hm
    obtain ⟨y, hy, hp⟩ := List.mem_map.mp hm
    obtain ⟨hy, ne⟩ := List.mem_filter.mp hy
    exact (of_decide_eq_true ne) (List.inj_on_of_nodup_map once hy mem hp)
  refine ⟨?_, ?_, fun _ => by simp, fun x hx => best x (List.mem_filter.mp hx).1, fun hn => by simp at hn,
    ⟨fun x hx => ?_, h.levels.2.1, fun x hx => h.levels.2.2 x (List.mem_filter.mp hx).1⟩, fun q hq => ?_⟩
  · change (e.port :: (g.stacked ++ (g.waiting.filter fun y => y ≠ e).map fun y => y.port)).Nodup
    refine List.nodup_cons.mpr ⟨fun hm => ?_, rest.sublist (fewer.append_left _)⟩
    rcases List.mem_append.mp hm with hs | hq
    · exact apart _ hs _ queued rfl
    · exact gone hq
  · refine List.pairwise_cons.mpr ⟨fun x hx => ?_, (List.pairwise_cons.mp h.rising).2⟩
    obtain ⟨y, hy, rfl⟩ := List.mem_map.mp hx
    exact above y hy
  · obtain rfl := Option.some.inj hx
    exact ⟨nofun, fun _ => h.levels.2.2 e mem⟩
  · rw [Grant.mem_places] at hq
    refine h.active q (Grant.mem_places.mpr ?_)
    rcases hq with hq | hq | hq
    · obtain rfl := List.mem_singleton.mp hq
      exact .inr (.inr queued)
    · exact .inr (.inl hq)
    · exact .inr (.inr (fewer.subset hq))

/-- R45: the top of the stack is restored. -/
theorem restored (h : Standing act g) {top : StackEntry} {more : List StackEntry} (hs : g.stack = top :: more)
    (weak : ∀ x ∈ g.waiting, top.level ≤ x.level) (setpoint : Int) (ctx : Context) :
    Standing act { g with
      holder := some { who := .station top.port, level := top.level, setpoint := setpoint, ctx := ctx }
      stack := g.stack.tail } := by
  have stacked : g.stacked = top.port :: more.map fun e => e.port := by rw [Grant.stacked, hs]; rfl
  have rest : (g.stacked ++ g.queued).Nodup := (List.nodup_append.mp h.nodup).2.1
  have rising := (List.pairwise_cons.mp h.rising).2
  have onTop : top ∈ g.stack := by rw [hs]; exact List.mem_cons_self
  have tail : g.stack.tail = more := by rw [hs]; rfl
  rw [tail]
  refine ⟨by rw [stacked] at rest; exact rest, by rw [hs] at rising; exact rising, fun _ => by simp, weak,
    fun hn => by simp at hn, ⟨fun x hx => ?_, fun e he => h.levels.2.1 e (by rw [hs]; exact List.mem_cons_of_mem _ he),
      h.levels.2.2⟩, fun q hq => ?_⟩
  · obtain rfl := Option.some.inj hx
    exact ⟨nofun, fun _ => h.levels.2.1 top onTop⟩
  · rw [Grant.mem_places] at hq
    refine h.active q (Grant.mem_places.mpr ?_)
    rw [stacked]
    rcases hq with hq | hq | hq
    · obtain rfl := List.mem_singleton.mp hq
      exact .inr (.inl List.mem_cons_self)
    · exact .inr (.inl (List.mem_cons_of_mem _ hq))
    · exact .inr (.inr hq)

/-- R45: with no one on the stack and no one waiting the lane has no holder. -/
theorem vacated {g : Grant} (hs : g.stack = []) (hw : g.waiting = []) : Standing act { g with holder := none } := by
  refine ⟨?_, ?_, fun hn => absurd hw hn, fun e he => ?_, fun _ => hs, ⟨nofun, fun e he => ?_, fun e he => ?_⟩, fun q hq => ?_⟩
  · simp [Grant.holding, Grant.stacked, Grant.queued, hs, hw]
  · simp [hs]
  · simp [hw] at he
  · simp [hs] at he
  · simp [hw] at he
  · simp [Grant.places, hs, hw] at hq

end Standing

/-- R45: who comes next: the best waiting entry where it is stronger than the top of the stack, else that top. -/
theorem nextHolder_cases (g : Grant) :
    (∃ e, nextHolder g = .grant e ∧ bestPending g.waiting = some e ∧ ∀ top more, g.stack = top :: more → e.level < top.level) ∨
    (∃ top more, nextHolder g = .restore top ∧ g.stack = top :: more ∧
      ∀ e, bestPending g.waiting = some e → top.level ≤ e.level) ∨
    (nextHolder g = .hold ∧ g.stack = [] ∧ g.waiting = []) := by
  cases hs : g.stack with
  | nil =>
    cases hb : bestPending g.waiting with
    | none => exact .inr (.inr ⟨by rw [nextHolder, hs, hb], rfl, bestPending_eq_none.mp hb⟩)
    | some e => exact .inl ⟨e, by rw [nextHolder, hs, hb], rfl, nofun⟩
  | cons top more =>
    cases hb : bestPending g.waiting with
    | none => exact .inr (.inl ⟨top, more, by rw [nextHolder, hs, hb], rfl, nofun⟩)
    | some e =>
      by_cases hl : e.level < top.level
      · refine .inl ⟨e, ?_, rfl, fun x ys hx => ?_⟩
        · simp only [nextHolder, hs, hb, if_pos hl]
        · obtain ⟨rfl, -⟩ := List.cons.inj hx
          exact hl
      · refine .inr (.inl ⟨top, more, ?_, rfl, fun y hy => ?_⟩)
        · simp only [nextHolder, hs, hb, if_neg hl]
        · obtain rfl := Option.some.inj hy
          exact Nat.le_of_not_lt hl

/-- R45: no waiting entry is stronger than the best. -/
theorem bestPending_level {es : List PendEntry} {e : PendEntry} (h : bestPending es = some e) : ∀ y ∈ es, e.level ≤ y.level := by
  intro y hy
  have hb := (bestPending_best h).2 y hy
  rw [Bool.eq_false_iff, Ne, PendEntry.before_iff] at hb
  omega

/-- R45: the next holder comes from the stack or from the waiting entries, and the rest stay in order. -/
theorem Standing.chooseNext {act : Port → Prop} {g : Grant} (h : Standing act g) (x : Lens) (l : Lane) (p : Int) :
    Standing act (chooseNext x l p g) := by
  rcases nextHolder_cases g with ⟨e, hn, hb, top⟩ | ⟨top, more, hn, hs, weak⟩ | ⟨hn, hs, hw⟩ <;>
    rw [Machine.chooseNext, hn]
  · refine h.granted (bestPending_best hb).1 (bestPending_level hb) (fun y hy => ?_) p Context.fresh
    obtain ⟨first, more, hs⟩ := List.exists_cons_of_ne_nil (List.ne_nil_of_mem hy)
    have rising := (List.pairwise_cons.mp h.rising).2
    rw [hs, List.map_cons, List.pairwise_cons] at rising
    rw [hs] at hy
    rcases List.mem_cons.mp hy with rfl | hy
    · exact top _ _ hs
    · exact (top _ _ hs).trans (rising.1 _ (List.mem_map_of_mem hy))
  · refine h.restored hs (fun y hy => ?_) p _
    cases hb : bestPending g.waiting with
    | none => rw [bestPending_eq_none.mp hb] at hy; cases hy
    | some e => exact (weak e hb).trans (bestPending_level hb y hy)
  · exact vacated hs hw

/-- R45: whoever stands on a lane after a choice stood on its stack or waited. -/
theorem chooseNext_places {x : Lens} {l : Lane} {p : Int} {g : Grant} {q : Port} (h : q ∈ (chooseNext x l p g).places) :
    q ∈ g.stacked ∨ q ∈ g.queued := by
  have shrinks := chooseNext_shrinks x l p g
  rw [Grant.mem_places] at h
  rcases h with hq | hq | hq
  · rcases nextHolder_cases g with ⟨e, hn, hb, -⟩ | ⟨top, more, hn, hs, -⟩ | ⟨hn, -, -⟩ <;>
      rw [chooseNext, hn, Grant.holding] at hq
    · obtain rfl := List.mem_singleton.mp hq
      exact .inr (List.mem_map_of_mem (bestPending_best hb).1)
    · obtain rfl := List.mem_singleton.mp hq
      exact .inl (List.mem_map_of_mem (by rw [hs]; exact List.mem_cons_self))
    · cases hq
  · obtain ⟨e, he, rfl⟩ := List.mem_map.mp hq
    exact .inl (List.mem_map_of_mem (shrinks.1 e he))
  · obtain ⟨e, he, rfl⟩ := List.mem_map.mp hq
    exact .inr (List.mem_map_of_mem (shrinks.2 e he))

/-- A lane without a holder, a stack or waiting entries. -/
theorem standing_reset (act : Port → Prop) : Standing act Grant.reset := Standing.vacated (g := Grant.reset) rfl rfl

end Sys2Proof.Machine
end

section
/-! PROOFS. The grant table (O11, R38, R40, R47): every command leaves the lanes' grant states in order, with places for
stations whose links are ACTIVE alone. -/

namespace Sys2Proof.Machine

open Sys2Proof

/-- The ports' levels agree with their roles, and every lane's grant state is in order, among the ACTIVE ports. -/
structure GrantsHeld (s : State) : Prop where
  port : ∀ p : Port, PortWf s.ports[p]
  lane : ∀ l : Lane, Standing (fun p => s.isActive p = true) s.grants[l]

theorem grantsHeld_iff (s : State) : GrantsHeld s ↔ PortsWf s ∧ GrantsWf s ∧ GrantsActive s := by
  constructor
  · intro h
    have lane := fun l => (standing_iff _ _).mp (h.lane l)
    exact ⟨fun p => ⟨(h.port p).active, (h.port p).idle⟩, fun l => ⟨(lane l).1, (lane l).2.1⟩, fun l => (lane l).2.2⟩
  · rintro ⟨hp, hw, ha⟩
    exact ⟨fun p => ⟨(hp p).1, (hp p).2⟩, fun l => (standing_iff _ _).mpr ⟨(hw l).1, (hw l).2, ha l⟩⟩

namespace GrantsHeld

variable {s t : State}

/-- The links are as they were and each lane's grant state in order. -/
theorem of_links (h : GrantsHeld s) (hp : SameLinks s.ports t.ports)
    (hg : ∀ l : Lane, Standing (fun p => s.isActive p = true) t.grants[l]) : GrantsHeld t := by
  refine ⟨fun p => ?_, fun l => (hg l).mono fun p hm => ?_⟩
  · obtain ⟨link, role, level⟩ := hp p
    exact ⟨by rw [link, role, level]; exact (h.port p).active, by rw [link, role]; exact (h.port p).idle⟩
  · rw [State.isActive, (hp p).1]
    exact (hg l).active p hm

theorem same (h : GrantsHeld s) (hp : SameLinks s.ports t.ports) (hg : t.grants = s.grants) : GrantsHeld t :=
  h.of_links hp fun l => by rw [hg]; exact h.lane l

/-- Neither the ports nor the grants change. -/
theorem apart (h : GrantsHeld s) (hp : t.ports = s.ports) (hg : t.grants = s.grants) : GrantsHeld t :=
  h.same (fun p => by rw [hp]; exact ⟨rfl, rfl, rfl⟩) hg

theorem frame (h : GrantsHeld s) (hf : SameButQueues s t) : GrantsHeld t := h.same (sameLinks_of_frame hf) hf.grants

theorem setGrants (h : GrantsHeld s) {v : Vector Grant 12}
    (hv : ∀ l : Lane, Standing (fun p => s.isActive p = true) v[l]) : GrantsHeld (s.setGrants v) :=
  ⟨h.port, hv⟩

theorem setGrant (h : GrantsHeld s) {l : Lane} {f : Grant → Grant}
    (hf : Standing (fun p => s.isActive p = true) (f s.grants[l])) : GrantsHeld (s.setGrant l f) := by
  refine h.setGrants fun i => ?_
  rw [updAt_get]
  split
  · next e => subst e; exact hf
  · exact h.lane i

end GrantsHeld

/-! ### The operations of the Grant Table -/

theorem leaveLane_held (l : Lane) (why : EndReason) (s : State) (h : GrantsHeld s) : GrantsHeld (leaveLane l why s) := by
  cases hh : s.grants[l].holder with
  | none => rwa [leaveLane_none hh]
  | some x =>
    have chosen : GrantsHeld (s.setGrant l fun _ => chooseNext s.lens l s.lanes[l].p s.grants[l]) :=
      h.setGrant ((h.lane l).chooseNext s.lens l s.lanes[l].p)
    exact chosen.frame (leaveLane_frame hh why)

theorem resetPlayContexts_held (s : State) (h : GrantsHeld s) : GrantsHeld (resetPlayContexts s) := by
  refine h.setGrants fun l => ?_
  rw [mapAll_get]
  split
  · unfold freshPlaybackCtx
    split
    · refine (h.lane l).congr ?_ rfl rfl
      rw [Option.map_map]
      rfl
    · exact h.lane l
  · exact h.lane l

theorem keepsTakes_held : KeepsTakes GrantsHeld where
  raise aud body s h := h.frame (raiseFor_frame aud body s)
  mem _ _ _ h := h.apart rfl rfl
  recorder _ _ _ h := h.apart rfl rfl

theorem keepsPlay_held : KeepsPlay GrantsHeld where
  raise := keepsTakes_held.raise
  play _ _ _ h := h.apart rfl rfl
  leave := leaveLane_held
  contexts := resetPlayContexts_held
  dropPlay _ h := h.apart rfl rfl

theorem keepsStops_held : KeepsStops GrantsHeld where
  raise := keepsTakes_held.raise
  recordEnds o _ := keepsTakes_held.recordEnds o
  endPlayback o _ := keepsPlay_held.endPlayback o
  safety _ _ _ h := h.apart rfl rfl
  power := setPower_survives keepsTakes_held.toKeepsEvents (fun _ _ h => h.apart rfl rfl) fun _ _ h => h.apart rfl rfl

theorem keepsDrives_held : KeepsDrives GrantsHeld where
  channels _ _ _ h := h.apart rfl rfl
  driveCause := driveCause_keeps (fun _ _ _ h => h.apart rfl rfl) fun cs _ => keepsStops_held.causeEvents cs
  settled _ _ _ _ h := h.apart rfl rfl

/-- R52, R55: a change of the holder's context or setpoint. -/
theorem standing_holder {act : Port → Prop} {g : Grant} (h : Standing act g) {f : Hold → Hold}
    (hf : ∀ x, (f x).who = x.who ∧ (f x).level = x.level) : Standing act { g with holder := g.holder.map f } := by
  refine h.congr ?_ rfl rfl
  rw [Option.map_map]
  exact Option.map_congr fun x _ => by obtain ⟨hw, hl⟩ := hf x; simp [hw, hl]

theorem writeBackAll_held (cs : Vector Candidate 12) (s : State) (h : GrantsHeld s) : GrantsHeld (writeBackAll cs s) := by
  refine h.setGrants fun l => ?_
  rw [mapAll_get]
  split
  · refine standing_holder (h.lane l) fun x => ?_
    split <;> exact ⟨rfl, rfl⟩
  · exact h.lane l

theorem released_ports (s : State) : s.released.ports = s.ports := by
  simp only [State.released, refreshOutputs, State.setSafety_ports, State.setGrants_ports, State.setDrives_ports,
    State.setLanes_ports]

theorem released_grants (s : State) :
    s.released.grants = mapAll s.grants fun l g => releaseLane s.lens l s.reloadedLanes[l].p g := by
  simp only [State.released, refreshOutputs, State.setSafety_grants, State.setGrants_grants, State.setDrives_grants,
    State.setLanes_grants, State.setSafety_lens, State.setDrives_lens, State.setLanes_lens, State.setSafety_lanes,
    State.setDrives_lanes, State.setLanes_lanes]

theorem enterRun_held (party : Party) (s : State) (h : GrantsHeld s) : GrantsHeld (enterRun party s) := by
  have released : GrantsHeld s.released := by
    refine GrantsHeld.of_links h (fun p => by rw [released_ports]; exact ⟨rfl, rfl, rfl⟩) fun l => ?_
    rw [released_grants, mapAll_get]
    refine standing_holder (h.lane l) fun y => ?_
    split
    · exact ⟨rfl, rfl⟩
    · exact ⟨rfl, rfl⟩
  exact released.frame (enterRun_frame party s)

theorem clearLane_held (l : Lane) (s : State) (h : GrantsHeld s) : GrantsHeld (clearLane l s) := by
  have cleared : GrantsHeld (s.setGrant l fun _ => Grant.reset) := h.setGrant (standing_reset _)
  unfold clearLane
  dsimp only
  split
  · exact cleared
  · exact keepsTakes_held.raise _ _ _ cleared

theorem park_held (s : State) (h : GrantsHeld s) : GrantsHeld (park s) := by
  have cleared : GrantsHeld (forEach allLanes (fun l s => if s.lanePresent l then clearLane l s else s) s) := by
    refine forEach_keeps (fun l s hs => ?_) _ h
    split
    · exact clearLane_held l s hs
    · exact hs
  unfold park
  generalize forEach allLanes (fun l s => if s.lanePresent l then clearLane l s else s) s = u at cleared
  exact cleared.apart rfl rfl

theorem unpark_held (s : State) (h : GrantsHeld s) : GrantsHeld (unpark s) := by
  have caused := fun (v : DrivePort) w => keepsStops_held.causeEvents (s.failingLanes.map CauseKind.driveFault)
    (h.apart (t := (s.setLanes w).setDrives v) rfl rfl)
  have refreshed : ∀ t, GrantsHeld t → GrantsHeld (refreshOutputs t) := fun _ h => h.apart rfl rfl
  unfold unpark
  refine refreshed _ ?_
  split
  · exact caused _ _
  · exact (caused _ _).apart rfl rfl
  · exact keepsStops_held.power _ _ (caused _ _)
  · exact keepsStops_held.power _ _ (caused _ _)

/-! ### Requests for lanes -/

/-- R42 to R44: an ACTIVE station that has no place on a lane takes it, or waits. -/
theorem acquireIndex_held (p : Port) (acc : State × List (Nat × LaneResult)) (i : Nat)
    (h : GrantsHeld acc.1 ∧ acc.1.isActive p = true) :
    GrantsHeld (acquireIndex p acc i).1 ∧ (acquireIndex p acc i).1.isActive p = true := by
  obtain ⟨held, active⟩ := h
  have link : acc.1.ports[p].link = .active := of_decide_eq_true active
  unfold acquireIndex
  dsimp only
  split
  · exact ⟨held, active⟩
  · next l _ =>
    split
    · next q hright hlevel =>
      split
      · exact ⟨held, active⟩
      split
      · exact ⟨held, active⟩
      next hhold =>
      split
      · exact ⟨held, active⟩
      next hwait =>
      split
      · exact ⟨held, active⟩
      next hstack =>
      have none : p ∉ acc.1.grants[l].places := by
        rw [Grant.mem_places, Grant.mem_holding, Grant.mem_stacked, Grant.mem_queued]
        tauto
      have range : 2 ≤ q ∧ q ≤ 4 := by
        obtain ⟨r, hr, hl⟩ := (held.port p).active link
        have lv : roleLevel r = some q := hl.symm.trans hlevel
        cases r <;> simp [roleLevel] at lv <;> omega
      split
      · next below =>
        have gained : GrantsHeld (acc.1.setGrant l fun _ => acc.1.grants[l].preempted (.station p) q acc.1.lanes[l].p) :=
          held.setGrant ((held.lane l).preempted (fun x hx => by
            obtain rfl := Holder.station.inj hx
            exact ⟨none, active, range.1, range.2, below⟩) nofun)
        have frame := gainLane_frame l (.station p) q acc.1
        exact ⟨gained.frame frame, by rw [State.isActive, frame.link p]; exact active⟩
      · next above =>
        have waiting : GrantsHeld (acc.1.setGrant l fun g =>
            { g with waiting := g.waiting ++ [{ port := p, level := q, arrival := acc.1.nextArrival }] }) :=
          held.setGrant ((held.lane l).wait none active (Nat.le_of_not_lt above) range)
        have frame := waitLane_frame l p q acc.1
        refine ⟨(waiting.apart (t := (acc.1.setGrant l _).setNextArrival _) rfl rfl).frame frame, ?_⟩
        rw [State.isActive, frame.link p]
        exact active
    · exact ⟨held, active⟩

theorem judgeAcquire_held (p : Port) (ls : LaneSet) (s : State) (ha : s.isActive p = true) (h : GrantsHeld s) :
    GrantsHeld (judgeAcquire p ls s).1 := by
  unfold judgeAcquire
  split
  · exact h
  · exact (foldl_keeps (P := fun t => GrantsHeld t ∧ t.isActive p = true) (acquireIndex_held p) _ ⟨h, ha⟩).1

theorem judgeYield_held (p : Port) (ls : LaneSet) : KeptBy GrantsHeld (judgeYield p ls) := by
  intro s h
  unfold judgeYield
  split
  · exact h
  · refine foldl_keeps (P := GrantsHeld) (fun acc i ha => ?_) _ h
    unfold yieldIndex
    dsimp only
    split
    · exact ha
    · split
      · exact leaveLane_held _ _ _ ha
      · split
        · exact ha.setGrant ((ha.lane _).without p)
        · exact ha

theorem judgeDemand_held (p : Port) (es : List DemandEntry) : KeptBy GrantsHeld (judgeDemand p es) := by
  intro s h
  refine foldl_keeps (P := GrantsHeld) (f := demandEntry p) (acc := (s, Tally.zero)) (fun acc e ha => ?_) es h
  unfold demandEntry
  dsimp only
  split
  · exact ha
  · split
    · exact ha
    · split
      · exact ha
      · split
        · exact ha
        · exact ha.setGrant (standing_holder (ha.lane _) fun _ => ⟨rfl, rfl⟩)

theorem judgeTrim_held (p : Port) (es : List TrimEntry) : KeptBy GrantsHeld (judgeTrim p es) := by
  intro s h
  refine foldl_keeps (P := GrantsHeld) (f := trimEntry p) (acc := (s, Tally.zero)) (fun acc e ha => ?_) es h
  unfold trimEntry
  dsimp only
  split
  · exact ha
  · split
    · exact ha
    · split
      · exact ha.setGrant (standing_holder (ha.lane _) fun _ => ⟨rfl, rfl⟩)
      · split
        · refine ha.setGrant ((ha.lane _).congr rfl ?_ rfl)
          rw [List.map_map]
          refine List.map_congr_left fun x _ => ?_
          simp only [Function.comp]
          split <;> rfl
        · exact ha

theorem judgeCue_held (a : CueArgs) : KeptBy GrantsHeld (judgeCue a) := by
  intro s h
  refine judgeCue_keeps (fun i x part scale endMode _ _ => ?_) h
  refine keepsTakes_held.suspendErase (forEach_keeps (fun l s hs => ?_) _ (h.apart rfl rfl))
  have gained : GrantsHeld (s.setGrant l fun _ => s.grants[l].preempted .playback playbackLevel s.lanes[l].p) :=
    hs.setGrant ((hs.lane l).preempted nofun fun _ => rfl)
  exact gained.frame (gainLane_frame l .playback playbackLevel s)

/-! ### The links -/

theorem judgeLeave_held (rx : Rx) (u : Unit) (s : State) (h : GrantsHeld s) : GrantsHeld (judgeLeave rx u s).1 :=
  h.same (judgeLeave_sameLinks rx u s) (pushReply_frame _ _ _).grants

theorem keepsLinks_held : KeepsLinks GrantsHeld where
  raise := keepsTakes_held.raise
  same _ _ hs _ h := h.same hs rfl
  move p f s hm _ h := by
    refine ⟨fun q => ?_, fun l => (h.lane l).mono fun q hq => ?_⟩
    · rw [State.setPort, State.setPorts_ports, updAt_get]
      split
      · next e => subst e; exact (h.port p).move hm
      · exact h.port q
    · have active := (h.lane l).active q hq
      have ne : p ≠ q := fun e => hm.1.1 (of_decide_eq_true (e ▸ active))
      rw [State.isActive, State.setPort, State.setPorts_ports, updAt_get, if_neg ne]
      exact active
  enter _ _ _ h := h
  leave _ _ h := h
  answer p r s h := h.frame (pushReply_frame p r s)
  leaving := judgeLeave_held

/-- A lane's grant state once a station is removed from it, alone or with the playback (R47; log 43). -/
def State.removedFrom (s : State) (p : Port) (ends : Bool) (l : Lane) (g : Grant) : Grant :=
  if g.heldBy p || (ends && g.heldByPlayback) then chooseNext s.lens l s.lanes[l].p (g.without p) else g.without p

theorem removeStation_frame (p : Port) (ends : Bool) (l : Lane) (s : State) :
    SameButQueues (s.setGrant l (s.removedFrom p ends l)) (removeStation p ends l s) := by
  have same : (s.setGrant l fun g => g.without p).grants[l] = s.grants[l].without p := by
    rw [State.setGrant, State.setGrants_grants, updAt_same]
  have left : ∀ why, s.grants[l].holder.isSome = true → s.removedFrom p ends l s.grants[l] =
      chooseNext s.lens l s.lanes[l].p (s.grants[l].without p) →
      SameButQueues (s.setGrant l (s.removedFrom p ends l)) (leaveLane l why (s.setGrant l fun g => g.without p)) := by
    intro why hh hr
    obtain ⟨x, hx⟩ := Option.isSome_iff_exists.mp hh
    have frame := leaveLane_frame (s := s.setGrant l fun g => g.without p) (l := l) (h := x) (by rw [same]; exact hx) why
    rw [same] at frame
    have twice : (s.setGrant l fun g => g.without p).setGrant l (fun _ =>
        chooseNext s.lens l s.lanes[l].p (s.grants[l].without p)) = s.setGrant l (s.removedFrom p ends l) := by
      have once := setGrant_congr s l (f := s.removedFrom p ends l)
        (g := fun _ => chooseNext s.lens l s.lanes[l].p (s.grants[l].without p)) hr
      rw [once, State.setGrant, State.setGrant, State.setGrant, State.setGrants_setGrants, State.setGrants_grants]
      refine congrArg s.setGrants (Vector.ext fun i hi => ?_)
      simp only [updAt_getNat]
      split <;> rfl
    exact twice ▸ frame
  unfold removeStation
  dsimp only
  split
  · next hb =>
    have holder : s.grants[l].holder.isSome = true := by
      unfold Grant.heldBy at hb
      split at hb
      · next e => rw [e]; rfl
      · cases hb
    exact left _ holder (by rw [State.removedFrom, hb, Bool.true_or, if_pos rfl])
  · next hb =>
    split
    · next he =>
      rw [Bool.and_eq_true] at he
      exact left _ (heldByPlayback_holder he.2) (by rw [State.removedFrom, he.1, he.2, Bool.true_and, Bool.or_true, if_pos rfl])
    · next he =>
      rw [setGrant_congr s l (f := s.removedFrom p ends l) (g := fun g => g.without p)
        (by rw [State.removedFrom, Bool.not_eq_true _ |>.mp hb, Bool.false_or, if_neg he])]
      exact .refl _

/-- R47: one ascending pass removes the station from every lane. -/
theorem removeAll_frame (p : Port) (ends : Bool) (s : State) :
    SameButQueues (s.setGrants (mapAll s.grants (s.removedFrom p ends))) (forEach allLanes (removeStation p ends) s) :=
  forEach_lanes fun l t ht => by
    have same : t.removedFrom p ends l = s.removedFrom p ends l := by
      unfold State.removedFrom
      rw [ht.lens, ht.lanes]
      rfl
    rw [← same]
    exact removeStation_frame p ends l t

/-- R47: a station that is removed has no place left. -/
theorem removedFrom_standing {act : Port → Prop} {s : State} {p : Port} {ends : Bool} {l : Lane} {g : Grant}
    (h : Standing act g) : Standing (fun q => act q ∧ q ≠ p) (s.removedFrom p ends l g) := by
  have alone := h.without p
  have gone : ∀ q, q ∈ (g.without p).stacked ∨ q ∈ (g.without p).queued → q ≠ p := by
    rintro q (hq | hq) <;> obtain ⟨e, he, rfl⟩ := List.mem_map.mp hq
    · exact (Grant.without_gone g p).1 e he
    · exact (Grant.without_gone g p).2.1 e he
  unfold State.removedFrom
  split
  · have chosen := alone.chooseNext s.lens l s.lanes[l].p
    exact chosen.mono fun q hq => ⟨chosen.active q hq, gone q (chooseNext_places hq)⟩
  · next hb =>
    refine alone.mono fun q hq => ⟨alone.active q hq, ?_⟩
    rw [Grant.mem_places] at hq
    rcases hq with hq | hq
    · rintro rfl
      rw [Grant.mem_holding] at hq
      exact hb (by rw [show g.heldBy q = true from hq, Bool.true_or])
    · exact gone q hq

theorem leaveActive_held (p : Port) (why : DownReason) (s : State) (h : GrantsHeld s) : GrantsHeld (leaveActive p why s) := by
  have removed : ∀ ends, GrantsHeld (forEach allLanes (removeStation p ends) (dropPort p s)) := by
    intro ends
    have frame := removeAll_frame p ends (dropPort p s)
    have ports : ∀ q : Port, (dropPort p s).ports[q] = if p = q then latchLinkLost { s.ports[q] with
        link := .down, role := none, level := none, events := [], replies := [], telemetry := none,
        sending := none, leaving := false, deadline := none } else s.ports[q] := fun q => by rw [dropPort_ports, updAt_get]
    have dropped : GrantsHeld ((dropPort p s).setGrants (mapAll (dropPort p s).grants ((dropPort p s).removedFrom p ends))) := by
      refine ⟨fun q => ?_, fun l => ?_⟩
      · rw [State.setGrants_ports, ports]
        split
        · exact ⟨(fun ha => by cases ha), fun _ => rfl⟩
        · exact h.port q
      · rw [State.setGrants_grants, mapAll_get]
        have standing := removedFrom_standing (s := dropPort p s) (p := p) (ends := ends) (l := l) (h.lane l)
        refine standing.mono fun q hq => ?_
        obtain ⟨active, ne⟩ := standing.active q hq
        rw [State.isActive, State.setGrants_ports, ports, if_neg (Ne.symm ne)]
        exact active
    exact dropped.frame frame
  unfold leaveActive
  dsimp only
  refine keepsTakes_held.raiseMotion _ ?_
  have asked : GrantsHeld (askerLost p (if (s.isMotion p && s.playActive) = true
      then playIdle .linkLost (forEach allLanes (removeStation p (s.isMotion p && s.playActive)) (dropPort p s))
      else forEach allLanes (removeStation p (s.isMotion p && s.playActive)) (dropPort p s))) := by
    refine keepsStops_held.askerLost p ?_
    split
    · exact keepsPlay_held.playIdle _ (removed _)
    · exact removed _
  split
  · exact keepsTakes_held.discardUpload (keepsTakes_held.recordEnds _ asked)
  · exact asked

/-! ### Every command -/

theorem keepsMachine_held : KeepsMachine GrantsHeld where
  toKeepsWork := KeepsArray.toKeepsWork
    { toKeepsTakes := keepsTakes_held
      pump := fun s h => h.frame (pump_frame s)
      reserve := startReserved_keeps (fun _ _ h => h.apart rfl rfl) (fun _ _ h => h.apart rfl rfl) fun _ _ h => h.apart rfl rfl }
  pump s h := h.frame (pump_frame s)
  reservedDone := reservedDone_keeps keepsTakes_held.toKeepsEvents (fun _ _ h => h.apart rfl rfl)
    (fun _ _ h => h.apart rfl rfl) fun _ _ h => h.apart rfl rfl
  lens _ _ h := h.apart rfl rfl
  play _ _ _ h := h.apart rfl rfl
  leave := leaveLane_held
  contexts := resetPlayContexts_held
  monitor _ _ _ _ _ _ h := h.apart rfl rfl
  causes cs _ := keepsStops_held.causeEvents cs
  cancel _ _ _ := keepsStops_held.cancelRelease _
  openWindow rx _ _ := keepsStops_held.openWindow rx
  enterRun party s _ := enterRun_held party s
  toKeepsDrives := keepsDrives_held
  acquire := judgeAcquire_held
  yield := judgeYield_held
  demand := judgeDemand_held
  trim := judgeTrim_held
  cue := judgeCue_held
  park := park_held
  unpark := unpark_held
  shapeSet a s h := by
    unfold judgeShapeSet
    split
    · exact h
    · dsimp only
      split
      · exact h
      · exact h.apart rfl rfl
  limitsSet a s h := by
    unfold judgeLimitsSet
    split
    · exact h
    · split
      · exact h
      · dsimp only
        split
        · exact h
        · exact h.apart rfl rfl
  rigWrite a s h := by
    unfold judgeRigWrite
    dsimp only
    repeat' split
    · exact h
    · exact h
    · exact h
    · exact h
    · exact keepsTakes_held.queueReserved _ (h.apart rfl rfl)
  rigFreeze u s h := by
    unfold judgeRigFreeze
    repeat' split
    · exact h
    · exact h
    · exact h
    · exact keepsTakes_held.queueReserved _ (h.apart rfl rfl)

theorem keepsClock_held : KeepsClock GrantsHeld where
  recordEnds o _ := keepsTakes_held.recordEnds o
  endPlayback o _ := keepsPlay_held.endPlayback o
  recorderFrame _ := keepsTakes_held.recorderFrame
  playbackFrame _ := keepsPlay_held.playbackFrame
  tick _ := KeepsTick.tickWork {
    raise := keepsTakes_held.raise
    playBefore := fun _ => keepsPlay_held.playBefore
    playAfter := fun _ => keepsPlay_held.playAfter
    commitRun := fun _ _ h => h.apart rfl rfl
    commitStop := fun _ _ h => h.apart rfl rfl
    commitRest := fun _ h => h.apart rfl rfl
    writeBack := writeBackAll_held
    causes := fun cs _ => keepsStops_held.causeEvents cs
    stoppedTest := fun _ => keepsStops_held.stoppedTest
    compose := fun _ => keepsTakes_held.composeSample
    exchange := fun _ => keepsDrives_held.exchangeTick
    telemetry := fun hs _ => keepsLinks_held.formTelemetry hs
    evaluate := fun _ => keepsStops_held.evaluateZones }
  tb _ _ h := h.apart rfl rfl

theorem powerUp_held (lines : LineStates) (d : Damage) (s : State) : GrantsHeld (powerUp lines d s) := by
  refine ⟨fun p => ?_, fun l => ?_⟩
  · rw [powerUp_port]
    exact ⟨(fun ha => by cases ha), fun _ => rfl⟩
  · have grant : (powerUp lines d s).grants[l] = Grant.reset := by
      rw [powerUp, Fin.getElem_fin, Vector.getElem_replicate]
    rw [grant]
    exact standing_reset _

theorem endStarting_held (s : State) (h : GrantsHeld s) : GrantsHeld (endStarting s) := by
  refine h.apart (endStarting_ports s) ?_
  rw [endStarting, apply_ite State.grants, State.setStarting_grants, State.setMem_grants, ite_self]

/-- Settles O11: each operation of the Grant Table keeps a lane in order, and a link that leaves ACTIVE takes its station
off every lane. -/
theorem everyStepKeepsTheGrantTable : Obligations.EveryStepKeepsTheGrantTable := by
  unfold Obligations.EveryStepKeepsTheGrantTable
  intro s t hp hw ha ht
  have clock := keepsClock_held
  have commands := keepsMachine_held.commands keepsLinks_held
    (fun _ => keepsMachine_held.judges keepsLinks_held.judgeQuery (judgeTimebaseSet_keeps fun _ _ h => h.apart rfl rfl))
    leaveActive_held (fun _ => clock.frameStart) (fun _ => clock.overdueFrame) (fun _ => clock.servoTick)
    (fun time _ => clock.referencePulse time) (fun _ => clock.missingPulse) (fun lines d s _ => powerUp_held lines d s)
    endStarting_held
  obtain ⟨-, grants, active⟩ := (grantsHeld_iff t).mp
    (commands.step ht (fun _ h => h.apart rfl rfl) ((grantsHeld_iff s).mpr ⟨hp, hw, ha⟩))
  exact ⟨grants, active⟩

end Sys2Proof.Machine
end

section
/-! PROOFS. ACQUIRE and YIELD (O52, R42 to R46): the judgement of one lane, as a function of what the request finds there, and
of a set of lanes, each as alone. -/

namespace Sys2Proof.Machine

open Sys2Proof

/-! ### One lane -/

/-- The result of ACQUIRE for one lane, and the grant state it leaves there (R42 to R44; rows in the order of log 39). -/
def State.acquires (s : State) (p : Port) (l : Lane) : LaneResult × Grant :=
  let g := s.grants[l]
  if !s.lanes[l].present then (.badValue, g)
  else if s.ports[p].role.any fun r => roleRight r l then
    match s.ports[p].level with
    | none => (.noRight, g)
    | some q =>
      if s.lanes[l].condition = .parked then (.wrongState, g)
      else if g.heldBy p then (.holding, g)
      else if g.waits p then (.waiting, g)
      else if g.stacks p then (.suspended, g)
      else if q < g.level then (.gained, g.preempted (.station p) q s.lanes[l].p)
      else (.pending, { g with waiting := g.waiting ++ [{ port := p, level := q, arrival := s.nextArrival }] })
  else (.noRight, g)

/-- The result of YIELD for one lane, and the grant state it leaves there (R45, R46). -/
def State.yields (s : State) (p : Port) (l : Lane) : LaneResult × Grant :=
  let g := s.grants[l]
  if !s.lanes[l].present then (.badValue, g)
  else if g.heldBy p then (.released, chooseNext s.lens l s.lanes[l].p g)
  else if g.stacks p || g.waits p then (.released, g.without p)
  else (.notHeld, g)

/-- The arrival number a result uses up. -/
def LaneResult.arrivals (x : LaneResult) : Nat := if x = .pending then 1 else 0

/-- A judgement lane by lane: what it makes of each lane depends on that lane alone, on the port, on the maps and on the next
arrival number. -/
structure ByLane (p : Port) (f : State × List (Nat × LaneResult) → Nat → State × List (Nat × LaneResult))
    (e : State → Lane → LaneResult × Grant) : Prop where
  lane : ∀ s rs (l : Lane), ∃ t, f (s, rs) l.val = (t, rs ++ [(l.val, (e s l).1)]) ∧
    SameButQueues ((s.setGrant l fun _ => (e s l).2).setNextArrival (s.nextArrival + (e s l).1.arrivals)) t ∧
    ((e s l).1 ≠ .gained → (e s l).1 ≠ .pending → (e s l).1 ≠ .released → t = s)
  beyond : ∀ s rs i, 12 ≤ i → f (s, rs) i = (s, rs ++ [(i, .badValue)])
  near : ∀ (s t : State) (l : Lane), t.lanes = s.lanes → t.lens = s.lens → t.ports[p].role = s.ports[p].role →
    t.ports[p].level = s.ports[p].level → t.grants[l] = s.grants[l] → t.nextArrival = s.nextArrival → e t l = e s l

theorem namedLane_val (s : State) (l : Lane) :
    s.namedLane l.val = if s.lanes[l].present then some l else none := by
  simp only [State.namedLane, indexOf_val, State.lanePresent]
  rfl

theorem namedLane_beyond (s : State) {i : Nat} (h : 12 ≤ i) : s.namedLane i = none := by
  simp only [State.namedLane, indexOf_of_le h]

/-- The lane's grant state is written as it stands. -/
theorem stays (s : State) (l : Lane) : SameButQueues ((s.setGrant l fun _ => s.grants[l]).setNextArrival (s.nextArrival + 0)) s := by
  rw [setGrant_id s l rfl]
  exact .refl s

theorem SameButQueues.setNextArrival {s t : State} (h : SameButQueues s t) (x : Nat) :
    SameButQueues (s.setNextArrival x) (t.setNextArrival x) := { h with nextArrival := rfl }

theorem byLane_acquire (p : Port) : ByLane p (acquireIndex p) (fun s l => s.acquires p l) where
  lane s rs l := by
    unfold acquireIndex State.acquires
    dsimp only
    rw [namedLane_val]
    cases hp : s.lanes[l].present with
    | false => exact ⟨s, rfl, stays s l, fun _ _ _ => rfl⟩
    | true =>
      rw [if_pos rfl, if_neg (by decide)]
      dsimp only
      cases s.ports[p].role with
      | none => exact ⟨s, rfl, stays s l, fun _ _ _ => rfl⟩
      | some r =>
        rw [Option.any_some]
        dsimp only
        cases roleRight r l with
        | false => exact ⟨s, rfl, stays s l, fun _ _ _ => rfl⟩
        | true =>
        rw [if_pos rfl]
        cases s.ports[p].level with
        | none => exact ⟨s, rfl, stays s l, fun _ _ _ => rfl⟩
        | some q =>
          dsimp only
          split
          · exact ⟨s, rfl, stays s l, fun _ _ _ => rfl⟩
          split
          · exact ⟨s, rfl, stays s l, fun _ _ _ => rfl⟩
          split
          · exact ⟨s, rfl, stays s l, fun _ _ _ => rfl⟩
          split
          · exact ⟨s, rfl, stays s l, fun _ _ _ => rfl⟩
          split
          · exact ⟨_, rfl, gainLane_frame l (.station p) q s, fun h => absurd rfl h⟩
          · have waits := setGrant_congr s l
              (f := fun g => { g with waiting := g.waiting ++ [{ port := p, level := q, arrival := s.nextArrival }] })
              (g := fun _ => { s.grants[l] with
                waiting := s.grants[l].waiting ++ [{ port := p, level := q, arrival := s.nextArrival }] }) rfl
            exact ⟨_, rfl, waits ▸ waitLane_frame l p q s, fun _ h => absurd rfl h⟩
  beyond s rs i h := by
    unfold acquireIndex
    dsimp only
    rw [namedLane_beyond s h]
  near s t l hl hx hr hv hg hn := by
    unfold State.acquires
    rw [hl, hr, hv, hg, hn]

theorem byLane_yield (p : Port) : ByLane p (yieldIndex p) (fun s l => s.yields p l) where
  lane s rs l := by
    unfold yieldIndex State.yields
    dsimp only
    rw [namedLane_val]
    cases hp : s.lanes[l].present with
    | false => exact ⟨s, rfl, stays s l, fun _ _ _ => rfl⟩
    | true =>
      rw [if_pos rfl, if_neg (by decide)]
      dsimp only
      split
      · next hb =>
        have holder : s.grants[l].holder.isSome = true := by
          unfold Grant.heldBy at hb
          split at hb
          · next e => rw [e]; rfl
          · cases hb
        obtain ⟨x, hx⟩ := Option.isSome_iff_exists.mp holder
        exact ⟨_, rfl, leaveLane_frame hx .yield, fun _ _ h => absurd rfl h⟩
      · split
        · have gone := setGrant_congr s l (f := fun g => g.without p) (g := fun _ => s.grants[l].without p) rfl
          exact ⟨_, rfl, gone ▸ .refl _, fun _ _ h => absurd rfl h⟩
        · exact ⟨s, rfl, stays s l, fun _ _ _ => rfl⟩
  beyond s rs i h := by
    unfold yieldIndex
    dsimp only
    rw [namedLane_beyond s h]
  near s t l hl hx hr hv hg hn := by
    unfold State.yields
    rw [hl, hg, hx]

/-! ### A set of lanes -/

/-- The arrival numbers that results use up. -/
def arrivals (rs : List (Nat × LaneResult)) : Nat := (rs.filter fun x => x.2 = .pending).length

theorem arrivals_cons (i : Nat) (x : LaneResult) (rs : List (Nat × LaneResult)) :
    arrivals ((i, x) :: rs) = x.arrivals + arrivals rs := by
  unfold arrivals LaneResult.arrivals
  rw [List.filter_cons]
  by_cases h : x = .pending
  · rw [if_pos (by simpa using h), if_pos h, List.length_cons, Nat.add_comm]
  · rw [if_neg (by simpa using h), if_neg h, Nat.zero_add]

/-- What a judgement lane by lane makes of a list of indices: each lane as alone, with the arrival numbers that those before
it left. -/
structure LanesJudged (e : State → Lane → LaneResult × Grant) (s : State) (is : List Nat) (t : State)
    (rs : List (Nat × LaneResult)) : Prop where
  named : rs.map (fun x => x.1) = is
  frame : SameButQueues ((s.setGrants t.grants).setNextArrival (s.nextArrival + arrivals rs)) t
  others : ∀ l : Lane, l.val ∉ is → t.grants[l] = s.grants[l]
  beyond : ∀ i x, (i, x) ∈ rs → 12 ≤ i → x = .badValue
  alone : ∀ (l : Lane) before after x, rs = before ++ (l.val, x) :: after →
    e (s.setNextArrival (s.nextArrival + arrivals before)) l = (x, t.grants[l])

theorem ByLane.judged {p : Port} {f : State × List (Nat × LaneResult) → Nat → State × List (Nat × LaneResult)}
    {e : State → Lane → LaneResult × Grant} (b : ByLane p f e) (is : List Nat) (hn : is.Nodup) (s : State)
    (out : List (Nat × LaneResult)) :
    ∃ rs, (is.foldl f (s, out)).2 = out ++ rs ∧ LanesJudged e s is (is.foldl f (s, out)).1 rs := by
  induction is generalizing s out with
  | nil =>
    refine ⟨[], (List.append_nil _).symm, rfl, ?_, fun _ _ => rfl, nofun, fun l before after x h => ?_⟩
    · exact .refl s
    · exact absurd h.symm (by simp)
  | cons i is ih =>
    obtain ⟨first, rest⟩ := List.nodup_cons.mp hn
    rw [List.foldl_cons]
    by_cases hi : 12 ≤ i
    · rw [b.beyond s out i hi]
      obtain ⟨rs, hr, judged⟩ := ih rest s (out ++ [(i, .badValue)])
      have count : arrivals ((i, LaneResult.badValue) :: rs) = arrivals rs := by
        rw [arrivals_cons]; simp [LaneResult.arrivals]
      refine ⟨(i, .badValue) :: rs, by rw [hr, List.append_assoc]; rfl, by rw [List.map_cons, judged.named],
        by rw [count]; exact judged.frame, fun l hl => judged.others l (List.not_mem_of_not_mem_cons hl), ?_, ?_⟩
      · rintro j x hj hb
        rcases List.mem_cons.mp hj with hj | hj
        · exact (Prod.mk.inj hj).2
        · exact judged.beyond j x hj hb
      · intro l before after x h
        cases before with
        | nil =>
          obtain ⟨hj, -⟩ := List.cons.inj h
          have : i = l.val := (Prod.mk.inj hj).1
          omega
        | cons y ys =>
          obtain ⟨hj, h⟩ := List.cons.inj h
          have same : arrivals (y :: ys) = arrivals ys := by
            rw [← hj, arrivals_cons]; simp [LaneResult.arrivals]
          rw [same]
          exact judged.alone l ys after x h
    · obtain ⟨l, rfl⟩ : ∃ l : Lane, i = l.val := ⟨⟨i, by omega⟩, rfl⟩
      obtain ⟨t, ht, frame, -⟩ := b.lane s out l
      rw [ht]
      obtain ⟨rs, hr, judged⟩ := ih rest t (out ++ [(l.val, (e s l).1)])
      have own : t.grants[l] = (e s l).2 := by
        rw [frame.grants, State.setNextArrival_grants, State.setGrant, State.setGrants_grants, updAt_same]
      have other : ∀ j : Lane, j ≠ l → t.grants[j] = s.grants[j] := fun j hj => by
        rw [frame.grants, State.setNextArrival_grants, State.setGrant, State.setGrants_grants, updAt_get, if_neg (Ne.symm hj)]
      have next : t.nextArrival = s.nextArrival + (e s l).1.arrivals := frame.nextArrival
      refine ⟨(l.val, (e s l).1) :: rs, by rw [hr, List.append_assoc]; rfl, by rw [List.map_cons, judged.named], ?_,
        fun j hj => ?_, ?_, ?_⟩
      · have later := judged.frame
        rw [arrivals_cons, ← Nat.add_assoc, ← next]
        refine SameButQueues.trans ?_ later
        exact { frame with grants := rfl, nextArrival := rfl }
      · rw [List.mem_cons, not_or] at hj
        rw [judged.others j hj.2, other j fun h => hj.1 (by rw [h])]
      · rintro j x hj hb
        rcases List.mem_cons.mp hj with hj | hj
        · have := (Prod.mk.inj hj).1
          have := l.isLt
          omega
        · exact judged.beyond j x hj hb
      · intro j before after x h
        cases before with
        | nil =>
          obtain ⟨hj, -⟩ := List.cons.inj h
          obtain ⟨hv, hx⟩ := Prod.mk.inj hj
          obtain rfl : l = j := Fin.ext hv
          rw [judged.others l first, own, ← hx]
          exact b.near _ _ _ rfl rfl rfl rfl rfl rfl
        | cons y ys =>
          obtain ⟨hy, later⟩ : _ ∧ rs = ys ++ (j.val, x) :: after := List.cons.inj h
          have ne : j ≠ l := by
            rintro rfl
            refine first ?_
            rw [← judged.named, later]
            simp
          rw [← judged.alone j ys after x later, ← hy, arrivals_cons, ← Nat.add_assoc, ← next]
          refine b.near _ _ _ ?_ ?_ ?_ ?_ ?_ rfl
          · exact frame.lanes.symm
          · exact frame.lens.symm
          · exact (frame.role p).symm
          · exact (frame.level p).symm
          · exact (other j ne).symm

end Sys2Proof.Machine
end

section
/-! PROOFS. ACQUIRE and YIELD as requests (O52): what the answer of one lane says, and the state it leaves. -/

namespace Sys2Proof.Machine

open Sys2Proof

/-! ### The request -/

/-- The request takes its lanes one by one with `f`, and leaves the reply paths to its answer. -/
structure SetRequest (rx : Rx) (c : LaneSet → Instr)
    (f : State × List (Nat × LaneResult) → Nat → State × List (Nat × LaneResult)) : Prop where
  refused : ∀ s, Takes rx s → exec (c 0) s = .next (replied rx (Answer.refused .badValue) (noteValid rx s))
  run : ∀ ls s, Takes rx s → ls ≠ 0 →
    exec (c ls) s = .next (replied rx
      { Answer.done with results := ((LaneSet.indices ls).foldl f (noteValid rx s, [])).2 }
      ((LaneSet.indices ls).foldl f (noteValid rx s, [])).1)
  replies : ∀ (is : List Nat) (s : State) (p : Port), ((is.foldl f (s, [])).1).ports[p].replies = s.ports[p].replies

/-- Changes of the grants and events leave the reply paths. -/
theorem keepsGrants_replies (s : State) : KeepsGrants (fun t => ∀ p : Port, t.ports[p].replies = s.ports[p].replies) :=
  keepsGrants_of ⟨fun aud body t h p => by rw [raiseFor_portFields aud body t p]; exact h p⟩ (fun _ _ h => h) fun _ _ h => h

theorem setRequest_acquire (rx : Rx) : SetRequest rx (fun x => .acquire rx (.fields x)) (acquireIndex rx.port) where
  refused s h := congrArg Host.Outcome.next (takeRequest_answered (judge := judgeAcquire rx.port) h rfl)
  run ls s h hl := by
    refine congrArg Host.Outcome.next (takeRequest_answered (judge := judgeAcquire rx.port) h ?_)
    rw [judgeAcquire, if_neg hl]
  replies is s p := by
    have kept := (keepsGrants_replies s)
    refine foldl_keeps (P := fun t => ∀ p : Port, t.ports[p].replies = s.ports[p].replies) (fun acc i ha => ?_) is
      (acc := (s, [])) (fun _ => rfl) p
    unfold acquireIndex
    dsimp only
    split
    · exact ha
    · split
      · repeat' split
        · exact ha
        · exact ha
        · exact ha
        · exact ha
        · exact kept.gain _ _ _ _ ha
        · exact kept.wait _ _ _ _ ha
      · exact ha

theorem setRequest_yield (rx : Rx) : SetRequest rx (fun x => .yield rx (.fields x)) (yieldIndex rx.port) where
  refused s h := congrArg Host.Outcome.next (takeRequest_answered (judge := judgeYield rx.port) h rfl)
  run ls s h hl := by
    refine congrArg Host.Outcome.next (takeRequest_answered (judge := judgeYield rx.port) h ?_)
    rw [judgeYield, if_neg hl]
  replies is s p := by
    have kept := (keepsGrants_replies s)
    refine foldl_keeps (P := fun t => ∀ p : Port, t.ports[p].replies = s.ports[p].replies) (fun acc i ha => ?_) is
      (acc := (s, [])) (fun _ => rfl) p
    unfold yieldIndex
    dsimp only
    split
    · exact ha
    · split
      · exact kept.leave _ _ _ ha
      · split
        · exact kept.grant _ _ _ ha
        · exact ha

theorem indices_one : ∀ l : Lane, LaneSet.indices (1#16 <<< l.val) = [l.val] := by decide

theorem one_ne_zero : ∀ l : Lane, (1#16 <<< l.val) ≠ 0 := by decide

theorem indices_nodup (ls : LaneSet) : (LaneSet.indices ls).Nodup := List.nodup_range.filter _

theorem not_mem_indices {ls : LaneSet} {l : Lane} (h : LaneSet.has ls l = false) : l.val ∉ LaneSet.indices ls := by
  intro hm
  have bit := (List.mem_filter.mp hm).2
  rw [LaneSet.has] at h
  rw [h] at bit
  cases bit

theorem takes_setNextArrival {rx : Rx} {s : State} (h : Takes rx s) (n : Nat) : Takes rx (s.setNextArrival n) := h

section One

variable {rx : Rx} {c : LaneSet → Instr} {f : State × List (Nat × LaneResult) → Nat → State × List (Nat × LaneResult)}
  {e : State → Lane → LaneResult × Grant} {s : State}

/-- The answer of a request for one lane. -/
def laneAnswer (l : Lane) (x : LaneResult) : Answer := { Answer.done with results := [(l.val, x)] }

/-- The state that a request for one lane leaves: its own lane's grant changes, its answer is on the path. -/
structure OneLane (rx : Rx) (l : Lane) (s : State) (x : LaneResult) (g : Grant) (t : State) : Prop where
  own : t.grants[l] = g
  others : ∀ j : Lane, j ≠ l → t.grants[j] = s.grants[j]
  lanes : t.lanes = s.lanes
  replies : t.ports[rx.port].replies = s.ports[rx.port].replies ++ [(laneAnswer l x).reply rx.tag .ordinary]
  arrival : t.nextArrival = s.nextArrival + x.arrivals

/-- One lane: the result and the grant are what the judgement gives there. -/
theorem SetRequest.one (r : SetRequest rx c f) (b : ByLane rx.port f e) (ht : Takes rx s) (l : Lane) :
    (∃ t, exec (c (1#16 <<< l.val)) s = .next t ∧ OneLane rx l s (e (noteValid rx s) l).1 (e (noteValid rx s) l).2 t) ∧
    ((e (noteValid rx s) l).1 ≠ .gained → (e (noteValid rx s) l).1 ≠ .pending → (e (noteValid rx s) l).1 ≠ .released →
      exec (c (1#16 <<< l.val)) s = .next (replied rx (laneAnswer l (e (noteValid rx s) l).1) (noteValid rx s))) := by
  obtain ⟨u, hu, frame, still⟩ := b.lane (noteValid rx s) [] l
  have folded : (LaneSet.indices (1#16 <<< l.val)).foldl f (noteValid rx s, []) =
      (u, [(l.val, (e (noteValid rx s) l).1)]) := by
    rw [indices_one, List.foldl_cons, List.foldl_nil, hu, List.nil_append]
  have run : exec (c (1#16 <<< l.val)) s = .next (replied rx
      { Answer.done with results := ((LaneSet.indices (1#16 <<< l.val)).foldl f (noteValid rx s, [])).2 }
      ((LaneSet.indices (1#16 <<< l.val)).foldl f (noteValid rx s, [])).1) := r.run _ s ht (one_ne_zero l)
  have kept := r.replies (LaneSet.indices (1#16 <<< l.val)) (noteValid rx s) rx.port
  rw [folded] at run kept
  change exec _ s = .next (replied rx (laneAnswer l (e (noteValid rx s) l).1) u) at run
  have active : u.isActive rx.port = true := by
    rw [State.isActive, frame.link rx.port]
    exact (noteValid_isActive (rx := rx) (s := s) (p := rx.port)).trans ht.1
  have ended := ended_replied rx (laneAnswer l (e (noteValid rx s) l).1) u
  refine ⟨⟨_, run, ?_, fun j hj => ?_, ?_, ?_, ?_⟩, fun h1 h2 h3 => ?_⟩
  · rw [ended.grants, frame.grants, State.setNextArrival_grants, State.setGrant, State.setGrants_grants, updAt_same]
  · rw [ended.grants, frame.grants, State.setNextArrival_grants, State.setGrant, State.setGrants_grants, updAt_get,
      if_neg (Ne.symm hj)]
    rfl
  · exact ended.lanes.trans frame.lanes
  · rw [replied_replies active, kept, noteValid_replies]
  · exact ended.nextArrival.trans frame.nextArrival
  · rw [run, still h1 h2 h3]

/-- A set of lanes: each as alone, with the arrival numbers that those before it left. -/
theorem SetRequest.set (r : SetRequest rx c f) (b : ByLane rx.port f e) (ht : Takes rx s) {ls : LaneSet} (hl : ls ≠ 0) :
    ∃ t rs, exec (c ls) s = .next t ∧ rs.map (fun x : Nat × LaneResult => x.1) = LaneSet.indices ls ∧
      t.ports[rx.port].replies = s.ports[rx.port].replies ++
        [({ Answer.done with results := rs } : Answer).reply rx.tag .ordinary] ∧
      t.nextArrival = s.nextArrival + arrivals rs ∧
      (∀ (i : Nat) (x : LaneResult), (i, x) ∈ rs → 12 ≤ i → x = .badValue) ∧
      (∀ l : Lane, LaneSet.has ls l = false → t.grants[l] = s.grants[l]) ∧
      ∀ (l : Lane) (before after : List (Nat × LaneResult)) (x : LaneResult), rs = before ++ (l.val, x) :: after →
        ∃ u, exec (c (1#16 <<< l.val)) (s.setNextArrival (s.nextArrival + arrivals before)) = .next u ∧
          t.grants[l] = u.grants[l] ∧ t.lanes[l] = u.lanes[l] ∧
          u.ports[rx.port].replies = s.ports[rx.port].replies ++
            [({ Answer.done with results := [(l.val, x)] } : Answer).reply rx.tag .ordinary] := by
  obtain ⟨rs, hr, judged⟩ := b.judged (LaneSet.indices ls) (indices_nodup ls) (noteValid rx s) []
  rw [List.nil_append] at hr
  have run := r.run ls s ht hl
  rw [hr] at run
  have kept := r.replies (LaneSet.indices ls) (noteValid rx s) rx.port
  generalize ((LaneSet.indices ls).foldl f (noteValid rx s, [])).1 = t at run judged kept
  have active : t.isActive rx.port = true := by
    rw [State.isActive, judged.frame.link rx.port]
    exact (noteValid_isActive (rx := rx) (s := s) (p := rx.port)).trans ht.1
  have ended := ended_replied rx { Answer.done with results := rs } t
  refine ⟨_, rs, run, judged.named, ?_, ended.nextArrival.trans judged.frame.nextArrival, judged.beyond, fun l hl => ?_,
    fun l before after x h => ?_⟩
  · rw [replied_replies active, kept, noteValid_replies]
  · rw [ended.grants, judged.others l (not_mem_indices hl)]
    rfl
  · obtain ⟨⟨u, hu, one⟩, -⟩ := r.one b (takes_setNextArrival ht (s.nextArrival + arrivals before)) l
    have alone := judged.alone l before after x h
    have same : e (noteValid rx (s.setNextArrival (s.nextArrival + arrivals before))) l = (x, t.grants[l]) := alone
    refine ⟨u, hu, ?_, ?_, ?_⟩
    · rw [ended.grants, one.own, same]
    · rw [ended.lanes, judged.frame.lanes, one.lanes]
      rfl
    · rw [one.replies, same]
      rfl

end One

/-! ### What a request finds on one lane -/

section Found

variable {s : State} {p : Port} {l : Lane}

theorem acquires_absent (h : s.lanes[l].present = false) : s.acquires p l = (.badValue, s.grants[l]) := by
  rw [State.acquires, h]
  rfl

theorem yields_absent (h : s.lanes[l].present = false) : s.yields p l = (.badValue, s.grants[l]) := by
  rw [State.yields, h]
  rfl

theorem heldBy_iff {g : Grant} : g.heldBy p = true ↔ ∃ h, g.holder = some h ∧ h.who = .station p := by
  unfold Grant.heldBy
  cases g.holder <;> simp

theorem waits_iff {g : Grant} : g.waits p = true ↔ ∃ e ∈ g.waiting, e.port = p := by simp [Grant.waits]

theorem stacks_iff {g : Grant} : g.stacks p = true ↔ ∃ e ∈ g.stack, e.port = p := by simp [Grant.stacks]

/-- R39: the lanes a role may acquire. -/
theorem roleRight_iff (r : Role) (l : Lane) : roleRight r l = true ↔
    r = .motion ∨ r = .assist ∨ (r = .arm ∧ (l.val ≤ 5 ∨ 9 ≤ l.val)) ∨ (r = .lens ∧ 6 ≤ l.val ∧ l.val ≤ 8) := by
  cases r <;> simp [roleRight]

/-- R39: a role that may acquire a lane has a level. -/
theorem roleLevel_of_right {r : Role} {l : Lane} (h : roleRight r l = true) : ∃ q, roleLevel r = some q := by
  cases r with
  | observer => cases h
  | motion => exact ⟨2, rfl⟩
  | arm => exact ⟨3, rfl⟩
  | lens => exact ⟨3, rfl⟩
  | assist => exact ⟨4, rfl⟩

variable {r : Role} (hp : s.lanes[l].present = true) (hr : s.ports[p].role = some r)

include hp

include hr in
theorem acquires_noRight (h : ¬ roleRight r l = true) : s.acquires p l = (.noRight, s.grants[l]) := by
  rw [State.acquires, hp, hr]
  simp only [Bool.not_true, Bool.false_eq_true, if_false, Option.any_some, h]

/-- R42: a station with the right, from the parking on. -/
theorem acquires_right (h : roleRight r l = true) {q : Nat} (hr : s.ports[p].role = some r) (hq : s.ports[p].level = some q) :
    s.acquires p l =
      if s.lanes[l].condition = .parked then (.wrongState, s.grants[l])
      else if s.grants[l].heldBy p then (.holding, s.grants[l])
      else if s.grants[l].waits p then (.waiting, s.grants[l])
      else if s.grants[l].stacks p then (.suspended, s.grants[l])
      else if q < s.grants[l].level then (.gained, s.grants[l].preempted (.station p) q s.lanes[l].p)
      else (.pending, { s.grants[l] with
        waiting := s.grants[l].waiting ++ [{ port := p, level := q, arrival := s.nextArrival }] }) := by
  rw [State.acquires, hp, hr, hq]
  simp only [Bool.not_true, Bool.false_eq_true, if_false, Option.any_some, h, if_true]

theorem yields_present : s.yields p l =
    if s.grants[l].heldBy p then (.released, chooseNext s.lens l s.lanes[l].p s.grants[l])
    else if s.grants[l].stacks p || s.grants[l].waits p then (.released, s.grants[l].without p)
    else (.notHeld, s.grants[l]) := by
  rw [State.yields, hp]
  rfl

end Found

/-- R45: an entry that comes before every other waiting one is the best. -/
theorem bestPending_of_first {es : List PendEntry} {e : PendEntry} (he : e ∈ es)
    (hf : ∀ x ∈ es, x = e ∨ e.level < x.level ∨ (e.level = x.level ∧ e.arrival < x.arrival)) : bestPending es = some e := by
  cases hb : bestPending es with
  | none => rw [bestPending_eq_none.mp hb] at he; cases he
  | some b =>
    obtain ⟨mem, best⟩ := bestPending_best hb
    rcases hf b mem with rfl | first
    · rfl
    · have := best e he
      rw [(PendEntry.before_iff e b).mpr first] at this
      cases this

/-- R45: with a waiting entry that comes first and before the top of the stack, it gains the lane. -/
theorem nextHolder_granted {g : Grant} {e : PendEntry} (hb : bestPending g.waiting = some e)
    (hs : ∀ top, g.stack.head? = some top → e.level < top.level) : nextHolder g = .grant e := by
  rcases nextHolder_cases g with ⟨x, hn, hx, -⟩ | ⟨top, more, -, hst, weak⟩ | ⟨-, -, hw⟩
  · rw [hn, Option.some.inj (hx.symm.trans hb)]
  · have := hs top (by rw [hst]; rfl)
    have := weak e hb
    omega
  · rw [hw] at hb
    cases hb

/-- R45: with no waiting entry stronger than the top of the stack, that is restored. -/
theorem nextHolder_restored {g : Grant} {top : StackEntry} {rest : List StackEntry} (hs : g.stack = top :: rest)
    (hw : ∀ e ∈ g.waiting, top.level ≤ e.level) : nextHolder g = .restore top := by
  rcases nextHolder_cases g with ⟨x, -, hx, strong⟩ | ⟨y, more, hn, hst, -⟩ | ⟨-, hst, -⟩
  · have := strong top rest hs
    have := hw x (bestPending_best hx).1
    omega
  · rw [hs] at hst
    rw [hn, (List.cons.inj hst).1]
  · rw [hs] at hst
    cases hst

/-- Settles O52: what a request finds on a lane decides its result and the lane's grant state; a set of lanes is judged lane by
lane. -/
theorem acquireAndYieldOneLane : Obligations.AcquireAndYieldOneLane := by
  unfold Obligations.AcquireAndYieldOneLane
  refine ⟨fun rx s h => ⟨(setRequest_acquire rx).refused s h, (setRequest_yield rx).refused s h⟩, fun rx ls s h hl c hc => ?_,
    fun rx l r s h hr hlevel => ?_⟩
  · rcases hc with rfl | rfl
    · exact (setRequest_acquire rx).set (byLane_acquire rx.port) h hl
    · exact (setRequest_yield rx).set (byLane_yield rx.port) h hl
  · have acquired := (setRequest_acquire rx).one (byLane_acquire rx.port) h l
    have yielded := (setRequest_yield rx).one (byLane_yield rx.port) h l
    replace hlevel : s.ports[rx.port].level = roleLevel r := by rw [hlevel]; cases r <;> rfl
    have role : (noteValid rx s).ports[rx.port].role = some r := by rw [noteValid_role]; exact hr
    dsimp only
    rw [← roleRight_iff, ← heldBy_iff, ← waits_iff, ← stacks_iff]
    -- The two ways a request for one lane ends, for the result and the grant state that its judgement gives.
    have same : ∀ {c : Instr} {j : LaneResult × Grant} {x g}, j = (x, g) →
        (j.1 ≠ .gained → j.1 ≠ .pending → j.1 ≠ .released →
          exec c s = .next (replied rx (laneAnswer l j.1) (noteValid rx s))) →
        x ≠ .gained → x ≠ .pending → x ≠ .released → exec c s = .next (replied rx (laneAnswer l x) (noteValid rx s)) := by
      rintro c j x g rfl still h1 h2 h3
      exact still h1 h2 h3
    have changed : ∀ {c : Instr} {j : LaneResult × Grant} {x g}, j = (x, g) →
        (∃ t, exec c s = .next t ∧ OneLane rx l s j.1 j.2 t) →
        ∃ t, exec c s = .next t ∧ ((∀ i : Lane, i ≠ l → t.grants[i] = s.grants[i]) ∧ t.lanes = s.lanes ∧
          t.ports[rx.port].replies = s.ports[rx.port].replies ++ [(laneAnswer l x).reply rx.tag .ordinary]) ∧
          t.nextArrival = s.nextArrival + x.arrivals ∧ t.grants[l] = g := by
      rintro c j x g rfl ⟨t, run, one⟩
      exact ⟨t, run, ⟨one.others, one.lanes, one.replies⟩, one.arrival, one.own⟩
    refine ⟨fun hp => ⟨?_, ?_⟩, fun hp => ?_⟩
    · exact same (acquires_absent (s := noteValid rx s) hp) acquired.2 nofun nofun nofun
    · exact same (yields_absent (s := noteValid rx s) hp) yielded.2 nofun nofun nofun
    have found := yields_present (s := noteValid rx s) (p := rx.port) hp
    have leaves : s.grants[l].heldBy rx.port = true → ∀ g, chooseNext s.lens l s.lanes[l].p s.grants[l] = g →
        ∃ t, exec (.yield rx (.fields (1#16 <<< l.val))) s = .next t ∧
          ((∀ i : Lane, i ≠ l → t.grants[i] = s.grants[i]) ∧ t.lanes = s.lanes ∧
            t.ports[rx.port].replies = s.ports[rx.port].replies ++ [(laneAnswer l .released).reply rx.tag .ordinary]) ∧
          t.grants[l] = g := by
      rintro hb g rfl
      obtain ⟨t, run, other, -, own⟩ := changed (found.trans (if_pos hb)) yielded.1
      exact ⟨t, run, other, own⟩
    refine ⟨fun hn => ?_, fun hright hparked => ?_, fun hright hparked => ?_, fun hb hw hs => ?_, fun hb hws => ?_,
      fun hb => ⟨fun hs hw => ?_, fun top rest hs hw => ?_, fun e he first strong => ?_⟩⟩
    · exact same (acquires_noRight (s := noteValid rx s) hp role hn) acquired.2 nofun nofun nofun
    · obtain ⟨q, hq⟩ : ∃ q, s.ports[rx.port].level = some q := by
        exact hlevel ▸ roleLevel_of_right hright
      have judged := acquires_right (s := noteValid rx s) hp hright role (q := q) (by rw [noteValid_level]; exact hq)
      exact same (judged.trans (if_pos hparked)) acquired.2 nofun nofun nofun
    · have judged := fun q (hq : s.ports[rx.port].level = some q) =>
        (acquires_right (s := noteValid rx s) hp hright role (q := q) (by rw [noteValid_level]; exact hq)).trans (if_neg hparked)
      obtain ⟨q, hq⟩ : ∃ q, s.ports[rx.port].level = some q := hlevel ▸ roleLevel_of_right hright
      have judged := judged q hq
      refine ⟨fun hb => ?_, fun hb hw => ?_, fun hb hw hs => ?_, fun q' hb hw hs hq' => ?_⟩
      · exact same (judged.trans (if_pos hb)) acquired.2 nofun nofun nofun
      · exact same (judged.trans ((if_neg hb).trans (if_pos hw))) acquired.2 nofun nofun nofun
      · exact same (judged.trans ((if_neg hb).trans ((if_neg hw).trans (if_pos hs)))) acquired.2 nofun nofun nofun
      · obtain rfl : q = q' := Option.some.inj (hq.symm.trans hq')
        have judged := judged.trans ((if_neg hb).trans ((if_neg hw).trans (if_neg hs)))
        refine ⟨fun below => ?_, fun above => ?_⟩
        · obtain ⟨t, run, other, arrival, own⟩ := changed (judged.trans (if_pos below)) acquired.1
          refine ⟨t, run, other, arrival, own.trans ?_⟩
          change (s.grants[l]).preempted _ _ _ = _
          unfold Grant.preempted
          cases s.grants[l].holder with
          | none => rfl
          | some x =>
            obtain ⟨who, level, setpoint, context⟩ := x
            cases who with
            | station o => rfl
            | playback => rfl
        · obtain ⟨t, run, other, arrival, own⟩ := changed (judged.trans (if_neg (Nat.not_lt.mpr above))) acquired.1
          exact ⟨t, run, other, arrival, own⟩
    · have absent : ¬ (s.grants[l].stacks rx.port || s.grants[l].waits rx.port) = true := by
        rw [Bool.or_eq_true]
        exact fun h => h.elim hs hw
      exact same (found.trans ((if_neg hb).trans (if_neg absent))) yielded.2 nofun nofun nofun
    · have placed : (s.grants[l].stacks rx.port || s.grants[l].waits rx.port) = true := by
        rw [Bool.or_eq_true]
        exact hws.symm
      obtain ⟨t, run, other, -, own⟩ := changed (found.trans ((if_neg hb).trans (if_pos placed))) yielded.1
      exact ⟨t, run, other, own⟩
    · refine leaves hb _ ?_
      have next : nextHolder s.grants[l] = .hold := by rw [nextHolder, hs, hw]; rfl
      rw [chooseNext, next, hs, hw]
    · refine leaves hb _ ?_
      rw [chooseNext, nextHolder_restored hs hw, hs]
      rfl
    · refine leaves hb _ ?_
      rw [chooseNext, nextHolder_granted (bestPending_of_first he first) strong]
      rfl

end Sys2Proof.Machine
end

section
/-! PROOFS. DEMAND and TRIM (O53, R53 to R57): what one entry makes of the state it finds and what it reports; a list adds its
entries up. -/

namespace Sys2Proof.Machine

open Sys2Proof

/-! ### Lists of entries -/

/-- What two parts of a request report together. -/
def Tally.plus (x y : Tally) : Tally :=
  { ignored := x.ignored + y.ignored, badValue := x.badValue || y.badValue, lensInvalid := x.lensInvalid || y.lensInvalid,
    adjusted := x.adjusted || y.adjusted }

theorem Tally.plus_zero (x : Tally) : x.plus Tally.zero = x := by simp [Tally.plus, Tally.zero]

theorem Tally.plus_assoc (x y z : Tally) : (x.plus y).plus z = x.plus (y.plus z) := by
  simp [Tally.plus, Nat.add_assoc, Bool.or_assoc]

/-- Entries that add what they report to the tally before them: so does a list of them. -/
theorem foldl_tally {ε : Type} {f : State × Tally → ε → State × Tally}
    (hf : ∀ s t e, f (s, t) e = ((f (s, Tally.zero) e).1, t.plus (f (s, Tally.zero) e).2)) (es : List ε) (s : State) (t : Tally) :
    es.foldl f (s, t) = ((es.foldl f (s, Tally.zero)).1, t.plus (es.foldl f (s, Tally.zero)).2) := by
  induction es generalizing s t with
  | nil => rw [List.foldl_nil, List.foldl_nil, Tally.plus_zero]
  | cons e es ih =>
    rw [List.foldl_cons, List.foldl_cons, hf, ih, ← Prod.mk.eta (p := f (s, Tally.zero) e),
      ih (f (s, Tally.zero) e).1 (f (s, Tally.zero) e).2, Tally.plus_assoc]

theorem demandEntry_plus (p : Port) (s : State) (t : Tally) (e : DemandEntry) : demandEntry p (s, t) e =
    ((demandEntry p (s, Tally.zero) e).1, t.plus (demandEntry p (s, Tally.zero) e).2) := demandEntry_tally p s t e

theorem trimEntry_plus (p : Port) (s : State) (t : Tally) (e : TrimEntry) : trimEntry p (s, t) e =
    ((trimEntry p (s, Tally.zero) e).1, t.plus (trimEntry p (s, Tally.zero) e).2) := trimEntry_tally p s t e

section Request

variable {rx : Rx} {s : State}

theorem demand_run (h : Takes rx s) (es : List DemandEntry) : exec (.demand rx (.fields es)) s = .next (replied rx
    (es.foldl (demandEntry rx.port) (noteValid rx s, Tally.zero)).2.answer
    (es.foldl (demandEntry rx.port) (noteValid rx s, Tally.zero)).1) := by
  refine congrArg Host.Outcome.next (takeRequest_answered (judge := judgeDemand rx.port) h ?_)
  rw [judgeDemand]

theorem trim_run (h : Takes rx s) (es : List TrimEntry) : exec (.trim rx (.fields es)) s = .next (replied rx
    (es.foldl (trimEntry rx.port) (noteValid rx s, Tally.zero)).2.answer
    (es.foldl (trimEntry rx.port) (noteValid rx s, Tally.zero)).1) := by
  refine congrArg Host.Outcome.next (takeRequest_answered (judge := judgeTrim rx.port) h ?_)
  rw [judgeTrim]

theorem demand_one (h : Takes rx s) {e : DemandEntry} {t : State} {x : Tally}
    (he : demandEntry rx.port (noteValid rx s, Tally.zero) e = (t, x)) :
    exec (.demand rx (.fields [e])) s = .next (replied rx x.answer t) := by
  rw [demand_run h, List.foldl_cons, List.foldl_nil, he]

theorem trim_one (h : Takes rx s) {e : TrimEntry} {t : State} {x : Tally}
    (he : trimEntry rx.port (noteValid rx s, Tally.zero) e = (t, x)) :
    exec (.trim rx (.fields [e])) s = .next (replied rx x.answer t) := by
  rw [trim_run h, List.foldl_cons, List.foldl_nil, he]

end Request

/-! ### One entry -/

/-- What an ignored entry reports. -/
def Tally.ignoring (badValue lensInvalid adjusted : Bool) : Tally :=
  { ignored := 1, badValue := badValue, lensInvalid := lensInvalid, adjusted := adjusted }

section Demand

variable (p : Port) {s : State} {l : Lane} {k : DemandKind} {v : Int}

theorem demandEntry_unnamed {i : Nat} (h : s.namedLane i = none) :
    demandEntry p (s, Tally.zero) { lane := i, kind := k, value := v } =
      (s, .ignoring true false (clampDemand k v ≠ v)) := by
  unfold demandEntry
  dsimp only
  rw [h]
  simp [Tally.zero, Tally.adjust, Tally.ignoring]

theorem demandEntry_noTable (hp : s.lanes[l].present = true) (ht : s.lens.table l = none) :
    demandEntry p (s, Tally.zero) { lane := l.val, kind := .lens, value := v } =
      (s, .ignoring false true (clampDemand .lens v ≠ v)) := by
  unfold demandEntry
  dsimp only
  rw [namedLane_val, if_pos hp]
  dsimp only
  rw [ht]
  simp [Tally.zero, Tally.adjust, Tally.ignoring]

/-- A lane whose demand the station may not set: no holder, or another. -/
theorem demandEntry_refused (hp : s.lanes[l].present = true) (hk : k = .lens → s.lens.table l ≠ none)
    (ht : s.takesDemand p l = false) :
    demandEntry p (s, Tally.zero) { lane := l.val, kind := k, value := v } =
      (s, .ignoring false false (clampDemand k v ≠ v)) := by
  have kind : ¬ (decide (k = .lens) && (s.lens.table l).isNone) = true := by
    rw [Bool.and_eq_true, decide_eq_true_eq, Option.isNone_iff_eq_none]
    exact fun h => hk h.1 h.2
  unfold demandEntry
  dsimp only
  rw [namedLane_val, if_pos hp]
  dsimp only
  rw [if_neg kind]
  split
  · simp [Tally.zero, Tally.adjust, Tally.ignoring]
  · rw [ht]
    simp [Tally.zero, Tally.adjust, Tally.ignoring]

/-- R53: the context that the entry leaves. -/
theorem demandEntry_taken {h : Hold} (hp : s.lanes[l].present = true) (hk : k = .lens → s.lens.table l ≠ none)
    (hh : s.grants[l].holder = some h) (ht : s.takesDemand p l = true) {c : Context} {adjusted : Bool}
    (hc : takeDemand k v (fun u => forwardMap ((s.lens.table l).getD []) u) s.lanes[l].p h.ctx = (c, adjusted))
    (ha : (decide (clampDemand k v ≠ v) || adjusted) = adjusted) :
    demandEntry p (s, Tally.zero) { lane := l.val, kind := k, value := v } =
      (s.setGrant l fun g => { g with holder := some { h with ctx := c } }, { Tally.zero with adjusted := adjusted }) := by
  have kind : ¬ (decide (k = .lens) && (s.lens.table l).isNone) = true := by
    rw [Bool.and_eq_true, decide_eq_true_eq, Option.isNone_iff_eq_none]
    exact fun h => hk h.1 h.2
  have grant : s.setGrant l (setHolderCtx c) = s.setGrant l fun g => { g with holder := some { h with ctx := c } } :=
    setGrant_congr s l (by rw [setHolderCtx, hh]; rfl)
  unfold demandEntry
  dsimp only
  rw [namedLane_val, if_pos hp]
  dsimp only
  rw [if_neg kind, hh]
  dsimp only
  rw [ht, hc, grant]
  simp only [Tally.adjust, Tally.zero, Bool.false_or, ha]
  rfl

end Demand

section Context

variable {v p : Int} {m : Int → Int} {c : Context}

theorem clampInt_mem {lo hi : Int} (h : lo ≤ hi) (x : Int) : lo ≤ clampInt lo hi x ∧ clampInt lo hi x ≤ hi := by
  unfold clampInt
  split
  · omega
  · split <;> omega

theorem clampInt_of_mem {lo hi x : Int} (h : lo ≤ x ∧ x ≤ hi) : clampInt lo hi x = x := by
  unfold clampInt
  rw [if_neg (by omega), if_neg (by omega)]

/-- A switch to the first demand of a kind keeps the target at P (R51, R54). -/
theorem switched_target {p v : Int} (hp : p.natAbs ≤ 274877906944) (hv : -274877906944 ≤ v ∧ v ≤ 274877906944) :
    v + clampOff (p - v) = p := by
  rw [clampOff, clampInt_of_mem (by unfold offBound; omega)]
  omega

theorem takeDemand_same {k : DemandKind} (hk : c.kind = k) (hd : c.d ≠ none) (hs : k ≠ .step) :
    takeDemand k v m p c = ({ c with d := some (clampDemand k v) }, decide (clampDemand k v ≠ v)) := by
  have same : (decide (c.kind = k) && c.d.isSome) = true := by
    rw [Bool.and_eq_true, decide_eq_true_eq]
    exact ⟨hk, Option.isSome_iff_ne_none.mpr hd⟩
  cases k with
  | step => exact absurd rfl hs
  | abs => simp only [takeDemand, same, if_true]
  | lens => simp only [takeDemand, same, if_true]

theorem takeDemand_step_same (hk : c.kind = .step) (hd : c.d ≠ none) :
    takeDemand .step v m p c = ({ c with d := some (clampPos (c.d.getD 0 + clampPos v)) },
      decide (clampPos v ≠ v) || decide (clampPos (c.d.getD 0 + clampPos v) ≠ c.d.getD 0 + clampPos v)) := by
  have same : (decide (c.kind = .step) && c.d.isSome) = true := by
    rw [Bool.and_eq_true, decide_eq_true_eq]
    exact ⟨hk, Option.isSome_iff_ne_none.mpr hd⟩
  simp only [takeDemand, clampDemand, same, if_true]
  rfl

theorem not_same {k : DemandKind} (h : c.kind ≠ k ∨ c.d = none) : (decide (c.kind = k) && c.d.isSome) = false := by
  rcases h with h | h
  · rw [decide_eq_false h, Bool.false_and]
  · rw [h, Option.isSome_none, Bool.and_false]

theorem takeDemand_abs_switch (h : c.kind ≠ .abs ∨ c.d = none) :
    takeDemand .abs v m p c =
      ({ c with kind := .abs, d := some (clampPos v), o := clampOff (p - clampPos v) }, decide (clampPos v ≠ v)) := by
  simp only [takeDemand, clampDemand, not_same h, Bool.false_eq_true, if_false]
  rfl

theorem takeDemand_lens_switch (h : c.kind ≠ .lens ∨ c.d = none) :
    takeDemand .lens v m p c = ({ c with kind := .lens, d := some (clampInt 0 userMax v),
                                         o := clampOff (p - m (clampInt 0 userMax v)) }, decide (clampInt 0 userMax v ≠ v)) := by
  simp only [takeDemand, clampDemand, not_same h, Bool.false_eq_true, if_false]
  rfl

/-- R56: the first STEP entry adds to 0. -/
theorem takeDemand_step_switch (h : c.kind ≠ .step ∨ c.d = none) :
    takeDemand .step v m p c =
      ({ c with kind := .step, d := some (clampPos v), o := clampOff p }, decide (clampPos v ≠ v)) := by
  have idem : clampPos (0 + clampPos v) = clampPos v := by
    rw [Int.zero_add]
    exact clampInt_of_mem (clampInt_mem (by decide) v)
  simp only [takeDemand, clampDemand, not_same h, Bool.false_eq_true, if_false, idem]
  rw [Int.zero_add]
  simp only [ne_eq, not_true, decide_false, Bool.or_false]
  rfl

end Context

section Trim

variable (p : Port) {s : State} {l : Lane} {v : Nat}

theorem trimEntry_unnamed {i : Nat} (h : s.namedLane i = none) :
    trimEntry p (s, Tally.zero) { lane := i, scale := v } =
      (s, .ignoring true false (clampNat 0 fullScale v ≠ v)) := by
  unfold trimEntry
  dsimp only
  rw [h]
  simp [Tally.zero, Tally.adjust, Tally.ignoring]

theorem trimEntry_present (hp : s.lanes[l].present = true) :
    trimEntry p (s, Tally.zero) { lane := l.val, scale := v } =
      let t := Tally.zero.adjust (clampNat 0 fullScale v ≠ v)
      let g := s.grants[l]
      if g.heldByPlayback then (s, { t with ignored := t.ignored + 1 })
      else if g.heldBy p then
        (s.setGrant l fun g =>
          { g with holder := g.holder.map fun h => { h with ctx := { h.ctx with trim := clampNat 0 fullScale v } } }, t)
      else if g.stacks p then
        (s.setGrant l fun g => { g with
          stack := g.stack.map fun x => if x.port = p then { x with ctx := { x.ctx with trim := clampNat 0 fullScale v } } else x }, t)
      else (s, { t with ignored := t.ignored + 1 }) := by
  unfold trimEntry
  dsimp only
  rw [namedLane_val, if_pos hp]

theorem zero_adjust (b : Bool) : Tally.zero.adjust b = { Tally.zero with adjusted := b } := by
  rw [Tally.adjust, Tally.zero, Bool.false_or]

/-- A lane where the station holds no context that is in use. -/
theorem trimEntry_ignored (hp : s.lanes[l].present = true)
    (h : s.grants[l].heldByPlayback = true ∨ s.grants[l].heldBy p = false ∧ s.grants[l].stacks p = false) :
    trimEntry p (s, Tally.zero) { lane := l.val, scale := v } = (s, .ignoring false false (clampNat 0 fullScale v ≠ v)) := by
  rw [trimEntry_present p hp]
  dsimp only
  rw [zero_adjust]
  rcases h with h | ⟨held, stacked⟩
  · rw [if_pos h]
    rfl
  · rw [held, stacked]
    split <;> rfl

theorem heldByPlayback_iff {g : Grant} : g.heldByPlayback = true ↔ ∃ h, g.holder = some h ∧ h.who = .playback := by
  unfold Grant.heldByPlayback
  cases g.holder <;> simp

theorem trimEntry_held {h : Hold} (hp : s.lanes[l].present = true) (hh : s.grants[l].holder = some h)
    (hw : h.who = .station p) :
    trimEntry p (s, Tally.zero) { lane := l.val, scale := v } =
      (s.setGrant l fun g => { g with holder := some { h with ctx := { h.ctx with trim := clampNat 0 fullScale v } } },
        { Tally.zero with adjusted := clampNat 0 fullScale v ≠ v }) := by
  have playback : ¬ s.grants[l].heldByPlayback = true := by
    rw [Grant.heldByPlayback, hh]
    simp [hw]
  have held : s.grants[l].heldBy p = true := heldBy_iff.mpr ⟨h, hh, hw⟩
  rw [trimEntry_present p hp]
  dsimp only
  rw [if_neg playback, if_pos held, zero_adjust]
  refine congrArg (·, _) (setGrant_congr s l ?_)
  rw [hh]
  rfl

theorem trimEntry_stacked (hp : s.lanes[l].present = true) (hb : s.grants[l].heldByPlayback = false)
    (hh : s.grants[l].heldBy p = false) (hs : s.grants[l].stacks p = true) :
    trimEntry p (s, Tally.zero) { lane := l.val, scale := v } =
      (s.setGrant l fun g => { g with stack := g.stack.map fun x =>
          if x.port = p then { x with ctx := { x.ctx with trim := clampNat 0 fullScale v } } else x },
        { Tally.zero with adjusted := clampNat 0 fullScale v ≠ v }) := by
  rw [trimEntry_present p hp]
  dsimp only
  rw [hb, hh, hs, zero_adjust]
  rfl

end Trim

/-! ### Whose demand a lane follows -/

theorem takesDemand_none {s : State} {p : Port} {l : Lane} (h : s.grants[l].holder = none) : s.takesDemand p l = false := by
  rw [State.takesDemand, Grant.heldBy, Grant.heldByPlayback, h]
  rfl

/-- R53, R128: the holder's station, and in a segment the MOTION station for playback. -/
theorem takesDemand_iff {s : State} {p : Port} {l : Lane} {h : Hold} (ha : s.isActive p = true) (hh : s.grants[l].holder = some h) :
    s.takesDemand p l = true ↔ h.who = .station p ∨ (h.who = .playback ∧ s.ports[p].role = some .motion ∧
      s.play.state = .deferred ∧ s.participates l = true) := by
  rw [State.takesDemand, Grant.heldBy, Grant.heldByPlayback, hh, State.isMotion, ha, Bool.true_and]
  simp only [Bool.or_eq_true, Bool.and_eq_true, decide_eq_true_eq, and_assoc]

/-- Settles O53: one entry by the lane it names, who holds the lane and the context there; a list adds its entries up. -/
theorem demandAndTrimEntries : Obligations.DemandAndTrimEntries := by
  unfold Obligations.DemandAndTrimEntries
  intro rx l value scale s ht
  dsimp only
  have active : (noteValid rx s).isActive rx.port = true :=
    (noteValid_isActive (rx := rx) (s := s) (p := rx.port)).trans ht.1
  have takes : ∀ {h}, s.grants[l].holder = some h → ((noteValid rx s).takesDemand rx.port l = true ↔
      h.who = .station rx.port ∨ (h.who = .playback ∧ s.ports[rx.port].role = some .motion ∧
        s.play.state = .deferred ∧ s.participates l = true)) := fun hh => by
    rw [takesDemand_iff (s := noteValid rx s) active hh, noteValid_role]
    rfl
  -- The reports of the entries that change nothing.
  have unnamed := fun (k : DemandKind) i (h : (noteValid rx s).namedLane i = none) =>
    demand_one ht (demandEntry_unnamed (k := k) (v := value) rx.port h)
  have unnamedTrim := fun i (h : (noteValid rx s).namedLane i = none) =>
    trim_one ht (trimEntry_unnamed (v := scale) rx.port h)
  have refused := fun (k : DemandKind) (hp : s.lanes[l].present = true) (hk : k = .lens → s.lens.table l ≠ none)
      (h : (noteValid rx s).takesDemand rx.port l = false) =>
    demand_one ht (demandEntry_refused (s := noteValid rx s) (v := value) rx.port hp hk h)
  have ignored := fun (hp : s.lanes[l].present = true) h =>
    trim_one ht (trimEntry_ignored (s := noteValid rx s) (l := l) (v := scale) rx.port hp h)
  refine ⟨fun es fs => ?_, fun es fs => ?_, fun i hi => ⟨fun k => ?_, ?_⟩, fun hp => ?_, fun hp => ⟨fun hn => ?_, fun hn => ?_,
    fun hb hs => ?_, fun hb hpb hs => ?_, fun h hh => ⟨fun hw ho => ?_, fun hw => ?_, fun hw => ?_, fun hw => ?_⟩⟩⟩
  · rw [demand_run ht, List.foldl_append, ← Prod.mk.eta (p := es.foldl _ _), foldl_tally (demandEntry_plus rx.port)]
    rfl
  · rw [trim_run ht, List.foldl_append, ← Prod.mk.eta (p := es.foldl _ _), foldl_tally (trimEntry_plus rx.port)]
    rfl
  · refine (unnamed k i (namedLane_beyond _ hi)).trans ?_
    have range : (if k = .lens then clampInt 0 1000000 value else clampInt (-274877906944) 274877906944 value) =
        clampDemand k value := by
      cases k with
      | lens => exact if_pos rfl
      | abs => exact if_neg nofun
      | step => exact if_neg nofun
    rw [range]
    rfl
  · exact unnamedTrim i (namedLane_beyond _ hi)
  · have absent : (noteValid rx s).namedLane l.val = none := by
      rw [namedLane_val]
      exact if_neg (Bool.eq_false_iff.mp hp)
    exact ⟨unnamed .abs _ absent, unnamed .step _ absent, unnamed .lens _ absent, unnamedTrim _ absent⟩
  · have noTable := demand_one ht (demandEntry_noTable (s := noteValid rx s) (v := value) rx.port hp hn)
    exact noTable
  · have none := takesDemand_none (s := noteValid rx s) (p := rx.port) hn
    exact ⟨refused .abs hp nofun none, refused .step hp nofun none, fun h => refused .lens hp (fun _ => h) none⟩
  · exact ignored hp (.inr ⟨hb, hs⟩)
  · have stacked := trim_one ht (trimEntry_stacked (s := noteValid rx s) (v := scale) rx.port hp hpb hb hs)
    exact stacked
  · have other : (noteValid rx s).takesDemand rx.port l = false := by
      rw [Bool.eq_false_iff, Ne, takes hh]
      rintro (h | ⟨h1, h2, h3, h4⟩)
      · exact hw h
      · rcases ho with ho | ho | ho | ho
        · exact ho h1
        · exact ho h2
        · exact ho h3
        · rw [ho] at h4
          cases h4
    exact ⟨refused .abs hp nofun other, refused .step hp nofun other, fun h => refused .lens hp (fun _ => h) other⟩
  · exact ignored hp (.inl (heldByPlayback_iff.mpr ⟨h, hh, hw⟩))
  · have own : (noteValid rx s).takesDemand rx.port l = true := (takes hh).mpr hw
    have taken := fun (k : DemandKind) (c : Context) (adjusted : Bool) (hk : k = .lens → s.lens.table l ≠ none)
        (hc : takeDemand k value (fun u => forwardMap ((s.lens.table l).getD []) u) s.lanes[l].p h.ctx = (c, adjusted)) ha =>
      demand_one ht (demandEntry_taken (s := noteValid rx s) rx.port hp hk hh own hc ha)
    refine ⟨fun hk hd => ?_, fun hk => ⟨?_, fun hb => ?_⟩, fun tab htab hk hd => ?_, fun tab htab hk => ?_, fun hk hd => ?_,
      fun hk => ?_⟩
    · exact taken _ _ _ nofun (takeDemand_same hk hd nofun) (Bool.or_self _)
    · exact taken _ _ _ nofun (takeDemand_abs_switch hk) (Bool.or_self _)
    · exact switched_target hb (clampInt_mem (by decide) value)
    · exact taken _ _ _ (fun _ h => by rw [h] at htab; cases htab) (takeDemand_same hk hd nofun) (Bool.or_self _)
    · have switch := takeDemand_lens_switch (v := value) (p := s.lanes[l].p)
        (m := fun u => forwardMap ((s.lens.table l).getD []) u) hk
      rw [htab] at switch
      exact taken _ _ _ (fun _ h => by rw [h] at htab; cases htab) (by rw [htab]; exact switch) (Bool.or_self _)
    · exact taken _ _ _ nofun (takeDemand_step_same hk hd) (Bool.or_self_left _ _)
    · exact taken _ _ _ nofun (takeDemand_step_switch hk) (Bool.or_self _)
  · have held := trim_one ht (trimEntry_held (s := noteValid rx s) (v := scale) rx.port hp hh hw)
    exact held

end Sys2Proof.Machine
end

section
/-! PROOFS. Ends in the take memory: the writes that wait, a slot that is emptied, a recording that ends, an upload that is
discarded; and the loss of a link with them (O50, R177). -/

namespace Sys2Proof.Machine

open Sys2Proof

/-! ### Writes of the reserved area -/

/-- A write that waits already waits once (R76). -/
def enqueued (r : Reserved) (q : List Reserved) : List Reserved := if q.contains r then q else q ++ [r]

theorem queueReserved_eq (r : Reserved) (s : State) :
    queueReserved r s = s.setMem { s.mem with reservedQueue := enqueued r s.mem.reservedQueue } := by
  unfold queueReserved enqueued
  split <;> rfl

theorem queueDir_eq (i : SlotNo) (s : State) :
    queueDir i s = s.setMem { s.mem with reservedQueue := enqueued (.dir i) s.mem.reservedQueue } := queueReserved_eq _ s

/-! ### A slot that is emptied -/

/-- The slot without its take (R88, R91). -/
def Slot.emptied (x : Slot) : Slot :=
  { x with state := .empty, header := none, blocks := [], locked := false, down := false, openLocked := false,
           released := x.released ++ x.blocks }

/-- The blocks after the release of some: those become DIRTY or BAD, the others stay. -/
structure Released (bs : List BlockNo) (old new : Vector Block 64) : Prop where
  gone : ∀ b ∈ bs, new[b].state = .dirty ∨ new[b].state = .bad
  data : ∀ b : BlockNo, new[b].data = old[b].data
  other : ∀ b ∉ bs, new[b] = old[b]
  once : bs.Nodup → ∀ b ∈ bs, new[b].state = old[b].state.released

theorem forEach_release (bs : List BlockNo) (s : State) :
    ∃ v, Released bs s.mem.blocks v ∧
      forEach bs (fun b s => s.setBlock b fun x => { x with state := x.state.released }) s =
        s.setMem { s.mem with blocks := v } := by
  induction bs generalizing s with
  | nil => exact ⟨s.mem.blocks, ⟨nofun, fun _ => rfl, fun _ _ => rfl, fun _ => nofun⟩, rfl⟩
  | cons c bs ih =>
    obtain ⟨v, hv, he⟩ := ih (s.setBlock c fun x => { x with state := x.state.released })
    have first : ∀ b : BlockNo, (s.setBlock c fun x => { x with state := x.state.released }).mem.blocks[b] =
        if c = b then { s.mem.blocks[b] with state := s.mem.blocks[b].state.released } else s.mem.blocks[b] := fun b => by
      rw [State.setBlock, State.setMem_mem, updAt_get]
    refine ⟨v, ⟨fun b hb => ?_, fun b => ?_, fun b hb => ?_, fun hn b hb => ?_⟩, ?_⟩
    · by_cases h : b ∈ bs
      · exact hv.gone b h
      · obtain rfl : b = c := (List.mem_cons.mp hb).resolve_right h
        rw [hv.other b h, first, if_pos rfl]
        exact released_not_used _
    · rw [hv.data, first]
      split <;> rfl
    · obtain ⟨h1, h2⟩ := not_or.mp (List.mem_cons.not.mp hb)
      rw [hv.other b h2, first, if_neg (Ne.symm h1)]
    · obtain ⟨hc, hn⟩ := List.nodup_cons.mp hn
      rcases List.mem_cons.mp hb with rfl | h
      · rw [hv.other b hc, first, if_pos rfl]
      · rw [hv.once hn b h, first, if_neg (by rintro rfl; exact hc h)]
    · rw [forEach_cons, he]
      rfl

theorem updAt_congr {α : Type} {n : Nat} {v : Vector α n} {i : Fin n} {f g : α → α} (h : f v[i] = g v[i]) :
    updAt v i f = updAt v i g := by
  rw [updAt, updAt, h]

/-- R88, R91: what emptying a slot makes of the take memory. -/
theorem emptySlot_eq (i : SlotNo) (s : State) : ∃ v, Released s.mem.slots[i].blocks s.mem.blocks v ∧
    emptySlot i s = s.setMem { s.mem with slots := updAt s.mem.slots i Slot.emptied, blocks := v,
                                          reservedQueue := enqueued (.dir i) s.mem.reservedQueue } := by
  obtain ⟨v, hv, he⟩ := forEach_release s.mem.slots[i].blocks s
  refine ⟨v, hv, ?_⟩
  unfold emptySlot
  dsimp only
  rw [he, queueDir_eq]
  have same : updAt s.mem.slots i (fun x =>
      { x with state := .empty, header := none, blocks := [], locked := false, down := false, openLocked := false,
               released := x.released ++ s.mem.slots[i].blocks }) = updAt s.mem.slots i Slot.emptied := updAt_congr rfl
  rw [← same]
  rfl

theorem emptySlot_slot (i j : SlotNo) (s : State) :
    (emptySlot i s).mem.slots[j] = if i = j then s.mem.slots[j].emptied else s.mem.slots[j] := by
  obtain ⟨v, -, he⟩ := emptySlot_eq i s
  rw [he, State.setMem_mem, updAt_get]

/-- A finished slot (R88). -/
def Slot.completed (f : Header → Header) (x : Slot) : Slot :=
  { x with state := .complete, header := x.header.map f, locked := true, down := false, openLocked := true }

theorem completeSlot_eq (i : SlotNo) (f : Header → Header) (s : State) :
    completeSlot i f s = s.setMem { s.mem with slots := updAt s.mem.slots i (Slot.completed f),
                                               reservedQueue := enqueued (.dir i) s.mem.reservedQueue } := by
  rw [completeSlot, queueDir_eq]
  rfl

theorem completeSlot_slot (i j : SlotNo) (f : Header → Header) (s : State) :
    (completeSlot i f s).mem.slots[j] = if i = j then s.mem.slots[j].completed f else s.mem.slots[j] := by
  rw [completeSlot_eq, State.setMem_mem, updAt_get]

/-! ### A recording that ends -/

/-- What the end of a recording leaves of the take memory. -/
structure RecEnd (s t : State) : Prop where
  recSlot : t.recorder.slot = s.recorder.slot ∨ t.recorder.slot = none
  fetches : t.mem.fetches = s.mem.fetches
  op : t.mem.op = s.mem.op
  buffers : t.mem.buffers = s.mem.buffers
  upload : t.mem.upload = s.mem.upload
  slot : ∀ i : SlotNo, s.recorder.slot ≠ some i → t.mem.slots[i] = s.mem.slots[i]
  uploading : ∀ i : SlotNo, t.mem.slots[i].state = .uploading → s.mem.slots[i].state = .uploading

theorem RecEnd.refl (s : State) : RecEnd s s := ⟨.inl rfl, rfl, rfl, rfl, rfl, fun _ _ => rfl, fun _ h => h⟩

theorem recIdle_recEnd {s t : State} {i : SlotNo} {f : Slot → Slot} (hi : s.recorder.slot = some i)
    (ht : ∃ v q, t = s.setMem { s.mem with slots := updAt s.mem.slots i f, blocks := v, reservedQueue := q })
    (hf : ∀ x, (f x).state ≠ .uploading) (o : RecOutcome) (n : Nat) (a b : Bool) : RecEnd s (recIdle o n a b t) := by
  obtain ⟨v, q, rfl⟩ := ht
  refine ⟨.inr rfl, rfl, rfl, rfl, rfl, fun j hj => ?_, fun j hj => ?_⟩
  · have ne : i ≠ j := by
      rintro rfl
      exact hj hi
    exact updAt_other ne
  · have at_j : (recIdle o n a b (s.setMem { s.mem with slots := updAt s.mem.slots i f, blocks := v, reservedQueue := q })).mem.slots[j] =
        if i = j then f s.mem.slots[j] else s.mem.slots[j] := updAt_get _ _ _ _
    rw [at_j] at hj
    split at hj
    · exact absurd hj (hf _)
    · exact hj

theorem drainFinish_recEnd (s : State) : RecEnd s (drainFinish s) := by
  unfold drainFinish
  split
  · split
    · exact .refl s
    · next i hi =>
      dsimp only
      split
      · obtain ⟨v, -, he⟩ := emptySlot_eq i s
        exact recIdle_recEnd hi ⟨v, _, he⟩ (fun _ => by simp [Slot.emptied]) _ _ _ _
      · exact recIdle_recEnd hi ⟨s.mem.blocks, _, completeSlot_eq i _ s⟩ (fun _ => by simp [Slot.completed]) _ _ _ _
  · exact .refl s

theorem recordEnds_recEnd (o : RecOutcome) (s : State) : RecEnd s (recordEnds o s) := by
  unfold recordEnds
  split
  · exact .refl s
  · exact ⟨.inr rfl, rfl, rfl, rfl, rfl, fun _ _ => rfl, fun _ h => h⟩
  · have ended := drainFinish_recEnd (s.setRecorder
      { dropMarks s.recorder with state := .draining, outcome := some o, endPending := false })
    exact ⟨ended.recSlot, ended.fetches, ended.op, ended.buffers, ended.upload, ended.slot, ended.uploading⟩
  · exact ⟨.inl rfl, rfl, rfl, rfl, rfl, fun _ _ => rfl, fun _ h => h⟩

/-! ### An upload that is discarded -/

theorem discardUpload_none {s : State} (h : s.uploadSlot = none) : discardUpload s = s := by
  unfold discardUpload
  rw [h]

/-- R97: the slot and the buffers are emptied, and a part in progress loses its take. -/
theorem discardUpload_eq {s : State} {i : SlotNo} (h : s.uploadSlot = some i) :
    ∃ v, Released s.mem.slots[i].blocks s.mem.blocks v ∧ discardUpload s = s.setMem { s.mem with
      slots := updAt s.mem.slots i Slot.emptied, blocks := v, buffers := Vector.replicate 2 StageBuffer.reset,
      reservedQueue := enqueued (.dir i) s.mem.reservedQueue, op := orphanChunk s.mem.op } := by
  obtain ⟨v, hv, he⟩ := emptySlot_eq i (emptyBuffers s)
  refine ⟨v, hv, ?_⟩
  unfold discardUpload
  rw [h]
  dsimp only
  rw [he]
  rfl

/-- The uploading slot stays the one where nothing else becomes uploading. -/
theorem uploadSlot_congr {s t : State} {i : SlotNo} (h : s.uploadSlot = some i)
    (hi : t.mem.slots[i].state = .uploading)
    (ht : ∀ j : SlotNo, t.mem.slots[j].state = .uploading → s.mem.slots[j].state = .uploading) : t.uploadSlot = some i := by
  unfold State.uploadSlot at h ⊢
  rw [List.find?_eq_some_iff_append] at h ⊢
  obtain ⟨-, before, after, hl, hb⟩ := h
  refine ⟨by simpa using hi, before, after, hl, fun j hj => ?_⟩
  have := hb j hj
  simp only [Bool.not_eq_true', decide_eq_false_iff_not] at this ⊢
  exact fun hu => this (ht j hu)

end Sys2Proof.Machine
end

section
/-! PROOFS. The loss of a link (O50, R177): what leaving ACTIVE makes of the port, the lanes, the release, the playback and the
recording. -/

namespace Sys2Proof.Machine

open Sys2Proof

/-! ### The steps of R177 -/

/-- A port that has left ACTIVE. -/
def StationPort.gone (q : StationPort) : StationPort := latchLinkLost
  { q with link := .down, role := none, level := none, events := [], replies := [], telemetry := none, sending := none,
           leaving := false, deadline := none }

/-- The Safety Monitor without a release that the port asked for (R152, R177). -/
def Safety.withoutAsker (x : Safety) (p : Port) : Safety :=
  if x.release.any fun r => r.asker = p then { x with stop := .stopped, release := none } else x

theorem askerLost_frame (p : Port) (s : State) :
    SameButQueues (s.setSafety (s.safety.withoutAsker p)) (askerLost p s) := by
  unfold askerLost Safety.withoutAsker
  cases s.safety.release with
  | none => exact .refl s
  | some r =>
    dsimp only [Option.any_some]
    by_cases h : r.asker = p
    · rw [if_pos h, if_pos (decide_eq_true h)]
      exact cancelRelease_frame _ s
    · rw [if_neg h, if_neg (by simpa using h)]
      exact .refl s

theorem playIdle_frame (o : PlayOutcome) (s : State) :
    SameButQueues ((s.setPlay Playback.reset).setMem { s.mem with op := dropRead isPlayRead s.mem.op }) (playIdle o s) := by
  have raised := raiseMotion_frame (.playEnd s.play.slot o s.play.spoiled s.play.k s.tb.f) s
  unfold playIdle
  dsimp only
  generalize raiseMotion (.playEnd s.play.slot o s.play.spoiled s.play.k s.tb.f) s = t at raised
  exact { raised with mem := by rw [State.setMem_mem, State.setPlay_mem, raised.mem, State.setMem_mem], play := rfl }

/-! ### The ports and the lane records -/

/-- The port has left ACTIVE; the other links, their roles and the lane records stand. -/
structure Parted (p : Port) (s t : State) : Prop where
  own : t.ports[p] = s.ports[p].gone
  other : ∀ q, q ≠ p → t.ports[q].link = s.ports[q].link ∧ t.ports[q].role = s.ports[q].role
  lanes : t.lanes = s.lanes

theorem parted_dropPort (p : Port) (s : State) : Parted p s (dropPort p s) := by
  refine ⟨?_, fun q hq => ?_, rfl⟩
  · rw [dropPort_ports, updAt_same]
    rfl
  · rw [dropPort_ports, updAt_other (Ne.symm hq)]
    exact ⟨rfl, rfl⟩

section Parted

variable (p : Port) (s : State)

theorem keepsEvents_parted : KeepsEvents (Parted p s) where
  raise aud body t h := by
    have idle : t.isActive p = false := by
      rw [State.isActive, h.own]
      rfl
    refine ⟨?_, fun q hq => ?_, h.lanes⟩
    · rw [raiseFor_port, idle]
      exact h.own
    · rw [(raiseFor_frame aud body t).link, (raiseFor_frame aud body t).role]
      exact h.other q hq

theorem keepsGrants_parted : KeepsGrants (Parted p s) :=
  keepsGrants_of (keepsEvents_parted p s) (fun _ _ h => ⟨h.own, h.other, h.lanes⟩) fun _ _ h => ⟨h.own, h.other, h.lanes⟩

theorem keepsTakes_parted : KeepsTakes (Parted p s) where
  toKeepsEvents := keepsEvents_parted p s
  mem _ _ _ h := ⟨h.own, h.other, h.lanes⟩
  recorder _ _ _ h := ⟨h.own, h.other, h.lanes⟩

theorem keepsPlay_parted : KeepsPlay (Parted p s) where
  toKeepsEvents := keepsEvents_parted p s
  play _ _ _ h := ⟨h.own, h.other, h.lanes⟩
  leave := (keepsGrants_parted p s).leave
  contexts _ h := ⟨h.own, h.other, h.lanes⟩
  dropPlay _ h := ⟨h.own, h.other, h.lanes⟩

theorem keepsStops_parted : KeepsStops (Parted p s) where
  toKeepsEvents := keepsEvents_parted p s
  recordEnds o _ := (keepsTakes_parted p s).recordEnds o
  endPlayback o _ := (keepsPlay_parted p s).endPlayback o
  safety _ _ _ h := ⟨h.own, h.other, h.lanes⟩
  power := setPower_survives (keepsEvents_parted p s) (fun _ _ h => ⟨h.own, h.other, h.lanes⟩) fun _ _ h => ⟨h.own, h.other, h.lanes⟩

theorem removeStation_parted (ends : Bool) (l : Lane) (t : State) (h : Parted p s t) :
    Parted p s (removeStation p ends l t) := by
  have removed : Parted p s (t.setGrant l fun g => g.without p) := ⟨h.own, h.other, h.lanes⟩
  unfold removeStation
  dsimp only
  split
  · exact (keepsGrants_parted p s).leave _ _ _ removed
  · split
    · exact (keepsGrants_parted p s).leave _ _ _ removed
    · exact removed

end Parted

/-! ### The whole of R177 -/

/-- Where the playback ends with the station. -/
def State.endsWith (s : State) (p : Port) : Bool := s.isMotion p && s.playActive

/-- The first steps: the station, and the playback with it, have left the lanes, and a release it asked for has ended. -/
def leavesLanes (p : Port) (s : State) : State :=
  askerLost p (if s.endsWith p then playIdle .linkLost (forEach allLanes (removeStation p (s.endsWith p)) (dropPort p s))
    else forEach allLanes (removeStation p (s.endsWith p)) (dropPort p s))

theorem leaveActive_eq (p : Port) (why : DownReason) (s : State) : leaveActive p why s =
    raiseMotion (.linkDown p s.ports[p].role why)
      (if s.isMotion p then discardUpload (recordEnds .linkLost (leavesLanes p s)) else leavesLanes p s) := rfl

/-- What the first steps leave, in terms of the state before. -/
structure LeftLanes (p : Port) (s t : State) : Prop where
  grants : t.grants = mapAll s.grants (s.removedFrom p (s.endsWith p))
  safety : t.safety = s.safety.withoutAsker p
  play : t.play = if s.endsWith p then Playback.reset else s.play
  recorder : t.recorder = s.recorder
  fetches : t.mem.fetches = s.mem.fetches.filter fun f => f.port ≠ p
  slots : t.mem.slots = s.mem.slots

theorem leavesLanes_left (p : Port) (s : State) : LeftLanes p s (leavesLanes p s) := by
  have removed := removeAll_frame p (s.endsWith p) (dropPort p s)
  have asked := askerLost_frame p (if s.endsWith p then
      playIdle .linkLost (forEach allLanes (removeStation p (s.endsWith p)) (dropPort p s))
    else forEach allLanes (removeStation p (s.endsWith p)) (dropPort p s))
  unfold leavesLanes
  have ended := playIdle_frame .linkLost (forEach allLanes (removeStation p (s.endsWith p)) (dropPort p s))
  generalize forEach allLanes (removeStation p (s.endsWith p)) (dropPort p s) = u at removed asked ended ⊢
  generalize playIdle .linkLost u = v at asked ended ⊢
  have grants : u.grants = mapAll s.grants (s.removedFrom p (s.endsWith p)) := removed.grants
  have fetches : u.mem.fetches = s.mem.fetches.filter fun f => f.port ≠ p := congrArg TakeMemory.fetches removed.mem
  have slots : u.mem.slots = s.mem.slots := by rw [removed.mem]; rfl
  split at asked
  · next he =>
    rw [if_pos he]
    refine ⟨asked.grants.trans (ended.grants.trans grants),
      asked.safety.trans (congrArg (·.withoutAsker p) (ended.safety.trans removed.safety)),
      (asked.play.trans ended.play).trans (by rw [if_pos he]; rfl), asked.recorder.trans (ended.recorder.trans removed.recorder),
      ?_, ?_⟩
    · rw [asked.mem, State.setSafety_mem, ended.mem, State.setMem_mem, fetches]
    · rw [asked.mem, State.setSafety_mem, ended.mem, State.setMem_mem, slots]
  · next he =>
    rw [if_neg he]
    refine ⟨asked.grants.trans grants, asked.safety.trans (congrArg (·.withoutAsker p) removed.safety),
      (asked.play.trans removed.play).trans (by rw [if_neg he]; rfl), asked.recorder.trans removed.recorder, ?_, ?_⟩
    · rw [asked.mem, State.setSafety_mem, fetches]
    · rw [asked.mem, State.setSafety_mem, slots]

theorem leavesLanes_parted (p : Port) (s : State) : Parted p s (leavesLanes p s) := by
  have removed : Parted p s (forEach allLanes (removeStation p (s.endsWith p)) (dropPort p s)) :=
    forEach_keeps (P := Parted p s) (removeStation_parted p s _) _ (parted_dropPort p s)
  unfold leavesLanes
  refine (keepsStops_parted p s).askerLost p ?_
  split
  · exact (keepsPlay_parted p s).playIdle _ removed
  · exact removed

theorem leaveActive_parted (p : Port) (why : DownReason) (s : State) : Parted p s (leaveActive p why s) := by
  have left := leavesLanes_parted p s
  rw [leaveActive_eq]
  refine (keepsEvents_parted p s).raiseMotion _ ?_
  split
  · exact (keepsTakes_parted p s).discardUpload ((keepsTakes_parted p s).recordEnds _ left)
  · exact left

/-- R47: the station has no place left on any lane, whatever its places were. -/
theorem removedFrom_places (s : State) (p : Port) (ends : Bool) (l : Lane) (g : Grant) :
    p ∉ (s.removedFrom p ends l g).places := by
  have gone : p ∉ (g.without p).stacked ∧ p ∉ (g.without p).queued := by
    constructor <;> intro h <;> obtain ⟨e, he, hp⟩ := List.mem_map.mp h
    · exact (Grant.without_gone g p).1 e he hp
    · exact (Grant.without_gone g p).2.1 e he hp
  unfold State.removedFrom
  split
  · exact fun h => (chooseNext_places h).elim gone.1 gone.2
  · next hb =>
    rw [Grant.mem_places]
    rintro (h | h)
    · rw [Grant.mem_holding] at h
      exact hb (by rw [show g.heldBy p = true from h, Bool.true_or])
    · exact h.elim gone.1 gone.2

/-- What the end of the recording and of the upload leaves alone. -/
theorem keepsTakes_monitor (g : Vector Grant 12) (x : Safety) (u : Playback) :
    KeepsTakes (fun t => t.grants = g ∧ t.safety = x ∧ t.play = u) where
  raise _ _ _ h := h
  mem _ _ _ h := h
  recorder _ _ _ h := h

theorem discardUpload_fetches (s : State) :
    (discardUpload s).mem.fetches = s.mem.fetches ∧ (discardUpload s).recorder = s.recorder := by
  cases h : s.uploadSlot with
  | none => rw [discardUpload_none h]; exact ⟨rfl, rfl⟩
  | some i =>
    obtain ⟨v, -, he⟩ := discardUpload_eq h
    rw [he]
    exact ⟨rfl, rfl⟩

/-- R177: what the loss of the link leaves, in terms of the state before. -/
structure LinkGone (p : Port) (s t : State) : Prop where
  grants : t.grants = mapAll s.grants (s.removedFrom p (s.endsWith p))
  safety : t.safety = s.safety.withoutAsker p
  play : t.play = if s.endsWith p then Playback.reset else s.play
  fetches : t.mem.fetches = s.mem.fetches.filter fun f => f.port ≠ p
  recSlot : t.recorder.slot = s.recorder.slot ∨ t.recorder.slot = none
  motion : s.isMotion p = true → (t.recorder.state = .idle ∨ t.recorder.state = .draining) ∧
    ∀ i, s.uploadSlot = some i → s.recorder.slot ≠ some i → t.mem.slots[i].state = .empty

theorem leaveActive_gone (p : Port) (why : DownReason) (s : State) : LinkGone p s (leaveActive p why s) := by
  have left := leavesLanes_left p s
  have raised := raiseMotion_frame (.linkDown p s.ports[p].role why)
    (if s.isMotion p then discardUpload (recordEnds .linkLost (leavesLanes p s)) else leavesLanes p s)
  rw [← leaveActive_eq] at raised
  generalize leavesLanes p s = u at left raised
  generalize leaveActive p why s = t at raised
  split at raised
  · next hm =>
    have monitor := keepsTakes_monitor u.grants u.safety u.play
    obtain ⟨hg, hx, hu⟩ := monitor.discardUpload (monitor.recordEnds .linkLost (s := u) ⟨rfl, rfl, rfl⟩)
    obtain ⟨hf, hr⟩ := discardUpload_fetches (recordEnds .linkLost u)
    have ended := recordEnds_recEnd .linkLost u
    refine ⟨raised.grants.trans (hg.trans left.grants), raised.safety.trans (hx.trans left.safety),
      raised.play.trans (hu.trans left.play), ?_, ?_, fun _ => ⟨?_, fun i hi hs => ?_⟩⟩
    · rw [raised.mem, hf, ended.fetches, left.fetches]
    · rw [raised.recorder, hr, ← left.recorder]
      exact ended.recSlot
    · rw [raised.recorder, hr]
      exact recordEnds_state _ _
    · have kept : (recordEnds .linkLost u).mem.slots[i] = s.mem.slots[i] := by
        rw [ended.slot i (by rw [left.recorder]; exact hs), left.slots]
      have upload : (recordEnds .linkLost u).uploadSlot = some i :=
        uploadSlot_congr hi (by rw [kept]; exact uploadSlot_some hi) fun j hj => by rw [← left.slots]; exact ended.uploading j hj
      obtain ⟨v, -, he⟩ := discardUpload_eq upload
      rw [raised.mem, he, State.setMem_mem, updAt_same]
      rfl
  · next hm =>
    exact ⟨raised.grants.trans left.grants, raised.safety.trans left.safety, raised.play.trans left.play,
      by rw [raised.mem, left.fetches], .inl (by rw [raised.recorder, left.recorder]), fun h => absurd h hm⟩

theorem withoutAsker_other {x : Safety} {p : Port} (h : ∀ r, x.release = some r → r.asker ≠ p) : x.withoutAsker p = x := by
  refine if_neg ?_
  rw [Option.any_eq_true]
  rintro ⟨r, hr, ha⟩
  exact h r hr (by simpa using ha)

theorem withoutAsker_own {x : Safety} {p : Port} {r : ReleaseRecord} (hr : x.release = some r) (ha : r.asker = p) :
    x.withoutAsker p = { x with stop := .stopped, release := none } :=
  if_pos (by rw [hr, Option.any_some]; exact decide_eq_true ha)

/-- Settles O50: both events of R177 are its steps, and the end of the command leaves what they did. -/
theorem linkLossClearsTheStation : Obligations.LinkLossClearsTheStation := by
  unfold Obligations.LinkLossClearsTheStation
  intro c p s ha hc
  have run : ∃ why, exec c s = .next (settle (leaveActive p why s)) := by
    rcases hc with ⟨time, v, rfl, hl, hv, ht⟩ | ⟨r, rest, rfl, hs, hr, hk, hf⟩
    · have silent : s.silentAt p time = true := by
        rw [State.silentAt, ha, hl, hv]
        exact decide_eq_true ht
      exact ⟨.silent, congrArg Host.Outcome.next (if_pos silent)⟩
    · have sending : s.sendingLeave p = true := by
        rw [State.sendingLeave, hs, hr, Bool.and_eq_true, decide_eq_true_eq]
        exact ⟨hk, decide_eq_true hf⟩
      exact ⟨.leave, congrArg Host.Outcome.next (if_pos sending)⟩
  obtain ⟨why, run⟩ := run
  have parted := leaveActive_parted p why s
  have gone := leaveActive_gone p why s
  have settled := endWork_settle (leaveActive p why s)
  generalize leaveActive p why s = u at run parted gone settled
  have own : (settle u).ports[p] = s.ports[p].gone := by
    have work := settled.port p
    obtain ⟨telemetry, sending⟩ := work.busy (.inl (by rw [parted.own]; nofun))
    obtain ⟨events, lost⟩ := work.quiet (by rw [parted.own]; nofun)
    rw [work.same, telemetry, sending, events, lost, parted.own]
  have motion : s.ports[p].role = some .motion ↔ s.isMotion p = true := by
    rw [State.isMotion, State.isActive, ha]
    simp
  refine ⟨_, run, by rw [own]; rfl, by rw [own]; rfl, by rw [own]; rfl, by rw [own]; rfl, by rw [own]; rfl, by rw [own]; rfl,
    by rw [own]; rfl, by rw [own]; rfl, settled.lanes.trans parted.lanes, fun q hq => ?_, fun l => ?_, fun f hf => ?_,
    fun r hr hp => ?_, fun h => ?_, fun hm => ⟨?_, ?_, fun i hi hs => ?_⟩, fun hm => ?_⟩
  · rw [(settled.port q).same]
    exact parted.other q hq
  · rw [settled.grants, gone.grants, mapAll_get]
    exact removedFrom_places s p _ l _
  · rw [settled.fetches, gone.fetches] at hf
    simpa using (List.mem_filter.mp hf).2
  · rw [settled.safety, gone.safety, withoutAsker_own hr hp]
  · rw [settled.safety, gone.safety, withoutAsker_other h]
  · rw [settled.play, gone.play]
    split
    · rfl
    · next he =>
      rw [State.endsWith, motion.mp hm, Bool.true_and, State.playActive] at he
      simpa using he
  · obtain ⟨state, -⟩ := gone.motion (motion.mp hm)
    rcases settled.recState with h | h | h
    · rwa [h]
    · exact .inl h
    · exact .inr h
  · have empty := (gone.motion (motion.mp hm)).2 i hi hs
    have other : u.recorder.slot ≠ some i := by
      rcases gone.recSlot with h | h
      · rwa [h]
      · rw [h]; nofun
    rw [settled.slot i other (by rw [empty]; nofun)]
    exact empty
  · have still : ¬ s.endsWith p = true := by
      rw [State.endsWith, Bool.and_eq_true, ← motion]
      exact fun h => hm h.1
    rw [settled.play, gone.play, if_neg still]

end Sys2Proof.Machine
end

section
/-! PROOFS. Link negotiation (O49, R171 to R176): one port, its offers and its abilities. -/

namespace Sys2Proof.Machine

open Sys2Proof

/-! ### One port -/

theorem setPort_own (p : Port) (f : StationPort → StationPort) (s : State) : (s.setPort p f).ports[p] = f s.ports[p] :=
  updAt_same _ _ _

theorem setPort_other {p q : Port} (h : q ≠ p) (f : StationPort → StationPort) (s : State) :
    (s.setPort p f).ports[q] = s.ports[q] := updAt_other (Ne.symm h)

theorem setPort_setPort (p : Port) (f g : StationPort → StationPort) (s : State) :
    (s.setPort p f).setPort p g = s.setPort p fun q => g (f q) := by
  have twice : updAt (updAt s.ports p f) p g = updAt s.ports p fun q => g (f q) := Vector.ext fun i hi => by
    rw [updAt_getNat _ _ _ hi, updAt_getNat _ _ _ hi, updAt_getNat _ _ _ hi]
    split <;> rfl
  rw [State.setPort, State.setPort, State.setPort, State.setPorts_ports, twice]
  rfl

theorem setPort_congr {p : Port} {f g : StationPort → StationPort} {s : State} (h : f s.ports[p] = g s.ports[p]) :
    s.setPort p f = s.setPort p g := by
  rw [State.setPort, State.setPort, updAt_congr h]

/-- R170: whether MOTION is free depends on who holds it. -/
theorem motionFree_congr {s t : State} (h : ∀ q, t.holdsMotion q = s.holdsMotion q) : t.motionFree = s.motionFree := by
  rw [State.motionFree, State.motionFree, show t.holdsMotion = s.holdsMotion from funext h]

/-- R170: no port but in ACKNOWLEDGE and ACTIVE holds MOTION. -/
theorem holdsMotion_idle {s : State} {q : Port} (h : s.ports[q].link ≠ .acknowledge) (ha : s.ports[q].link ≠ .active) :
    s.holdsMotion q = false := by
  rw [State.holdsMotion, decide_eq_false h, decide_eq_false ha]
  rfl

theorem motionFree_noteValid (rx : Rx) (s : State) : (noteValid rx s).motionFree = s.motionFree :=
  motionFree_congr fun q => by rw [State.holdsMotion, State.holdsMotion, noteValid_link, noteValid_role]

/-- R176: what 1 s in FAILED comes to. -/
theorem failedOver_due {p : Port} {s : State} {d time : Nat} (hl : s.ports[p].link = .failed)
    (hd : s.ports[p].failedSince = some d) (ht : d + oneSecond ≤ time) (recognises : Bool) : failedOver p time recognises s =
      if recognises then enterOffer p time s
      else s.setPort p fun q => { q with link := .down, failedSince := none } := by
  unfold failedOver
  dsimp only
  rw [hd]
  exact if_pos (by rw [hl, decide_eq_true ht]; rfl)

theorem negotiationFailed_due {p : Port} {s : State} {d time : Nat} (hl : s.ports[p].link = .offer ∨ s.ports[p].link = .acknowledge)
    (hd : s.ports[p].deadline = some d) (ht : d ≤ time) : negotiationFailed p time s = s.setPort p fun q =>
      { q with link := .failed, role := none, deadline := none, nextOffer := none, failedSince := some d } := by
  unfold negotiationFailed
  dsimp only
  rw [hd]
  exact if_pos (by rcases hl with hl | hl <;> rw [hl, decide_eq_true ht] <;> rfl)

/-! ### Offers -/

/-- The ABILITY OFFER with what stands (R172, R174). -/
def State.offerNow (s : State) (p : Port) : Offer :=
  { presentSet := s.presentLanes, motionFree := s.motionFree, ack := s.ports[p].link = .acknowledge,
    granted := if s.ports[p].link = .acknowledge then s.ports[p].role else none }

theorem sendOffer_eq (p : Port) (due : Nat) (s : State) : sendOffer p due s =
    s.setPort p fun q => { q with offer := some (s.offerNow p), nextOffer := some (due + 10000) } := by
  unfold sendOffer State.offerNow
  rfl

theorem sendOffer_port (p : Port) (due : Nat) (s : State) : (sendOffer p due s).ports[p] =
    { s.ports[p] with offer := some (s.offerNow p), nextOffer := some (due + 10000) } := by
  rw [sendOffer_eq, setPort_own]

theorem offerNow_offer {s : State} {p : Port} (h : s.ports[p].link = .offer) : s.offerNow p =
    { presentSet := s.presentLanes, motionFree := s.motionFree, ack := false, granted := none } := by
  rw [State.offerNow, h]
  rfl

theorem offerNow_acknowledge {s : State} {p : Port} (h : s.ports[p].link = .acknowledge) : s.offerNow p =
    { presentSet := s.presentLanes, motionFree := s.motionFree, ack := true, granted := s.ports[p].role } := by
  rw [State.offerNow, h]
  rfl

/-- R172: a port that enters OFFER, with what it offers. -/
theorem enterOffer_port {s : State} {p : Port} (h : s.ports[p].link = .down ∨ s.ports[p].link = .failed) (time : Nat) :
    (enterOffer p time s).ports[p] = { s.ports[p] with
      link := .offer, role := none, abilityRole := none, abilityCount := 0, otherRun := 0,
      deadline := some (time + 1000000), failedSince := none, nextOffer := some (time + 10000),
      offer := some { presentSet := s.presentLanes, motionFree := s.motionFree, ack := false, granted := none } } := by
  have entered : ∀ f : StationPort → StationPort, (f s.ports[p]).link = .offer →
      (s.setPort p f).offerNow p =
        { presentSet := s.presentLanes, motionFree := s.motionFree, ack := false, granted := none } := by
    intro f hf
    have free : (s.setPort p f).motionFree = s.motionFree := by
      refine motionFree_congr fun q => ?_
      by_cases hq : q = p
      · subst hq
        rw [holdsMotion_idle (s := s) (by rcases h with h | h <;> rw [h] <;> nofun) (by rcases h with h | h <;> rw [h] <;> nofun)]
        exact holdsMotion_idle (by rw [setPort_own, hf]; nofun) (by rw [setPort_own, hf]; nofun)
      · rw [State.holdsMotion, State.holdsMotion, setPort_other hq]
    rw [offerNow_offer (by rw [setPort_own]; exact hf), free]
    rfl
  rw [enterOffer, sendOffer_port, entered _ rfl, setPort_own]
  rfl

theorem enterOffer_apart (p : Port) (time : Nat) (s : State) :
    (enterOffer p time s).setPorts s.ports = s ∧ ∀ q, q ≠ p → (enterOffer p time s).ports[q] = s.ports[q] := by
  refine ⟨rfl, fun q hq => ?_⟩
  rw [enterOffer, sendOffer_eq, setPort_other hq, setPort_other hq]

/-! ### Abilities -/

/-- What a free transmitter leaves of a port. -/
theorem pump_own (s : State) (p : Port) : PortWork s.ports[p] (pump s).ports[p] := by
  rw [pump, State.setPorts_ports, mapAll_get]
  exact portWork_pumpPort _

/-- A port that is not ACTIVE sends nothing. -/
theorem pump_idle {s : State} {p : Port} (h : s.ports[p].link ≠ .active) : (pump s).ports[p] = s.ports[p] := by
  rw [pump, State.setPorts_ports, mapAll_get, pumpPort, if_pos h]

/-- R174, R175: a port that becomes ACTIVE. -/
structure Entered (q : StationPort) (r : Role) : Prop where
  link : q.link = .active
  role : q.role = some r
  level : q.level = roleLevel r
  replies : q.replies = []
  leaving : q.leaving = false
  deadline : q.deadline = none
  nextOffer : q.nextOffer = none

theorem becomeActive_entered (p : Port) (r : Role) (s : State) : Entered (pump (becomeActive p r s)).ports[p] r := by
  have sent := (pump_own (becomeActive p r s) p).same
  rw [sent, becomeActive, raiseMotion, raiseFor_portFields, setPort_own]
  exact ⟨rfl, rfl, rfl, rfl, rfl, rfl, rfl⟩

/-- R174: a port that goes back to OFFER. -/
theorem backToOffer_port (p : Port) (time : Nat) (s : State) : ∃ o, (pump (backToOffer p time s)).ports[p] =
    { s.ports[p] with link := .offer, role := none, abilityRole := none, abilityCount := 0, otherRun := 0,
                      offer := o, nextOffer := some (time + 10000) } := by
  have port : (backToOffer p time s).ports[p] =
      { s.ports[p] with link := .offer, role := none, abilityRole := none, abilityCount := 0, otherRun := 0,
                        offer := (backToOffer p time s).ports[p].offer, nextOffer := some (time + 10000) } := by
    rw [backToOffer, sendOffer_port, setPort_own]
  exact ⟨_, (pump_idle (by rw [port]; nofun)).trans port⟩

theorem ability_offer {rx : Rx} {s : State} (h : s.ports[rx.port].link = .offer) (body : Body Ability) :
    exec (.ability rx body) s = .next (pump (abilityInOffer rx body (noteValid rx s))) := by
  have link : (noteValid rx s).ports[rx.port].link = .offer := by rw [noteValid_link, h]
  refine congrArg (fun x => Host.Outcome.next (pump x)) ?_
  unfold takeAbility
  dsimp only
  rw [link]

theorem ability_acknowledge {rx : Rx} {s : State} (h : s.ports[rx.port].link = .acknowledge) (body : Body Ability) :
    exec (.ability rx body) s = .next (pump (abilityInAcknowledge rx body (noteValid rx s))) := by
  have link : (noteValid rx s).ports[rx.port].link = .acknowledge := by rw [noteValid_link, h]
  refine congrArg (fun x => Host.Outcome.next (pump x)) ?_
  unfold takeAbility
  dsimp only
  rw [link]

theorem grantedRole_eq (s : State) (r : Role) :
    s.grantedRole r = if r = .motion ∧ s.motionFree = false then .observer else r := by
  cases r with
  | motion => rw [State.grantedRole]; cases s.motionFree <;> rfl
  | arm => exact (if_neg fun h => nomatch h.1).symm
  | lens => exact (if_neg fun h => nomatch h.1).symm
  | assist => exact (if_neg fun h => nomatch h.1).symm
  | observer => exact (if_neg fun h => nomatch h.1).symm

/-- R172: an ABILITY in OFFER that is malformed or acknowledges clears both runs. -/
theorem abilityInOffer_clears {rx : Rx} {body : Body Ability} {a : Ability}
    (h : body = .malformed ∨ (body = .fields a ∧ a.ack = true)) (s : State) : abilityInOffer rx body (noteValid rx s) =
      s.setPort rx.port fun q =>
        { q with lastValid := some rx.time, abilityRole := none, abilityCount := 0, otherRun := 0 } := by
  have cleared : abilityInOffer rx body (noteValid rx s) =
      (noteValid rx s).setPort rx.port fun q => { q with abilityRole := none, abilityCount := 0, otherRun := 0 } := by
    rcases h with rfl | ⟨rfl, ha⟩
    · rfl
    · exact if_pos ha
  rw [cleared, noteValid, setPort_setPort]

/-- R173: the run of abilities that one more makes. -/
def StationPort.runWith (q : StationPort) (wanted : Role) : Nat := if q.abilityRole = some wanted then q.abilityCount + 1 else 1

/-- The port with one more ABILITY noted (R172, R173). -/
def StationPort.noted (q : StationPort) (time : Nat) (wanted : Role) : StationPort :=
  { q with lastValid := some time, abilityRole := some wanted, abilityCount := q.runWith wanted, otherRun := 0 }

theorem abilityInOffer_notes {rx : Rx} {a : Ability} (ha : a.ack = false) (s : State) :
    abilityInOffer rx (.fields a) (noteValid rx s) =
      if 3 ≤ s.ports[rx.port].runWith a.wanted then
        sendOffer rx.port rx.time (s.setPort rx.port fun q =>
          { q.noted rx.time a.wanted with link := .acknowledge, role := some (s.grantedRole a.wanted) })
      else s.setPort rx.port fun q => q.noted rx.time a.wanted := by
  have own : (noteValid rx s).ports[rx.port] = { s.ports[rx.port] with lastValid := some rx.time } := by
    rw [noteValid, setPort_own]
  have run : (if (noteValid rx s).ports[rx.port].abilityRole = some a.wanted then
      (noteValid rx s).ports[rx.port].abilityCount + 1 else 1) = s.ports[rx.port].runWith a.wanted := by rw [own]; rfl
  have granted : (noteValid rx s).grantedRole a.wanted = s.grantedRole a.wanted := by
    rw [grantedRole_eq, grantedRole_eq, motionFree_noteValid]
  have once : ((noteValid rx s).setPort rx.port fun q =>
      { q with abilityRole := some a.wanted, abilityCount := s.ports[rx.port].runWith a.wanted, otherRun := 0 }) =
      s.setPort rx.port fun q => q.noted rx.time a.wanted := by
    rw [noteValid, setPort_setPort]
    exact setPort_congr rfl
  unfold abilityInOffer
  dsimp only
  rw [if_neg (by rw [ha]; nofun), run, granted, once, setPort_setPort]

/-- R173: the third ABILITY of one role. -/
theorem ability_third {rx : Rx} {a : Ability} {s : State} (hl : s.ports[rx.port].link = .offer) (ha : a.ack = false)
    (h : 3 ≤ s.ports[rx.port].runWith a.wanted) : ∃ t o, exec (.ability rx (.fields a)) s = .next t ∧
      t.ports[rx.port] = { s.ports[rx.port].noted rx.time a.wanted with
        link := .acknowledge, role := some (s.grantedRole a.wanted), offer := some o, nextOffer := some (rx.time + 10000) } ∧
      o.ack = true ∧ o.presentSet = s.presentLanes ∧ o.granted = some (s.grantedRole a.wanted) := by
  have run := ability_offer hl (.fields a)
  rw [abilityInOffer_notes ha, if_pos h] at run
  generalize hu : (s.setPort rx.port fun q =>
    { q.noted rx.time a.wanted with link := .acknowledge, role := some (s.grantedRole a.wanted) }) = u at run
  have port : u.ports[rx.port] = { s.ports[rx.port].noted rx.time a.wanted with
      link := .acknowledge, role := some (s.grantedRole a.wanted) } := by rw [← hu, setPort_own]
  have lanes : u.presentLanes = s.presentLanes := by rw [← hu]; rfl
  have link : u.ports[rx.port].link = .acknowledge := by rw [port]
  have offer := offerNow_acknowledge link
  refine ⟨_, u.offerNow rx.port, run, ?_, by rw [offer], by rw [offer, ← lanes], by rw [offer, port]⟩
  rw [pump_idle (by rw [sendOffer_port, link]; nofun), sendOffer_port, port]

/-- R172: an earlier one. -/
theorem ability_earlier {rx : Rx} {a : Ability} {s : State} (hl : s.ports[rx.port].link = .offer) (ha : a.ack = false)
    (h : ¬ 3 ≤ s.ports[rx.port].runWith a.wanted) : ∃ t, exec (.ability rx (.fields a)) s = .next t ∧
      t.ports[rx.port] = s.ports[rx.port].noted rx.time a.wanted := by
  have run := ability_offer hl (.fields a)
  rw [abilityInOffer_notes ha, if_neg h] at run
  have link : (s.ports[rx.port].noted rx.time a.wanted).link ≠ .active := by
    rw [StationPort.noted, hl]
    nofun
  refine ⟨_, run, ?_⟩
  rw [pump_idle (by rw [setPort_own]; exact link), setPort_own]

/-! ### The statement -/

/-- Settles O49: each event of the negotiation by the state of its port. -/
theorem linkNegotiation : Obligations.LinkNegotiation := by
  unfold Obligations.LinkNegotiation
  intro p time s
  refine ⟨fun h => ?_, fun c hc => ?_, fun d hl hd ht => ?_, fun d hd hl ht => ?_, fun d hd => ⟨fun hl ht => ?_, fun hl ht => ?_,
    fun ht => ?_⟩, fun h => ?_, fun h => ?_, fun h => ?_, ?_⟩
  · refine congrArg Host.Outcome.next ?_
    rcases h with h | h
    · exact if_pos h
    · rw [if_neg h, ite_self]
  · have entered : exec c s = .next (enterOffer p time s) ∧ (s.ports[p].link = .down ∨ s.ports[p].link = .failed) := by
      rcases hc with ⟨rfl, hs, hl⟩ | ⟨d, rfl, hl, hd, ht⟩
      · refine ⟨congrArg Host.Outcome.next ?_, .inl hl⟩
        rw [hs, if_neg Bool.false_ne_true, if_pos hl]
      · exact ⟨congrArg Host.Outcome.next (failedOver_due hl hd ht true), .inr hl⟩
    obtain ⟨run, idle⟩ := entered
    obtain ⟨frame, others⟩ := enterOffer_apart p time s
    exact ⟨_, run, frame, others, enterOffer_port idle time⟩
  · exact congrArg Host.Outcome.next (failedOver_due hl hd ht false)
  · exact congrArg Host.Outcome.next (negotiationFailed_due hl hd ht)
  · refine congrArg Host.Outcome.next ?_
    rw [offerDue, hd]
    exact (if_pos ⟨.inl hl, ht⟩).trans (by rw [sendOffer_eq, offerNow_offer hl])
  · refine congrArg Host.Outcome.next ?_
    rw [offerDue, hd]
    exact (if_pos ⟨.inr hl, ht⟩).trans (by rw [sendOffer_eq, offerNow_acknowledge hl])
  · refine congrArg Host.Outcome.next ?_
    rw [offerDue, hd]
    exact if_neg fun h => absurd h.2 (Nat.not_le.mpr ht)
  · refine congrArg Host.Outcome.next ?_
    rcases offerDue_cases p time s with ⟨d, hd, hl, -, -⟩ | same
    · rcases h with h | ⟨h1, h2⟩
      · rw [h] at hd; cases hd
      · exact absurd hl (not_or.mpr ⟨h1, h2⟩)
    · exact same
  · exact congrArg Host.Outcome.next (if_neg h)
  · exact congrArg Host.Outcome.next (if_pos h)
  · rintro rx a rfl
    refine ⟨fun body hl hb => ?_, fun hl ha => ?_, fun r hl hr => ⟨fun ha hw => ?_, fun body hb => ?_⟩⟩
    · rw [ability_offer hl, abilityInOffer_clears hb]
    · by_cases same : s.ports[rx.port].abilityRole = some a.wanted
      · have count : s.ports[rx.port].runWith a.wanted = s.ports[rx.port].abilityCount + 1 := if_pos same
        by_cases third : 2 ≤ s.ports[rx.port].abilityCount
        · obtain ⟨t, o, run, port, ack, present, granted⟩ := ability_third hl ha (by omega)
          refine ⟨t, run, by rw [port]; rfl, by rw [port]; rfl, by rw [port]; rfl, absurd same, fun _ => ⟨?_, fun h => ?_, fun _ =>
            ⟨by rw [port], by rw [port], ⟨o, by rw [port], ack, present, by rw [port, granted]⟩, ?_⟩⟩⟩
          · rw [port]
            exact count
          · omega
          · rw [port, grantedRole_eq]
        · obtain ⟨t, run, port⟩ := ability_earlier hl ha (by omega)
          refine ⟨t, run, by rw [port]; rfl, by rw [port]; rfl, by rw [port]; rfl, absurd same, fun _ => ⟨?_, fun _ => ?_,
            fun h => absurd h third⟩⟩
          · rw [port]
            exact count
          · rw [port]
            exact hl
      · have count : s.ports[rx.port].runWith a.wanted = 1 := if_neg same
        obtain ⟨t, run, port⟩ := ability_earlier hl ha (by omega)
        refine ⟨t, run, by rw [port]; rfl, by rw [port]; rfl, by rw [port]; rfl, fun _ => ⟨?_, ?_⟩, fun h => absurd h same⟩
        · rw [port]
          exact count
        · rw [port]
          exact hl
    · have own : (noteValid rx s).ports[rx.port].role = some r := by rw [noteValid_role, hr]
      have entered : abilityInAcknowledge rx (.fields a) (noteValid rx s) = becomeActive rx.port r (noteValid rx s) := by
        unfold abilityInAcknowledge
        dsimp only
        rw [own]
        exact if_pos (by rw [ha, hw, Bool.true_and]; exact decide_eq_true rfl)
      have active := becomeActive_entered rx.port r (noteValid rx s)
      refine ⟨_, ability_acknowledge hl _, ?_⟩
      rw [entered]
      exact ⟨active.link, active.role, active.level, active.replies, active.leaving, active.deadline, active.nextOffer⟩
    · have own : (noteValid rx s).ports[rx.port].role = some r := by rw [noteValid_role, hr]
      have back : abilityInAcknowledge rx body (noteValid rx s) = backToOffer rx.port rx.time (noteValid rx s) := by
        unfold abilityInAcknowledge
        dsimp only
        rcases hb with rfl | ⟨rfl, h⟩
        · rfl
        · rw [own]
          refine if_neg ?_
          rw [Bool.and_eq_true, decide_eq_true_eq]
          rintro ⟨h1, h2⟩
          rcases h with h | h
          · rw [h1] at h; cases h
          · exact h h2
      obtain ⟨o, port⟩ := backToOffer_port rx.port rx.time (noteValid rx s)
      refine ⟨_, ability_acknowledge hl _, ?_⟩
      rw [back, port, noteValid, setPort_own]
      exact ⟨rfl, rfl, rfl, rfl, rfl, rfl, rfl⟩

end Sys2Proof.Machine
end

section
/-! PROOFS. The release into RUN (O42, R152, R153): the judgement of an agreement, and what a release makes of a lane, a grant
and a zone. -/

namespace Sys2Proof.Machine

open Sys2Proof

/-! ### One lane, one grant, one zone -/

theorem releaseReload_stays {off : Bool} {c : Channel} {x : LaneRec}
    (h : x.present = false ∨ x.condition = .parked ∨ (x.condition = .active ∧ off = false) ∨
      (x.condition ≠ .active ∧ c.status ≠ .ok)) : releaseReload off c x = x := by
  unfold releaseReload
  split
  · rfl
  · next hp =>
    split
    · next hc =>
      refine if_neg fun hok => ?_
      rcases h with h | h | ⟨h, -⟩ | ⟨-, h⟩
      · exact hp (by rw [h]; rfl)
      · rw [hc] at h; cases h
      · rw [hc] at h; cases h
      · exact h hok
    · next hc =>
      refine if_neg fun hoff => ?_
      rcases h with h | h | ⟨-, h⟩ | ⟨h, -⟩
      · exact hp (by rw [h]; rfl)
      · rw [hc] at h; cases h
      · rw [h] at hoff; cases hoff
      · exact h hc
    · rfl

theorem releaseReload_reloads {off : Bool} {c : Channel} {x : LaneRec} (hp : x.present = true)
    (h : (x.condition = .active ∧ off = true) ∨ ((∃ why, x.condition = .disabled why) ∧ c.status = .ok)) :
    releaseReload off c x = reloadLane c.latestCount x := by
  unfold releaseReload
  rw [if_neg (by rw [hp]; nofun)]
  rcases h with ⟨hc, ho⟩ | ⟨⟨why, hc⟩, hok⟩ <;> rw [hc]
  · exact if_pos ho
  · exact if_pos hok

theorem releaseLane_station {x : Lens} {l : Lane} {p : Int} {g : Grant} {h : Hold} {q : Port} (hh : g.holder = some h)
    (hw : h.who = .station q) :
    releaseLane x l p g = { g with holder := some { h with setpoint := p, ctx := switchIn x l p h.ctx } } := by
  rw [releaseLane, hh, Option.map_some, hw]

theorem markExit_record (m : Motion) (e : ZoneEntry) : (markExit m e).record = e.record := by
  unfold markExit
  split
  · split <;> rfl
  · rfl

theorem markExit_exiting {m : Motion} {e : ZoneEntry} {r : ZoneRecord} (hr : e.record = some r) (he : r.enabled = true)
    (hk : r.kind = .keepOut) : (markExit m e).exiting = (e.exiting || zoneContains m r) := by
  have armed : (r.enabled && decide (r.kind = .keepOut) && zoneContains m r) = zoneContains m r := by
    rw [he, hk]
    rfl
  unfold markExit
  rw [hr]
  dsimp only
  rw [armed]
  cases zoneContains m r with
  | true => rw [if_pos rfl, Bool.or_true]
  | false => rw [if_neg Bool.false_ne_true, Bool.or_false]

/-! ### The judgement -/

/-- The changes of a release leave the reply paths. -/
theorem enterRun_replies (party : Party) (s : State) (p : Port) :
    (enterRun party s).ports[p].replies = s.ports[p].replies :=
  enterRun_keeps (P := fun t => t.ports[p].replies = s.ports[p].replies)
    ⟨fun aud body t h => by rw [raiseFor_portFields aud body t p]; exact h⟩ (fun _ _ h => h) (fun _ _ h => h) (fun _ _ h => h)
    (fun _ _ h => h) party s rfl

theorem cancelRelease_replies (why : StopReason) (s : State) (p : Port) :
    (cancelRelease why s).ports[p].replies = s.ports[p].replies := by
  rw [cancelRelease, changeStop, raiseAll, raiseFor_portFields]
  rfl

theorem exec_releaseAgree {rx : Rx} {x : Role} {s s1 : State} {a : Answer} (h : Takes rx s)
    (hr : s.ports[rx.port].role = some x) (hx : x = .motion ∨ x = .arm ∨ x = .lens)
    (hj : judgeReleaseAgree rx.port () (noteValid rx s) = (s1, some a)) :
    exec (.releaseAgree rx (.fields ())) s = .next (replied rx a s1) := by
  refine congrArg Host.Outcome.next (takeRequest_answered (a := ()) h ?_)
  rw [forRoles_in (r := x) (by rw [noteValid_role]; exact hr) (by rcases hx with rfl | rfl | rfl <;> decide)]
  exact hj

theorem askedBy_iff {s : State} {p : Port} : s.askedBy p = true ↔ ∃ r, s.safety.release = some r ∧ r.asker = p := by
  unfold State.askedBy
  cases s.safety.release <;> simp

/-- The state a release starts from: the present one, with the agreement's arrival noted where it came by a station. -/
structure SameUnits (s b : State) : Prop where
  lanes : b.lanes = s.lanes
  grants : b.grants = s.grants
  lens : b.lens = s.lens
  safety : b.safety = s.safety
  drives : b.drives = s.drives

/-- R152: what an agreement leads to: a release where the conditions hold, and its end where they do not. -/
theorem agreed {c : Instr} {rx : Rx} {s : State} (hs : s.safety.stop = .releasing)
    (hc : c = .releasePulse ∨ (c = .releaseAgree rx (.fields ()) ∧ (∀ r, s.safety.release = some r → r.asker ≠ rx.port) ∧
      Takes rx s ∧ ∃ x, s.ports[rx.port].role = some x ∧ (x = .motion ∨ x = .arm ∨ x = .lens))) :
    ∃ b party, SameUnits s b ∧
      (s.releaseConditions = true → ∃ t, exec c s = .next t ∧ Ended (enterRun party b) t ∧ (c = .releaseAgree rx (.fields ()) →
        t.ports[rx.port].replies = s.ports[rx.port].replies ++ [Answer.done.reply rx.tag .ordinary])) ∧
      (s.releaseConditions = false → ∃ t, exec c s = .next t ∧ Ended (cancelRelease .checkFailed b) t ∧
        (c = .releaseAgree rx (.fields ()) →
          t.ports[rx.port].replies = s.ports[rx.port].replies ++ [(Answer.refused .wrongState).reply rx.tag .ordinary])) := by
  rcases hc with rfl | ⟨rfl, hask, ht, x, hr, hx⟩
  · have run : exec .releasePulse s = .next (settle (agree .releaseLine s)) :=
      congrArg (fun x => Host.Outcome.next (settle x)) (if_pos hs)
    refine ⟨s, .releaseLine, ⟨rfl, rfl, rfl, rfl, rfl⟩, fun hc => ?_, fun hc => ?_⟩
    · rw [agree, if_pos hc] at run
      exact ⟨_, run, ended_settle _, nofun⟩
    · rw [agree, if_neg (Bool.eq_false_iff.mp hc)] at run
      exact ⟨_, run, ended_settle _, nofun⟩
  · have going : ¬ ((noteValid rx s).safety.stop ≠ .releasing ∨ (noteValid rx s).askedBy rx.port = true) := by
      rw [not_or, not_not, askedBy_iff]
      exact ⟨hs, fun ⟨r, h, ha⟩ => hask r h ha⟩
    have active : ∀ t : State, (∀ p : Port, t.ports[p].link = (noteValid rx s).ports[p].link) → t.isActive rx.port = true :=
      fun t h => by
        rw [State.isActive, h]
        exact (noteValid_isActive (rx := rx) (s := s) (p := rx.port)).trans ht.1
    refine ⟨noteValid rx s, .port rx.port, ⟨rfl, rfl, rfl, rfl, rfl⟩, fun hc => ?_, fun hc => ?_⟩
    · have cond : (noteValid rx s).releaseConditions = true := hc
      refine ⟨_, exec_releaseAgree (a := Answer.done) (s1 := enterRun (.port rx.port) (noteValid rx s)) ht hr hx ?_,
        ended_replied _ _ _, fun _ => ?_⟩
      · rw [judgeReleaseAgree, if_neg going, if_pos cond]
        rfl
      · rw [replied_replies (active _ fun p => ((enterRun_frame _ (noteValid rx s)).link p).trans (by rw [released_ports])),
          enterRun_replies, noteValid_replies]
    · have cond : ¬ (noteValid rx s).releaseConditions = true := Bool.eq_false_iff.mp hc
      refine ⟨_, exec_releaseAgree (a := Answer.refused .wrongState) (s1 := cancelRelease .checkFailed (noteValid rx s)) ht hr hx ?_,
        ended_replied _ _ _, fun _ => ?_⟩
      · rw [judgeReleaseAgree, if_neg going, if_neg cond]
        rfl
      · rw [replied_replies (active _ fun p => (cancelRelease_frame .checkFailed (noteValid rx s)).link p),
          cancelRelease_replies, noteValid_replies]

/-- Settles O42: the judgement of an agreement, and the release that it lets through. -/
theorem releaseEntersRun : Obligations.ReleaseEntersRun := by
  unfold Obligations.ReleaseEntersRun
  refine ⟨fun rx x s h hr hx hn => ?_, fun s hs => ?_, fun c rx s hs hc => ?_⟩
  · refine exec_releaseAgree (s1 := noteValid rx s) h hr hx ?_
    have bad : (noteValid rx s).safety.stop ≠ .releasing ∨ (noteValid rx s).askedBy rx.port = true := by
      rw [askedBy_iff]
      exact hn
    rw [judgeReleaseAgree, if_pos bad]
    rfl
  · exact congrArg (fun x => Host.Outcome.next (settle x)) (if_neg hs)
  · obtain ⟨b, party, same, enters, ends⟩ := agreed hs hc
    have failing : (s.safety.stopLine = true ∨ ∃ l : Lane, s.driveFaultLane l = true ∧ s.drives.channels[l].status ≠ .ok) ↔
        s.releaseConditions = false := by
      rw [Bool.eq_false_iff, Ne, releaseConditions_iff, not_and_or, Bool.not_eq_false, not_forall]
      simp only [Classical.not_imp, ne_eq]
    dsimp only
    refine ⟨fun hf => ?_, fun hf => ?_⟩
    · obtain ⟨t, run, ended, answered⟩ := enters (by rw [failing, Bool.not_eq_false] at hf; exact hf)
      have entered := enterRun_frame party b
      have safety := ended.safety.trans (entered.safety.trans (released_safety b))
      have lanes := ended.lanes.trans (entered.lanes.trans (released_lanes b))
      have grants := ended.grants.trans (entered.grants.trans (released_grants b))
      have lane : ∀ l : Lane, t.lanes[l] = releaseReload (!s.safety.drivePower) s.drives.channels[l] s.lanes[l] := fun l => by
        rw [lanes, State.reloadedLanes, mapAll_get, same.safety, same.drives, same.lanes]
      refine ⟨t, run, answered, by rw [safety], by rw [safety], by rw [safety], by rw [safety], fun l hl => ?_,
        fun l n hp hn hl => ?_, fun l h q hh hw => ?_, fun z x => ⟨?_, fun hx he hk => ?_⟩⟩
      · rw [lane]
        refine releaseReload_stays (hl.imp_right (Or.imp_right (Or.imp_left fun ⟨ha, hp⟩ => ⟨ha, ?_⟩)))
        rw [hp]
        rfl
      · rw [lane, releaseReload_reloads hp (hl.imp_left fun ⟨ha, hp⟩ => ⟨ha, by rw [hp]; rfl⟩), hn]
        rfl
      · have own : t.grants[l] = releaseLane s.lens l t.lanes[l].p s.grants[l] := by
          rw [grants, mapAll_get, lanes, same.lens, same.grants]
        rw [own, releaseLane_station hh hw]
        rfl
      · have zone : t.safety.zones[z] = markExit (b.setLanes b.reloadedLanes).motion s.safety.zones[z] := by
          rw [safety, ← same.safety]
          exact mapAll_get _ _ _
        rw [zone, markExit_record]
      · have zone : t.safety.zones[z] = markExit (b.setLanes b.reloadedLanes).motion s.safety.zones[z] := by
          rw [safety, ← same.safety]
          exact mapAll_get _ _ _
        have motion : t.motion = (b.setLanes b.reloadedLanes).motion := by rw [State.motion, State.motion, lanes, State.setLanes_lanes]
        rw [zone, motion, markExit_exiting hx he hk]
    · obtain ⟨t, run, ended, answered⟩ := ends (failing.mp hf)
      have cancelled := cancelRelease_frame .checkFailed b
      refine ⟨t, run, answered, ?_, ?_, ?_⟩
      · exact ended.lanes.trans (cancelled.lanes.trans same.lanes)
      · exact ended.grants.trans (cancelled.grants.trans same.grants)
      · rw [ended.safety, cancelled.safety, State.setSafety_safety, same.safety]

end Sys2Proof.Machine
end

section
/-! PROOFS. PARK and UNPARK (O43, R163, R164): what each makes of the lanes, the grants, the drives and the stops. -/

namespace Sys2Proof.Machine

open Sys2Proof

/-! ### The requests -/

section Requests

variable {rx : Rx} {r : Role} {s s1 : State} {a : Answer} (h : Takes rx s) (hr : s.ports[rx.port].role = some r)
  (hm : r = .motion ∨ r = .arm)

include h hr hm

theorem exec_park (hj : judgePark () (noteValid rx s) = (s1, some a)) :
    exec (.park rx (.fields ())) s = .next (replied rx a s1) := by
  refine congrArg Host.Outcome.next (takeRequest_answered (a := ()) h ?_)
  rw [forRoles_in (r := r) (by rw [noteValid_role]; exact hr) (by rcases hm with rfl | rfl <;> decide)]
  exact hj

theorem exec_unpark (hj : judgeUnpark () (noteValid rx s) = (s1, some a)) :
    exec (.unpark rx (.fields ())) s = .next (replied rx a s1) := by
  refine congrArg Host.Outcome.next (takeRequest_answered (a := ()) h ?_)
  rw [forRoles_in (r := r) (by rw [noteValid_role]; exact hr) (by rcases hm with rfl | rfl <;> decide)]
  exact hj

end Requests

theorem parkable_iff (s : State) : s.parkable = true ↔ s.recorder.state = .idle ∧ s.play.state = .idle ∧
    ∀ l : Lane, s.lanes[l].present = true → s.lanes[l].v = 0 := by
  have rests : (allLanes.all fun l => !s.lanePresent l || decide (s.lanes[l].v = 0)) = true ↔
      ∀ l : Lane, s.lanes[l].present = true → s.lanes[l].v = 0 := by
    rw [List.all_eq_true]
    refine ⟨fun h l hp => ?_, fun h l _ => ?_⟩
    · have := h l (List.mem_finRange l)
      rw [State.lanePresent, hp] at this
      exact of_decide_eq_true this
    · rw [Bool.or_eq_true, Bool.not_eq_true', State.lanePresent, decide_eq_true_eq]
      by_cases hp : s.lanes[l].present = true
      · exact .inr (h l hp)
      · exact .inl (Bool.eq_false_iff.mpr hp)
  rw [State.parkable, Bool.and_eq_true, Bool.and_eq_true, rests, State.recActive, State.playActive]
  simp only [Bool.not_eq_true', decide_eq_false_iff_not, not_not]
  tauto

/-! ### PARK -/

/-- The grants once PARK has cleared those of the present lanes (R48). -/
def State.cleared (s : State) : Vector Grant 12 := mapAll s.grants fun l g => if s.lanePresent l then Grant.reset else g

theorem clearAll_frame (s : State) : SameButQueues (s.setGrants s.cleared)
    (forEach allLanes (fun l s => if s.lanePresent l then clearLane l s else s) s) :=
  forEach_lanes fun l t ht => by
    have present : t.lanePresent l = s.lanePresent l := by rw [State.lanePresent, State.lanePresent, ht.lanes]; rfl
    by_cases hp : s.lanePresent l = true
    · rw [if_pos (present.trans hp), setGrant_congr t l (g := fun _ => Grant.reset) (if_pos hp)]
      exact clearLane_frame l t
    · rw [if_neg (by rw [present]; exact hp), setGrant_id t l (if_neg hp)]
      exact .refl t

/-- What PARK leaves, in terms of the state before. -/
structure Parked (s t : State) : Prop where
  parked : t.drives.parked = true
  safety : t.safety = s.safety
  lanes : t.lanes = mapAll s.lanes fun _ x => parkLane x
  grants : t.grants = s.cleared
  outputs : OutputsFollow t
  replies : ∀ p : Port, t.ports[p].link = s.ports[p].link ∧ t.ports[p].replies = s.ports[p].replies

theorem park_parked (s : State) : Parked s (park s) := by
  have cleared := clearAll_frame s
  have told : ∀ p : Port, (forEach allLanes (fun l s => if s.lanePresent l then clearLane l s else s) s).ports[p].replies =
      s.ports[p].replies := by
    refine forEach_keeps (P := fun t => ∀ p : Port, t.ports[p].replies = s.ports[p].replies) (fun l t ht => ?_) _ fun _ => rfl
    split
    · unfold clearLane
      dsimp only
      split
      · exact ht
      · intro p
        rw [raiseFor_portFields]
        exact ht p
    · exact ht
  unfold park
  generalize forEach allLanes (fun l s => if s.lanePresent l then clearLane l s else s) s = u at cleared told
  have outputs := outputsFollow_refresh
    ((u.setLanes (mapAll u.lanes fun _ x => parkLane x)).setDrives { u.drives with parked := true })
  obtain ⟨v, hv⟩ : ∃ v, refreshOutputs ((u.setLanes (mapAll u.lanes fun _ x => parkLane x)).setDrives
      { u.drives with parked := true }) =
      (u.setLanes (mapAll u.lanes fun _ x => parkLane x)).setDrives { channels := v, parked := true } := ⟨_, rfl⟩
  change Parked s (refreshOutputs ((u.setLanes (mapAll u.lanes fun _ x => parkLane x)).setDrives
    { u.drives with parked := true }))
  rw [hv] at outputs ⊢
  exact ⟨rfl, cleared.safety, congrArg (fun v => mapAll v fun _ x => parkLane x) cleared.lanes, cleared.grants, outputs,
    fun p => ⟨cleared.link p, told p⟩⟩

/-! ### UNPARK -/

/-- The lanes and the drives as UNPARK starts them, before the causes of the failing ones (R164). -/
def State.unparkStarts (s : State) : State :=
  (s.setLanes (mapAll s.lanes fun l x => unparkLane s.rig.record.lanes[l] s.drives.channels[l] x)).setDrives
    { channels := mapAll s.drives.channels fun l c =>
        if s.lanePresent l && c.failing then { c with faultReported := true } else c
      parked := false }

/-- Drive power after UNPARK: left alone in RUN, OFF at rest, and marked to go OFF with the ramp in STOPPING (R149). -/
def unparkPower (stop : StopState) (s : State) : State := match stop with
  | .run => s
  | .stopping => s.setSafety { s.safety with unparkInRamp := true }
  | .stopped => setPower false s
  | .releasing => setPower false s

theorem unpark_eq (s : State) : unpark s = refreshOutputs
    (unparkPower s.safety.stop (causeEvents (s.failingLanes.map CauseKind.driveFault) s.unparkStarts)) := by
  have present : ∀ l, (s.setLanes (mapAll s.lanes fun l x => unparkLane s.rig.record.lanes[l] s.drives.channels[l] x)).lanePresent l =
      s.lanePresent l := fun l => by
    rw [State.lanePresent, State.setLanes_lanes, mapAll_get, unparkLane]
    split
    · rfl
    · dsimp only
      split <;> rfl
  unfold unpark
  dsimp only
  simp only [present]
  rfl

theorem unparkPower_safety (stop : StopState) (s : State) : (unparkPower stop s).safety = { s.safety with
    unparkInRamp := s.safety.unparkInRamp || stop = .stopping
    drivePower := s.safety.drivePower && !(stop = .stopped || stop = .releasing) } := by
  cases stop with
  | run => simp [unparkPower]
  | stopping => simp [unparkPower]
  | stopped => simp [unparkPower, setPower_safety]
  | releasing => simp [unparkPower, setPower_safety]

theorem KeepsStops.unparkPower {P : State → Prop} (k : KeepsStops P) {s : State} (h : P s) (stop : StopState) :
    P (unparkPower stop s) := by
  cases stop with
  | run => exact h
  | stopping => exact k.safety _ _ rfl h
  | stopped => exact k.power _ _ h
  | releasing => exact k.power _ _ h

/-- What UNPARK leaves, in terms of the state before. -/
structure Unparked (s t : State) : Prop where
  parked : t.drives.parked = false
  lanes : t.lanes = mapAll s.lanes fun l x => unparkLane s.rig.record.lanes[l] s.drives.channels[l] x
  channel : ∀ l : Lane, t.drives.channels[l].core = s.unparkStarts.drives.channels[l].core
  safety : t.safety = (unparkPower s.safety.stop
    (causeEvents (s.failingLanes.map CauseKind.driveFault) s.unparkStarts)).safety
  outputs : OutputsFollow t
  port : ∀ p : Port, Told s.ports[p] t.ports[p]

theorem unpark_unparked (s : State) : Unparked s (unpark s) := by
  have frame := (keepsStops_stopFrame s.unparkStarts).unparkPower ((keepsStops_stopFrame s.unparkStarts).causeEvents
    (s.failingLanes.map CauseKind.driveFault) (.refl _)) s.safety.stop
  have core := (keepsStops_core s.unparkStarts).unparkPower ((keepsStops_core s.unparkStarts).causeEvents
    (s.failingLanes.map CauseKind.driveFault) fun _ => rfl) s.safety.stop
  rw [unpark_eq]
  generalize hu : unparkPower s.safety.stop (causeEvents (s.failingLanes.map CauseKind.driveFault) s.unparkStarts) = u
    at frame core
  exact ⟨frame.parked, frame.lanes, fun l => (refreshOutputs_core u l).trans (core l), by rw [hu]; rfl,
    outputsFollow_refresh u, frame.port⟩

theorem mem_failingLanes (s : State) (l : Lane) :
    l ∈ s.failingLanes ↔ s.lanes[l].present = true ∧ s.drives.channels[l].failing = true := by
  rw [State.failingLanes, List.mem_filter, State.lanePresent, Bool.and_eq_true]
  exact and_iff_right (List.mem_finRange l)

theorem failing_iff (c : Channel) : c.failing = true ↔ c.status = .fault ∨ c.missing = 2 := by
  rw [Channel.failing, Bool.or_eq_true, decide_eq_true_eq, decide_eq_true_eq]

/-- The Safety Monitor after UNPARK: as it was but for drive power where no lane fails, and after a cause event for each
failing lane otherwise (R164). -/
theorem Unparked.safety_none {s t : State} (h : Unparked s t) (hn : s.failingLanes = []) :
    t.safety = (unparkPower s.safety.stop s.unparkStarts).safety := by
  rw [h.safety, hn]
  rfl

theorem Unparked.safety_some {s t : State} (h : Unparked s t) (hn : s.failingLanes ≠ []) : ∃ f n,
    t.safety = { safetyAfter f n (s.failingLanes.map CauseKind.driveFault) s.safety with
      unparkInRamp := s.safety.unparkInRamp || s.safety.stop = .stopping
      drivePower := (safetyAfter f n (s.failingLanes.map CauseKind.driveFault) s.safety).drivePower &&
        !(s.safety.stop = .stopped || s.safety.stop = .releasing) } := by
  refine ⟨s.unparkStarts.tb.f, s.unparkStarts.tb.t, ?_⟩
  rw [h.safety, unparkPower_safety, causeEvents_safety (by simpa using hn)]
  rfl

theorem stopAfterCause_ne_run (x : StopState) : stopAfterCause x ≠ .run := by
  cases x <;> nofun

/-- R164: a failing lane has its cause in the set, and RUN is left. -/
theorem Unparked.causes {s t : State} (h : Unparked s t) {l : Lane} (hl : l ∈ s.failingLanes) :
    t.hasCause (.driveFault l) = true ∧ t.safety.stop ≠ .run := by
  obtain ⟨f, n, he⟩ := h.safety_some (List.ne_nil_of_mem hl)
  obtain ⟨c, hc, hk⟩ := causesAfter_has (f := f) (t := n) s.safety.causes (List.mem_map_of_mem (f := CauseKind.driveFault) hl)
  rw [State.hasCause, he]
  exact ⟨List.any_eq_true.mpr ⟨c, hc, decide_eq_true hk⟩, stopAfterCause_ne_run _⟩

/-- R149: drive power and the stop state by the stop state that UNPARK finds. -/
structure UnparkStops (x y : Safety) : Prop where
  run : x.stop = .run → y.drivePower = x.drivePower ∧ (y.stop = .run ∨ y.stop = .stopping)
  rest : x.stop = .stopped ∨ x.stop = .releasing → y.drivePower = false
  ramp : x.stop = .stopping → y.unparkInRamp = true ∧ y.drivePower = x.drivePower

theorem Unparked.stops {s t : State} (h : Unparked s t) : UnparkStops s.safety t.safety := by
  by_cases hn : s.failingLanes = []
  · have he := h.safety_none hn
    rw [unparkPower_safety] at he
    have same : s.unparkStarts.safety = s.safety := rfl
    rw [same] at he
    refine ⟨fun hs => ?_, fun hs => ?_, fun hs => ?_⟩ <;> rw [he]
    · simp [hs]
    · rcases hs with hs | hs <;> simp [hs]
    · simp [hs]
  · obtain ⟨f, n, he⟩ := h.safety_some hn
    refine ⟨fun hs => ?_, fun hs => ?_, fun hs => ?_⟩ <;> rw [he]
    · rw [safetyAfter_run _ _ _ hs]
      simp [hs]
    · rcases hs with hs | hs <;> simp [hs]
    · rw [safetyAfter_stopping _ _ _ hs]
      simp [hs]

/-- The drive of a failing lane is marked as reported. -/
theorem Unparked.reported {s t : State} (h : Unparked s t) {l : Lane} (hl : l ∈ s.failingLanes) :
    t.drives.channels[l].faultReported = true := by
  obtain ⟨present, failing⟩ := (mem_failingLanes s l).mp hl
  obtain ⟨-, -, reported, -⟩ := channel_of_core (h.channel l)
  have marked : s.unparkStarts.drives.channels[l] = { s.drives.channels[l] with faultReported := true } := by
    rw [State.unparkStarts, State.setDrives_drives, mapAll_get, State.lanePresent, present, failing]
    rfl
  rw [reported, marked]

/-- R24, R164: a present lane at UNPARK. -/
theorem unparkLane_present {r : RigLane} {c : Channel} {x : LaneRec} {p : Int} (hx : x.present = true)
    (hp : (∃ n, c.latestCount = some n ∧ p = n * 256) ∨ (c.latestCount = none ∧ p = x.p)) : unparkLane r c x =
      { present := true,
        condition := if c.status = .fault ∨ c.missing = 2 then .disabled .driveFault else .active,
        p := p, v := 0, t := p, softMin := r.hardMin, softMax := r.hardMax, vmax := r.defVmax, a := r.defA,
        astop := max r.defAstop r.defA, k := r.defK, trackTol := 4096, followLimit := r.followCeil, sEff := 0,
        limitClip := false, capped := false } := by
  have reload : reloadLane c.latestCount (startLane r x) =
      { startLane r x with condition := .active, p := p, v := 0, t := p } := by
    rcases hp with ⟨n, hc, rfl⟩ | ⟨hc, rfl⟩ <;> rw [hc] <;> rfl
  unfold unparkLane
  rw [if_neg (by rw [hx]; nofun), reload]
  dsimp only
  by_cases hf : c.failing = true
  · rw [if_pos hf, if_pos ((failing_iff c).mp hf)]
    dsimp only [startLane]
    rw [hx]
  · rw [if_neg hf, if_neg (mt (failing_iff c).mpr hf)]
    dsimp only [startLane]
    rw [hx]

/-! ### The statement -/

/-- Settles O43: the judgements of PARK and UNPARK, and what each makes of the part. -/
theorem parkAndUnpark : Obligations.ParkAndUnpark := by
  unfold Obligations.ParkAndUnpark
  intro rx r s h hr hm
  have active : ∀ t : State, t.ports[rx.port].link = (noteValid rx s).ports[rx.port].link → t.isActive rx.port = true :=
    fun t hl => by
      rw [State.isActive, hl]
      exact (noteValid_isActive (rx := rx) (s := s) (p := rx.port)).trans h.1
  have parkable := parkable_iff (noteValid rx s)
  refine ⟨fun hp => ?_, fun hp hb => ?_, fun hp h1 h2 h3 => ?_, fun hp => ?_, fun hp => ?_⟩
  · exact exec_park h hr hm (if_pos hp)
  · refine exec_park h hr hm ?_
    have busy : (!(noteValid rx s).parkable) = true := by
      rw [Bool.not_eq_true', Bool.eq_false_iff, Ne, parkable]
      rintro ⟨h1, h2, h3⟩
      rcases hb with hb | hb | ⟨l, hl, hv⟩
      · exact hb h1
      · exact hb h2
      · exact hv (h3 l hl)
    exact (if_neg (Bool.eq_false_iff.mp hp)).trans (if_pos busy)
  · have free : ¬ (!(noteValid rx s).parkable) = true := by
      rw [Bool.not_eq_true', Bool.not_eq_false]
      exact parkable.mpr ⟨h1, h2, h3⟩
    have run := exec_park (s1 := park (noteValid rx s)) (a := Answer.done) h hr hm
      ((if_neg (Bool.eq_false_iff.mp hp)).trans (if_neg free))
    have parked := park_parked (noteValid rx s)
    generalize park (noteValid rx s) = u at run parked
    have ended := ended_replied rx Answer.done u
    have lane : ∀ l : Lane, u.lanes[l] = parkLane s.lanes[l] := fun l => by rw [parked.lanes, mapAll_get]; rfl
    have grant : ∀ l : Lane, u.grants[l] = if s.lanePresent l then Grant.reset else s.grants[l] := fun l => by
      rw [parked.grants, State.cleared, mapAll_get]
      rfl
    refine ⟨_, run, by rw [ended.drives, parked.parked], ended.safety.trans parked.safety, fun l => ?_, fun l hl => ?_,
      fun l hl => ?_, ?_⟩
    · have off : u.outputsOn l = false := by
        rw [State.outputsOn, lane, parkLane]
        by_cases hl : s.lanes[l].present = true
        · rw [if_pos hl]
          exact Bool.and_false _
        · rw [if_neg hl, Bool.eq_false_iff.mpr hl, Bool.and_false, Bool.false_and]
      rw [ended.drives, ← off]
      exact parked.outputs l
    · rw [ended.lanes, ended.grants, lane, grant]
      exact ⟨if_pos hl, if_pos hl⟩
    · rw [ended.lanes, ended.grants, lane, grant]
      exact ⟨if_neg (Bool.eq_false_iff.mp hl), if_neg (Bool.eq_false_iff.mp hl)⟩
    · rw [replied_replies (active u (parked.replies rx.port).1), (parked.replies rx.port).2, noteValid_replies]
  · refine exec_unpark h hr hm ?_
    have free : (!(noteValid rx s).drives.parked) = true := by
      rw [Bool.not_eq_true']
      exact hp
    exact if_pos free
  · have taken : ¬ (!(noteValid rx s).drives.parked) = true := by
      rw [Bool.not_eq_true', Bool.not_eq_false]
      exact hp
    have run := exec_unpark (s1 := unpark (noteValid rx s)) (a := Answer.done) h hr hm (if_neg taken)
    have unparked := unpark_unparked (noteValid rx s)
    generalize unpark (noteValid rx s) = u at run unparked
    have ended := ended_replied rx Answer.done u
    have lane : ∀ l : Lane, u.lanes[l] = unparkLane s.rig.record.lanes[l] s.drives.channels[l] s.lanes[l] := fun l => by
      rw [unparked.lanes, mapAll_get]
      rfl
    have failing : ∀ l : Lane, l ∈ (noteValid rx s).failingLanes ↔
        s.lanes[l].present = true ∧ (s.drives.channels[l].status = .fault ∨ s.drives.channels[l].missing = 2) := fun l => by
      rw [mem_failingLanes, failing_iff]
      rfl
    refine ⟨_, run, by rw [ended.drives, unparked.parked], fun l p hl hp => ?_, fun l hl => ?_, fun l hl hf => ⟨?_, ?_, ?_⟩,
      fun hn => ?_, fun hs => ?_, fun hs => ?_, fun hs => ?_, fun l => ?_, ?_⟩
    · rw [ended.lanes, lane]
      exact unparkLane_present hl hp
    · rw [ended.lanes, lane, unparkLane, if_pos (by rw [hl]; rfl)]
    · rw [State.hasCause, ended.safety]
      exact (unparked.causes ((failing l).mpr ⟨hl, hf⟩)).1
    · rw [ended.drives]
      exact unparked.reported ((failing l).mpr ⟨hl, hf⟩)
    · rw [ended.safety]
      exact (unparked.causes ((failing l).mpr ⟨hl, hf⟩)).2
    · have none : (noteValid rx s).failingLanes = [] := List.eq_nil_iff_forall_not_mem.mpr fun l hl => by
        obtain ⟨hp, hf⟩ := (failing l).mp hl
        exact hf.elim (hn l hp).1 (hn l hp).2
      rw [ended.safety, unparked.safety_none none, unparkPower_safety]
      exact ⟨rfl, rfl⟩
    · rw [ended.safety]
      exact unparked.stops.run hs
    · rw [ended.safety]
      exact unparked.stops.rest hs
    · rw [ended.safety]
      exact unparked.stops.ramp hs
    · rw [ended.drives]
      have same : (replied rx Answer.done u).outputsOn l = u.outputsOn l := by
        rw [State.outputsOn, State.outputsOn, ended.safety, ended.lanes]
      rw [same]
      exact unparked.outputs l
    · have told := unparked.port rx.port
      rw [replied_replies (active u (by rw [told])), told, noteValid_replies]

end Sys2Proof.Machine
end

section
/-! PROOFS. RIG WRITE and RIG FREEZE (O44, R166, R167): the judgement of entries, and what a record that is taken makes of the
part. -/

namespace Sys2Proof.Machine

open Sys2Proof

/-! ### Entries -/

/-- An entry that no record can take: a lane outside 0 to 11, a value out of its range, or hard limits out of order (R166). -/
def badEntry (e : RigEntry) : Prop :=
  12 ≤ e.lane ∨
    (∃ x : Int, (e.hardMin = some x ∨ e.hardMax = some x) ∧ (x < -274877906944 ∨ 274877906944 < x)) ∨
    (∃ x y : Int, e.hardMin = some x ∧ e.hardMax = some y ∧ y < x) ∨
    (∃ x, e.vmaxCeil = some x ∧ (x < 1 ∨ 16777216 < x)) ∨ (∃ x, e.aCeil = some x ∧ (x < 1 ∨ 1048575 < x)) ∨
    (∃ x, e.astopFloor = some x ∧ (x < 1 ∨ 1048575 < x)) ∨ (∃ x, e.followCeil = some x ∧ (x < 1 ∨ 1048576 < x)) ∨
    (∃ x, e.defK = some x ∧ (x < 1 ∨ 65536 < x))

theorem rigLaneValid_iff (r : RigLane) : rigLaneValid r = true ↔
    (-274877906944 ≤ r.hardMin ∧ r.hardMin ≤ 274877906944) ∧ (-274877906944 ≤ r.hardMax ∧ r.hardMax ≤ 274877906944) ∧
      r.hardMin ≤ r.hardMax ∧ (1 ≤ r.vmaxCeil ∧ r.vmaxCeil ≤ 16777216) ∧ (1 ≤ r.aCeil ∧ r.aCeil ≤ 1048575) ∧
      (1 ≤ r.astopFloor ∧ r.astopFloor ≤ 1048575) ∧ (1 ≤ r.followCeil ∧ r.followCeil ≤ 1048576) ∧
      (1 ≤ r.defK ∧ r.defK ≤ 65536) := by
  rw [rigLaneValid]
  simp only [Bool.and_eq_true, decide_eq_true_eq, inPosRange_iff, and_assoc]
  rfl

/-- R166: a lane record that an entry leaves valid shows that the entry is not bad. -/
theorem not_bad_of_valid {e : RigEntry} {r : RigLane} (hl : e.lane < 12) (hv : rigLaneValid (applyEntry e r) = true) :
    ¬ badEntry e := by
  obtain ⟨hmin, hmax, order, vmax, acc, astop, follow, gain⟩ := (rigLaneValid_iff _).mp hv
  rintro (h | ⟨x, h | h, hx⟩ | ⟨x, y, h, h', hx⟩ | ⟨x, h, hx⟩ | ⟨x, h, hx⟩ | ⟨x, h, hx⟩ | ⟨x, h, hx⟩ | ⟨x, h, hx⟩)
  · omega
  · simp only [applyEntry, h, Option.getD_some] at hmin
    omega
  · simp only [applyEntry, h, Option.getD_some] at hmax
    omega
  · simp only [applyEntry, h, h', Option.getD_some] at order
    omega
  · simp only [applyEntry, h, Option.getD_some] at vmax
    omega
  · simp only [applyEntry, h, Option.getD_some] at acc
    omega
  · simp only [applyEntry, h, Option.getD_some] at astop
    omega
  · simp only [applyEntry, h, Option.getD_some] at follow
    omega
  · simp only [applyEntry, h, Option.getD_some] at gain
    omega

theorem entriesValid_sound {es : List RigEntry} {v : Vector RigLane 12} (h : entriesValid es v = true) :
    ∀ e ∈ es, ¬ badEntry e := by
  induction es generalizing v with
  | nil => exact fun _ h => absurd h List.not_mem_nil
  | cons e es ih =>
    rw [entriesValid, Bool.and_eq_true] at h
    obtain ⟨first, rest⟩ := h
    intro x hx
    rcases List.mem_cons.mp hx with rfl | hx
    · split at first
      · next l hl =>
        have range : x.lane < 12 := by
          rcases Nat.lt_or_ge x.lane 12 with h | h
          · exact h
          · rw [indexOf_of_le h] at hl
            cases hl
        exact not_bad_of_valid range first
      · cases first
    · exact ih rest x hx

theorem indexOf_some {n i : Nat} {l : Fin n} (h : indexOf n i = some l) : i = l.val := by
  unfold indexOf at h
  split at h
  · rw [← Option.some.inj h]
  · cases h

theorem applyEntries_one (e : RigEntry) (v : Vector RigLane 12) (l : Lane) :
    (applyEntries [e] v)[l] = if e.lane = l.val then applyEntry e v[l] else v[l] := by
  change (takeEntry e v)[l] = _
  unfold takeEntry
  split
  · next i hi =>
    have lane : e.lane = i.val := indexOf_some hi
    rw [updAt_get, lane]
    by_cases h : i = l
    · rw [if_pos h, if_pos (congrArg Fin.val h)]
    · rw [if_neg h, if_neg fun e => h (Fin.ext e)]
  · next hn =>
    rw [if_neg]
    intro h
    rw [h, indexOf_val] at hn
    cases hn

/-! ### RIG WRITE -/

theorem rigBlocked_iff (x : LaneRec) : rigBlocked x = true ↔
    x.present = true ∧ (((x.p < x.softMin ∨ x.softMax < x.p) ∧ x.v ≠ 0) ∨ x.vmax < x.v.natAbs) := by
  rw [rigBlocked]
  simp only [Bool.and_eq_true, Bool.or_eq_true, decide_eq_true_eq]
  rfl

theorem rigAdjust_keepsPresent (r : RigLane) (x : LaneRec) : (rigAdjust r x).present = x.present := by
  cases hp : x.present with
  | false => rw [rigAdjust_absent hp, hp]
  | true => rw [rigAdjust_present hp]; exact hp

/-- The lane records that a write would leave. -/
theorem anyBlocked_iff (v : Vector RigLane 12) (lanes : Vector LaneRec 12) :
    (mapAll lanes fun l x => rigAdjust v[l] x).toList.any rigBlocked = true ↔
      ∃ l : Lane, rigBlocked (rigAdjust v[l] lanes[l]) = true := by
  rw [List.any_eq_true]
  constructor
  · rintro ⟨x, hx, hb⟩
    obtain ⟨i, hi, rfl⟩ := Vector.mem_iff_getElem.mp (Vector.mem_toList_iff.mp hx)
    rw [mapAll_getNat] at hb
    exact ⟨⟨i, hi⟩, hb⟩
  · rintro ⟨l, hb⟩
    refine ⟨(mapAll lanes fun l x => rigAdjust v[l] x)[l], Vector.mem_toList_iff.mpr (Vector.getElem_mem l.isLt), ?_⟩
    rw [mapAll_get]
    exact hb

section Write

variable {a : RigArgs} {s : State}

/-- R166: the record that the request would leave can be one. -/
def RigFits (a : RigArgs) (r : RigRecord) : Prop :=
  entriesValid a.entries r.lanes = true ∧ LaneSet.inRange (a.presentSet.getD r.presentSet) = true ∧
    a.identity.getD r.identity < 4294967296

/-- R166: a present lane moves outside its new limits, or faster than its new Vmax. -/
def RigBlocks (a : RigArgs) (s : State) : Prop :=
  ∃ l : Lane, rigBlocked (rigAdjust (clampDefaults (applyEntries a.entries s.rig.record.lanes)[l]) s.lanes[l]) = true

theorem rigBlocks_iff : RigBlocks a s ↔ ∃ l : Lane,
    let x := rigAdjust (clampDefaults (applyEntries a.entries s.rig.record.lanes)[l]) s.lanes[l]
    s.lanes[l].present = true ∧ (((x.p < x.softMin ∨ x.softMax < x.p) ∧ x.v ≠ 0) ∨ x.vmax < x.v.natAbs) :=
  exists_congr fun l => by rw [rigBlocked_iff, rigAdjust_keepsPresent]

theorem rigFits_iff : (!(entriesValid a.entries s.rig.record.lanes && LaneSet.inRange (a.presentSet.getD s.rig.record.presentSet) &&
    decide (a.identity.getD s.rig.record.identity < 4294967296))) = true ↔ ¬ RigFits a s.rig.record := by
  rw [Bool.not_eq_true', Bool.eq_false_iff, Ne, Bool.and_eq_true, Bool.and_eq_true, decide_eq_true_eq, RigFits, and_assoc]

theorem judgeRigWrite_frozen (h : s.rig.record.frozen = true) : judgeRigWrite a s = refuse .takeProtected s := if_pos h

theorem judgeRigWrite_waiting (h : s.rig.record.frozen = false) (hp : s.rig.freezePending = true) :
    judgeRigWrite a s = refuse .busy s := (if_neg (Bool.eq_false_iff.mp h)).trans (if_pos hp)

theorem judgeRigWrite_bad (h : s.rig.record.frozen = false) (hp : s.rig.freezePending = false) (hf : ¬ RigFits a s.rig.record) :
    judgeRigWrite a s = refuse .badValue s :=
  (if_neg (Bool.eq_false_iff.mp h)).trans ((if_neg (Bool.eq_false_iff.mp hp)).trans (if_pos (rigFits_iff.mpr hf)))

theorem blocks_iff : (mapAll s.lanes fun l x =>
    rigAdjust (mapAll (applyEntries a.entries s.rig.record.lanes) fun _ x => clampDefaults x)[l] x).toList.any rigBlocked = true ↔
      RigBlocks a s := by
  rw [anyBlocked_iff]
  exact exists_congr fun l => by rw [mapAll_get]

theorem judgeRigWrite_blocked (h : s.rig.record.frozen = false) (hp : s.rig.freezePending = false) (hf : RigFits a s.rig.record)
    (hb : RigBlocks a s) : judgeRigWrite a s = refuse .busy s :=
  (if_neg (Bool.eq_false_iff.mp h)).trans ((if_neg (Bool.eq_false_iff.mp hp)).trans
    ((if_neg (mt rigFits_iff.mp (not_not.mpr hf))).trans (if_pos (blocks_iff.mpr hb))))

theorem judgeRigWrite_taken (h : s.rig.record.frozen = false) (hp : s.rig.freezePending = false) (hf : RigFits a s.rig.record)
    (hb : ¬ RigBlocks a s) : ∃ adjusted, judgeRigWrite a s = doneAdjusted adjusted (queueRig (s.rigWritten a.entries
      (a.identity.getD s.rig.record.identity) (a.presentSet.getD s.rig.record.presentSet))) :=
  ⟨_, (if_neg (Bool.eq_false_iff.mp h)).trans ((if_neg (Bool.eq_false_iff.mp hp)).trans
    ((if_neg (mt rigFits_iff.mp (not_not.mpr hf))).trans (if_neg (mt blocks_iff.mp hb))))⟩

end Write

/-! ### The write that waits -/

theorem mem_enqueued (r : Reserved) (q : List Reserved) : r ∈ enqueued r q := by
  unfold enqueued
  split
  · next h => exact List.contains_iff_mem.mp h
  · exact List.mem_append_right _ (List.mem_singleton.mpr rfl)

theorem queueRig_eq (s : State) : queueRig s = (s.setRig { s.rig with store := storeChanged s.rig.store }).setMem
    { s.mem with reservedQueue := enqueued .rig s.mem.reservedQueue } := queueReserved_eq _ _

theorem storeChanged_ne (x : StoreState) : storeChanged x ≠ .stored := by cases x <;> nofun

/-- With the array busy the end of a command leaves the take memory and the rig record alone (R81). -/
theorem replied_busy {s : State} (h : s.mem.op.isSome = true) (rx : Rx) (a : Answer) :
    (replied rx a s).mem = s.mem ∧ (replied rx a s).rig = s.rig ∧ (replied rx a s).lens = s.lens ∧
      (replied rx a s).recorder = s.recorder := by
  have pushed := pushReply_frame rx.port (a.reply rx.tag .ordinary) s
  rw [replied, settle, schedule_busy (.inr (by rw [pushed.mem]; exact h))]
  exact ⟨pushed.mem, pushed.rig, pushed.lens, pushed.recorder⟩

/-- What the end of a request leaves whose record waits for its write (R165). -/
structure RigQueued (rx : Rx) (a : Answer) (s t : State) : Prop where
  record : t.rig.record = s.rig.record
  freezePending : t.rig.freezePending = s.rig.freezePending
  lanes : t.lanes = s.lanes
  replies : t.ports[rx.port].replies = s.ports[rx.port].replies ++ [a.reply rx.tag .ordinary]
  waits : s.mem.op.isSome = true → t.rig.store ≠ .stored ∧ Reserved.rig ∈ t.mem.reservedQueue

theorem replied_queueRig {rx : Rx} {s : State} (h : s.isActive rx.port = true) (a : Answer) :
    RigQueued rx a s (replied rx a (queueRig s)) := by
  have ended := ended_replied rx a (queueRig s)
  have answered := replied_replies (rx := rx) (s := queueRig s) (by rw [queueRig_eq]; exact h) a
  have busy := replied_busy (s := queueRig s) (rx := rx) (a := a)
  rw [queueRig_eq] at ended answered busy ⊢
  refine ⟨ended.record, ended.freezePending, ended.lanes, answered, fun ho => ?_⟩
  obtain ⟨hm, hr, -⟩ := busy ho
  rw [hm, hr]
  exact ⟨storeChanged_ne _, mem_enqueued _ _⟩

/-! ### RIG FREEZE -/

section Freeze

variable {s : State}

theorem judgeRigFreeze_frozen (h : s.rig.record.frozen = true) : judgeRigFreeze () s = done s := if_pos h

theorem judgeRigFreeze_waiting (h : s.rig.record.frozen = false) (hp : s.rig.freezePending = true) :
    judgeRigFreeze () s = refuse .busy s := (if_neg (Bool.eq_false_iff.mp h)).trans (if_pos hp)

theorem members_isEmpty_iff (ls : LaneSet) :
    (LaneSet.members ls).isEmpty = true ↔ ∀ l : Lane, LaneSet.has ls l = false := by
  rw [List.isEmpty_iff, LaneSet.members, List.filter_eq_nil_iff]
  refine ⟨fun h l => Bool.eq_false_iff.mpr (h l (List.mem_finRange l)), fun h l _ => ?_⟩
  rw [h l]
  exact Bool.false_ne_true

theorem judgeRigFreeze_empty (h : s.rig.record.frozen = false) (hp : s.rig.freezePending = false)
    (hn : ∀ l : Lane, LaneSet.has s.rig.record.presentSet l = false) : judgeRigFreeze () s = refuse .wrongState s :=
  (if_neg (Bool.eq_false_iff.mp h)).trans ((if_neg (Bool.eq_false_iff.mp hp)).trans (if_pos ((members_isEmpty_iff _).mpr hn)))

theorem judgeRigFreeze_taken (h : s.rig.record.frozen = false) (hp : s.rig.freezePending = false)
    (hl : ∃ l : Lane, LaneSet.has s.rig.record.presentSet l = true) :
    judgeRigFreeze () s = accept (queueRig (s.setRig { s.rig with freezePending := true })) := by
  refine (if_neg (Bool.eq_false_iff.mp h)).trans ((if_neg (Bool.eq_false_iff.mp hp)).trans (if_neg ?_))
  rw [members_isEmpty_iff]
  obtain ⟨l, hl⟩ := hl
  exact fun h => Bool.false_ne_true ((h l).symm.trans hl)

end Freeze

/-! ### The statement -/

/-- The defaults of a record within its ceilings and floor (R166). -/
theorem clampDefaults_fields (r : RigLane) :
    let g := clampDefaults r
    g.hardMin = r.hardMin ∧ g.hardMax = r.hardMax ∧ g.vmaxCeil = r.vmaxCeil ∧ g.aCeil = r.aCeil ∧
      g.astopFloor = r.astopFloor ∧ g.followCeil = r.followCeil ∧ g.defVmax = clampNat 1 g.vmaxCeil r.defVmax ∧
      g.defA = clampNat 1 g.aCeil r.defA ∧ g.defAstop = max (clampNat g.astopFloor 1048575 r.defAstop) g.defA ∧
      g.defK = r.defK := ⟨rfl, rfl, rfl, rfl, rfl, rfl, rfl, rfl, rfl, rfl⟩

/-- Settles O44: the rows of RIG WRITE and RIG FREEZE in their order. -/
theorem rigRecordRequests : Obligations.RigRecordRequests := by
  unfold Obligations.RigRecordRequests
  intro rx a s h
  have write : ∀ {s1 ans}, judgeRigWrite a (noteValid rx s) = (s1, some ans) →
      exec (.rigWrite rx (.fields a)) s = .next (replied rx ans s1) := fun hj =>
    congrArg Host.Outcome.next (takeRequest_motion h hj)
  have freeze : ∀ {s1 ans}, judgeRigFreeze () (noteValid rx s) = (s1, some ans) →
      exec (.rigFreeze rx (.fields ())) s = .next (replied rx ans s1) := fun hj =>
    congrArg Host.Outcome.next (takeRequest_motion h hj)
  have active : (noteValid rx s).isActive rx.port = true :=
    (noteValid_isActive (rx := rx) (s := s) (p := rx.port)).trans h.1.1
  refine ⟨fun hf => ⟨?_, ?_⟩, fun hf hp => ⟨?_, ?_⟩, fun hf hp => ?_⟩
  · exact write (judgeRigWrite_frozen hf)
  · exact freeze (judgeRigFreeze_frozen hf)
  · exact write (judgeRigWrite_waiting hf hp)
  · exact freeze (judgeRigFreeze_waiting hf hp)
  have refused : ¬ RigFits a s.rig.record →
      exec (.rigWrite rx (.fields a)) s = .next (replied rx (Answer.refused .badValue) (noteValid rx s)) := fun hn =>
    write (judgeRigWrite_bad (s := noteValid rx s) hf hp hn)
  have blocks := rigBlocks_iff (a := a) (s := noteValid rx s)
  refine ⟨fun hb => ?_, refused, fun fits hb => ?_, fun fits hb => ?_, fun hn => ?_, fun hl => ?_⟩
  · refine refused fun fits => ?_
    rcases hb with ⟨e, he, hb⟩ | ⟨ls, hs, hr⟩
    · exact entriesValid_sound fits.1 e he hb
    · have := fits.2.1
      rw [hs, Option.getD_some, hr] at this
      cases this
  · exact write (judgeRigWrite_blocked (s := noteValid rx s) hf hp fits (blocks.mpr hb))
  · obtain ⟨adjusted, judged⟩ := judgeRigWrite_taken (s := noteValid rx s) hf hp fits (mt blocks.mp hb)
    have run := write judged
    generalize hw : (noteValid rx s).rigWritten a.entries (a.identity.getD (noteValid rx s).rig.record.identity)
      (a.presentSet.getD (noteValid rx s).rig.record.presentSet) = w at run
    have record : w.rig.record = { s.rig.record with
        identity := a.identity.getD s.rig.record.identity, presentSet := a.presentSet.getD s.rig.record.presentSet,
        lanes := mapAll (applyEntries a.entries s.rig.record.lanes) fun _ x => clampDefaults x } := by rw [← hw]; rfl
    have adjust : ∀ l : Lane, w.lanes[l] =
        rigAdjust (clampDefaults (applyEntries a.entries s.rig.record.lanes)[l]) s.lanes[l] := fun l => by
      rw [← hw, State.rigWritten, State.setRig_lanes, State.setLanes_lanes, mapAll_get, mapAll_get]
      rfl
    have lane : ∀ l : Lane, w.rig.record.lanes[l] = clampDefaults (applyEntries a.entries s.rig.record.lanes)[l] := fun l => by
      rw [record, mapAll_get]
    have port : w.ports = (noteValid rx s).ports := by rw [← hw]; rfl
    have mem : w.mem = s.mem := by rw [← hw]; rfl
    have queued := replied_queueRig (rx := rx) (s := w) (by rw [State.isActive, port]; exact active)
      { Answer.done with adjusted := adjusted }
    refine ⟨_, run, ?_, ?_, ?_, fun l => ?_, fun e he l => ⟨fun hl => ?_, fun hl => ?_⟩, fun l hl => ?_, fun l hl => ?_,
      ⟨adjusted, ?_⟩, fun ho => ?_⟩
    · rw [queued.record, record]
    · rw [queued.record, record]
    · rw [queued.record, record, hf]
    · rw [queued.record, lane]
      exact clampDefaults_fields _
    · rw [he, applyEntries_one, if_neg hl]
    · rw [he, applyEntries_one, if_pos hl]
      exact ⟨rfl, rfl, rfl, rfl, rfl, rfl, rfl, rfl, rfl, rfl⟩
    · rw [queued.record, queued.lanes, lane, adjust, rigAdjust_present hl]
    · rw [queued.lanes, adjust, rigAdjust_absent hl]
    · rw [queued.replies, port, noteValid_replies]
    · exact queued.waits (by rw [mem]; exact ho)
  · exact freeze (judgeRigFreeze_empty (s := noteValid rx s) hf hp hn)
  · have run := freeze (judgeRigFreeze_taken (s := noteValid rx s) hf hp hl)
    have queued := replied_queueRig (rx := rx) (s := (noteValid rx s).setRig { (noteValid rx s).rig with freezePending := true })
      active Answer.accepted
    refine ⟨_, run, queued.freezePending, queued.record, ?_, fun ho => (queued.waits ho).2⟩
    rw [queued.replies, State.setRig_ports, noteValid_replies]

end Sys2Proof.Machine
end

section
/-! PROOFS. What a READ of the array hands over (O45, R98, R99, R118, R127). -/

namespace Sys2Proof.Machine

open Sys2Proof

/-! ### The Playback Unit's samples -/

theorem members_nodup (ls : LaneSet) : (LaneSet.members ls).Nodup := (List.nodup_finRange 12).filter _

theorem findIdx_of_getElem? {ls : LaneSet} {l : Lane} {j : Nat} (h : (LaneSet.members ls)[j]? = some l) :
    (LaneSet.members ls).findIdx (fun m => m = l) = j := by
  obtain ⟨hj, rfl⟩ := List.getElem?_eq_some_iff.mp h
  refine (List.findIdx_eq hj).mpr ⟨by simp, fun i hi => ?_⟩
  have ne : (LaneSet.members ls)[i] ≠ (LaneSet.members ls)[j] := fun e =>
    absurd ((members_nodup ls).getElem_inj_iff.mp e) (by omega)
  simpa using ne

/-- What a buffered sample holds of a stored one (R114, R118). -/
structure BufferedAs (s : State) (h : Header) (k : Nat) (x : StoredSample) (y : BufSample) : Prop where
  index : y.index = k
  marks : y.marks = x.marks
  apart : ∀ l : Lane, s.participates l = false → y.pos[l] = none
  pos : ∀ (l : Lane) (j : Nat), s.participates l = true → (LaneSet.members h.lanes)[j]? = some l → y.pos[l] = x.pos[j]?

theorem bufSample_as (s : State) (h : Header) (k : Nat) (x : StoredSample) :
    BufferedAs s h k x (bufSample s.play.participation h.lanes k x) := by
  have own : ∀ l : Lane, (bufSample s.play.participation h.lanes k x).pos[l] =
      if s.participates l then x.pos[(LaneSet.members h.lanes).findIdx fun m => m = l]? else none := fun l => by
    unfold bufSample
    rw [Fin.getElem_fin, Vector.getElem_ofFn]
    rfl
  refine ⟨rfl, rfl, fun l hl => ?_, fun l j hl hj => ?_⟩
  · rw [own, hl, if_neg Bool.false_ne_true]
  · rw [own, hl, if_pos rfl, findIdx_of_getElem? hj]

section Play

variable {i : SlotNo} {n k : Nat} {h : Header} {x : StoredSample} {s : State}

theorem readDone_play (hx : (s.takeSamples i)[n]? = some x) (hh : s.mem.slots[i].header = some h)
    (ho : s.mem.op = some (.read i n (.play k))) : readDone s = playRead k x h.lanes (freeArray s) := by
  unfold readDone
  rw [ho]
  dsimp only
  rw [hx, hh]
  rfl

variable (s) in
/-- The resume sample of a segment is not yet found (R127). -/
def Searching : Prop := s.play.state = .deferred ∧ s.play.resumeIndex = none

variable (s) in
theorem searching_iff : (decide (s.play.state = .deferred) && s.play.resumeIndex.isNone) = true ↔ Searching s := by
  rw [Bool.and_eq_true, decide_eq_true_eq, Option.isNone_iff_eq_none, Searching]

theorem playRead_plain (hs : ¬ Searching s) (lanes : LaneSet) : playRead k x lanes s =
    s.setPlay { s.play with nextRead := k + 1, buffer := s.play.buffer ++ [bufSample s.play.participation lanes k x] } := by
  unfold playRead
  dsimp only
  rw [if_neg (mt (searching_iff s).mp hs)]

theorem isResume_iff (lanes : LaneSet) : isResume s.playImplied s.play.len (bufSample s.play.participation lanes k x) = true ↔
    x.marks.resume = true ∨ (s.playImplied = true ∧ k + 1 = s.play.len) := by
  rw [isResume, Bool.or_eq_true, Bool.and_eq_true, decide_eq_true_eq]
  rfl

theorem playRead_found (hs : Searching s) (hr : x.marks.resume = true ∨ (s.playImplied = true ∧ k + 1 = s.play.len))
    (lanes : LaneSet) : playRead k x lanes s = raiseSegmentStart (s.setPlay { s.play with
      nextRead := k + 1, buffer := s.play.buffer ++ [bufSample s.play.participation lanes k x], resumeIndex := some k }) := by
  unfold playRead
  dsimp only
  rw [if_pos ((searching_iff s).mpr hs), if_pos ((isResume_iff lanes).mpr hr)]

theorem playRead_dropped (hs : Searching s) (hr : ¬ (x.marks.resume = true ∨ (s.playImplied = true ∧ k + 1 = s.play.len)))
    (lanes : LaneSet) : playRead k x lanes s = s.setPlay { s.play with nextRead := k + 1 } := by
  unfold playRead
  dsimp only
  rw [if_pos ((searching_iff s).mpr hs), if_neg (mt (isResume_iff lanes).mp hr)]

end Play

/-! ### A fetch -/

/-- One sample joins the fetch (R98). -/
def Fetch.take (f : Fetch) (x : StoredSample) : Fetch :=
  { f with next := f.next + 1, left := f.left - 1, samples := f.samples ++ [x] }

/-- The state with one sample joined to a port's fetch, of which the port has one. -/
theorem fetchRead_eq {p : Port} {before after : List Fetch} {f : Fetch} {s : State} (hf : s.mem.fetches = before ++ f :: after)
    (hp : f.port = p) (ho : ∀ g ∈ before ++ after, g.port ≠ p) (x : StoredSample) :
    fetchRead p x s =
      if f.left - 1 = 0 then
        pushReply p (({ outcome := .done, adjusted := f.adjusted, payload := .samples (f.samples ++ [x]) } : Answer).reply
          f.tag .fetch) (s.setMem { s.mem with fetches := before ++ f.take x :: after })
      else s.setMem { s.mem with fetches := before ++ f.take x :: after } := by
  have same : ∀ gs : List Fetch, (∀ g ∈ gs, g.port ≠ p) → gs.map (fun g => if g.port = p then g.take x else g) = gs :=
    fun gs hg => (List.map_congr_left fun g h => if_neg (hg g h)).trans (List.map_id' gs)
  have stepped : (s.mem.fetches.map fun g => if g.port = p then
      { g with next := g.next + 1, left := g.left - 1, samples := g.samples ++ [x] } else g) = before ++ f.take x :: after := by
    refine (congrArg (List.map fun g => if g.port = p then g.take x else g) hf).trans ?_
    rw [List.map_append, List.map_cons, if_pos hp, same before fun g h => ho g (List.mem_append_left _ h),
      same after fun g h => ho g (List.mem_append_right _ h)]
  have found : (before ++ f.take x :: after).find? (fun g => g.port = p) = some (f.take x) := by
    rw [List.find?_append, List.find?_eq_none.mpr fun g h => by simpa using ho g (List.mem_append_left _ h), Option.none_or]
    exact List.find?_cons_of_pos (decide_eq_true hp)
  unfold fetchRead
  dsimp only
  rw [stepped, State.setMem_mem]
  dsimp only
  rw [found]
  rfl

/-- Settles O45: the reader of the READ, and what the sample finds there. -/
theorem readCompletes : Obligations.ReadCompletes := by
  unfold Obligations.ReadCompletes
  intro i n h x s hx hh
  refine ⟨fun k ho => ?_, fun p before after f ho hf hp hother => ⟨fun hl => ?_, fun hl ha => ?_⟩, fun ho => ?_⟩
  · have read := readDone_play hx hh ho
    have buffered := bufSample_as s h k x
    dsimp only
    refine ⟨fun hs => ?_, fun hs hr => ?_, fun hs hr => ?_⟩
    · rw [playRead_plain (s := freeArray s) hs] at read
      refine ⟨_, _, congrArg (fun t => Host.Outcome.next (settle t)) read, (endWork_settle _).play,
        buffered.index, buffered.marks, buffered.apart, buffered.pos⟩
    · rw [playRead_found (s := freeArray s) hs hr] at read
      refine ⟨_, _, congrArg (fun t => Host.Outcome.next (settle t)) read,
        (endWork_settle _).play.trans (raiseMotion_frame _ _).play, buffered.index, buffered.marks, buffered.apart, buffered.pos⟩
    · rw [playRead_dropped (s := freeArray s) hs hr] at read
      exact congrArg (fun t => Host.Outcome.next (settle t)) read
  · have read : readDone s = fetchRead p x (freeArray s) := by
      unfold readDone
      rw [ho]
      dsimp only
      rw [hx]
    rw [fetchRead_eq (s := freeArray s) hf hp hother, if_neg (by omega)] at read
    exact congrArg (fun t => Host.Outcome.next (settle t)) read
  · have read : readDone s = fetchRead p x (freeArray s) := by
      unfold readDone
      rw [ho]
      dsimp only
      rw [hx]
    rw [fetchRead_eq (s := freeArray s) hf hp hother, if_pos (by rw [hl])] at read
    refine ⟨_, congrArg (fun t => Host.Outcome.next (settle t)) read, ?_, ?_⟩
    · rw [(endWork_settle _).fetches, (pushReply_frame _ _ _).mem, State.setMem_mem, Fetch.take, hl]
    · have active : ((freeArray s).setMem { (freeArray s).mem with fetches := before ++ f.take x :: after }).isActive p = true :=
        decide_eq_true ha
      rw [settle_replies, pushReply_same active]
      rfl
  · have read : readDone s = freeArray s := by
      unfold readDone
      rw [ho]
    exact congrArg (fun t => Host.Outcome.next (settle t)) read

end Sys2Proof.Machine
end

section
/-! PROOFS. PROGRAMs that complete (O46, R86, R95, R97): the state each leaves, and what the array's next choice leaves of it. -/

namespace Sys2Proof.Machine

open Sys2Proof

/-! ### Where the next sample goes (R78) -/

theorem find?_finRange_none {n : Nat} {p : Fin n → Bool} : (List.finRange n).find? p = none ↔ ∀ i, p i = false := by
  rw [List.find?_eq_none]
  exact ⟨fun h i => Bool.eq_false_iff.mpr (h i (List.mem_finRange i)), fun h i _ => Bool.eq_false_iff.mp (h i)⟩

theorem lowestFree_none {s : State} : s.lowestFree = none ↔ ∀ b : BlockNo, s.mem.blocks[b].state ≠ .free := by
  rw [State.lowestFree, find?_finRange_none]
  exact forall_congr' fun b => decide_eq_false_iff_not

/-- The block and the room that the last block of a take gives, or a FREE block. -/
theorem placeNext_last {s : State} {i : SlotNo} {b : BlockNo} {n : Nat} (h : s.lastRoom i = some (b, n + 1)) :
    s.placeNext i = some (s, b, n + 1) := by
  unfold State.placeNext
  rw [h]

theorem placeNext_full {s : State} {i : SlotNo} (h : ∀ b n, s.lastRoom i ≠ some (b, n + 1)) :
    s.placeNext i = s.lowestFree.bind fun b =>
      s.mem.slots[i].header.map fun x => (allocate i b s, b, blockRoom x.laneCount) := by
  unfold State.placeNext
  split
  · next b n hb => exact absurd hb (h b n)
  · cases s.lowestFree with
    | none => rfl
    | some b => cases s.mem.slots[i].header <;> rfl

/-- R78: a take with a header finds a block while one is FREE. -/
theorem placeNext_room {s : State} {i : SlotNo} (hf : ∃ c : BlockNo, s.mem.blocks[c].state = .free)
    (hh : s.mem.slots[i].header.isSome = true) : s.placeNext i ≠ none := by
  by_cases hl : ∃ b n, s.lastRoom i = some (b, n + 1)
  · obtain ⟨b, n, hl⟩ := hl
    rw [placeNext_last hl]
    nofun
  · obtain ⟨c, hc⟩ := hf
    obtain ⟨x, hx⟩ := Option.isSome_iff_exists.mp hh
    cases hlow : s.lowestFree with
    | none => exact absurd hc (lowestFree_none.mp hlow c)
    | some b =>
      rw [placeNext_full fun b n h => hl ⟨b, n, h⟩, hlow, hx]
      nofun

/-- What finding a place leaves alone. -/
structure Placed (s u : State) : Prop where
  recorder : u.recorder = s.recorder
  buffers : u.mem.buffers = s.mem.buffers
  header : ∀ j : SlotNo, u.mem.slots[j].header = s.mem.slots[j].header

theorem placed_of {s u : State} {i : SlotNo} {b : BlockNo} {n : Nat} (h : s.placeNext i = some (u, b, n)) : Placed s u := by
  rcases placeNext_cases h with ⟨rfl, -⟩ | ⟨-, rfl, -⟩
  · exact ⟨rfl, rfl, fun _ => rfl⟩
  · refine ⟨rfl, rfl, fun j => ?_⟩
    rw [allocate, State.setSlot, State.setMem_mem, updAt_get]
    split <;> rfl

/-! ### What the array's choice leaves -/

theorem Schedules.settle {P Q : State → Prop} (k : Schedules P Q) (pump : ∀ s, Q s → Q (pump s)) {s : State} (h : P s) :
    Q (settle s) := by
  refine pump _ ?_
  unfold schedule
  split
  · exact k.nothing _ h
  · split
    · exact k.nothing _ h
    · exact k.scheduleRounds 3 h

theorem recordNoRoom_recEnd (i : SlotNo) (s : State) : RecEnd s (recordNoRoom i s) := by
  have first := recordEnds_recEnd .noRoom (s.setRecorder { s.recorder with queue := [], spanOpen := spanOf (s.takeSamples i) })
  have last := drainFinish_recEnd
    (recordEnds .noRoom (s.setRecorder { s.recorder with queue := [], spanOpen := spanOf (s.takeSamples i) }))
  unfold recordNoRoom
  dsimp only
  generalize recordEnds .noRoom (s.setRecorder { s.recorder with queue := [], spanOpen := spanOf (s.takeSamples i) }) = u
    at first last ⊢
  refine ⟨?_, last.fetches.trans first.fetches, last.op.trans first.op, last.buffers.trans first.buffers,
    last.upload.trans first.upload, fun j hj => ?_, fun j hj => first.uploading j (last.uploading j hj)⟩
  · rcases last.recSlot with h | h
    · rw [h]
      exact first.recSlot
    · exact .inr h
  · have other : u.recorder.slot ≠ some j := by
      rcases first.recSlot with h | h
      · rw [h]
        exact hj
      · rw [h]
        nofun
    rw [last.slot j other, first.slot j hj]
    rfl

theorem uploadNoRoom_buffer (i : SlotNo) (k : Fin 2) (s : State) (j : Fin 2) :
    (uploadNoRoom i k s).mem.buffers[j] = s.mem.buffers[j] ∨ (uploadNoRoom i k s).mem.buffers[j] = StageBuffer.reset := by
  have one : ∀ (t : State) (m : Fin 2),
      (chunkNoRoom m t).mem.buffers[j] = t.mem.buffers[j] ∨ (chunkNoRoom m t).mem.buffers[j] = StageBuffer.reset := by
    intro t m
    change (updAt t.mem.buffers m fun _ => StageBuffer.reset)[j] = _ ∨ (updAt t.mem.buffers m fun _ => StageBuffer.reset)[j] = _
    rw [updAt_get]
    split
    · exact .inr rfl
    · exact .inl rfl
  have ends : (uploadNoRoom i k s).mem.buffers = (if (chunkNoRoom k s).mem.buffers[otherBuffer k].isQueued = true then
      chunkNoRoom (otherBuffer k) (chunkNoRoom k s) else chunkNoRoom k s).mem.buffers := rfl
  rw [ends]
  split
  · rcases one (chunkNoRoom k s) (otherBuffer k) with h | h
    · rw [h]
      exact one s k
    · exact .inr h
  · exact one s k

theorem uploadNoRoom_apart (i : SlotNo) (k : Fin 2) (s : State) :
    (uploadNoRoom i k s).recorder = s.recorder ∧ (uploadNoRoom i k s).mem.slots = s.mem.slots := by
  have ends : ∀ t u : State, t.recorder = s.recorder ∧ t.mem.slots = s.mem.slots → u.recorder = s.recorder ∧ u.mem.slots = s.mem.slots →
      ∀ c : Prop, [Decidable c] → (if c then t else u).recorder = s.recorder ∧ (if c then t else u).mem.slots = s.mem.slots := by
    intro t u ht hu c _
    split
    · exact ht
    · exact hu
  exact ends (chunkNoRoom (otherBuffer k) (chunkNoRoom k s)) (chunkNoRoom k s) ⟨rfl, rfl⟩ ⟨rfl, rfl⟩ _

theorem startReserved_apart (s : State) : (startReserved s).mem.buffers = s.mem.buffers ∧
    ∀ i : SlotNo, (startReserved s).mem.slots[i].header = s.mem.slots[i].header := by
  unfold startReserved
  split
  · exact ⟨rfl, fun _ => rfl⟩
  · dsimp only
    split
    · refine ⟨rfl, fun i => ?_⟩
      rw [setOp, State.setMem_mem, State.setSlot, State.setMem_mem, updAt_get]
      split <;> rfl
    · exact ⟨rfl, fun _ => rfl⟩
    · exact ⟨rfl, fun _ => rfl⟩

theorem startErase_apart (s : State) : (startErase s).mem.buffers = s.mem.buffers ∧ (startErase s).mem.slots = s.mem.slots := by
  unfold startErase
  split
  · exact ⟨rfl, rfl⟩
  · split <;> exact ⟨rfl, rfl⟩

/-- R81: a chunk is programmed from a buffer that is PROGRAMMING or QUEUED. -/
theorem chunkBuffer_busy {s : State} {k : Fin 2} (h : s.chunkBuffer = some k) :
    s.mem.buffers[k].state = .programming ∨ s.mem.buffers[k].isQueued = true := by
  unfold State.chunkBuffer at h
  split at h
  · next hb => obtain rfl := Option.some.inj h; exact .inl hb
  split at h
  · next hb => obtain rfl := Option.some.inj h; exact .inl hb
  split at h
  · next hb =>
    obtain rfl := Option.some.inj h
    rw [Bool.and_eq_true] at hb
    exact .inr hb.1
  split at h
  · next hb => obtain rfl := Option.some.inj h; exact .inr hb
  · cases h

theorem chunkBuffer_ne_reset {s : State} {j k : Fin 2} (h : s.chunkBuffer = some k) (hj : s.mem.buffers[j] = StageBuffer.reset) :
    k ≠ j := by
  rintro rfl
  rcases chunkBuffer_busy h with hb | hb <;> rw [hj] at hb <;> cases hb

section Kept

/-- A buffer that is EMPTY stays so (R81, R95). -/
theorem schedules_reset (k : Fin 2) :
    Schedules (fun s => s.mem.buffers[k] = StageBuffer.reset) (fun s => s.mem.buffers[k] = StageBuffer.reset) where
  nothing _ h := h
  read _ _ _ _ _ h := h
  sample i s t _ _ hu h := by
    obtain ⟨⟨v, b, n⟩, hp, rfl⟩ := Option.map_eq_some_iff.mp hu
    change v.mem.buffers[k] = _
    rw [(placed_of hp).buffers]
    exact h
  recordNoRoom i s _ _ _ h := by rw [(recordNoRoom_recEnd i s).buffers]; exact h
  reserved s h := by rw [(startReserved_apart s).1]; exact h
  chunk i j s t hb _ hu h := by
    obtain ⟨⟨v, b, n⟩, hp, rfl⟩ := Option.map_eq_some_iff.mp hu
    change (updAt v.mem.buffers j fun b => { b with state := .programming })[k] = _
    rw [updAt_other (chunkBuffer_ne_reset hb h), (placed_of hp).buffers]
    exact h
  uploadNoRoom i j s _ _ _ h := (uploadNoRoom_buffer i j s k).elim (fun e => e.trans h) id
  erase s _ _ h := by rw [(startErase_apart s).1]; exact h

/-- The samples in a buffer stay, or the buffer is emptied (R95). -/
theorem schedules_samples (k : Fin 2) (xs : List StagedSample) :
    Schedules (fun s => s.mem.buffers[k].samples = xs ∨ s.mem.buffers[k] = StageBuffer.reset)
      (fun s => s.mem.buffers[k].samples = xs ∨ s.mem.buffers[k] = StageBuffer.reset) where
  nothing _ h := h
  read _ _ _ _ _ h := h
  sample i s t hi hq hu h := by
    obtain ⟨⟨v, b, n⟩, hp, rfl⟩ := Option.map_eq_some_iff.mp hu
    change v.mem.buffers[k].samples = _ ∨ v.mem.buffers[k] = _
    rw [(placed_of hp).buffers]
    exact h
  recordNoRoom i s _ _ _ h := by rw [(recordNoRoom_recEnd i s).buffers]; exact h
  reserved s h := by rw [(startReserved_apart s).1]; exact h
  chunk i j s t hb _ hu h := by
    obtain ⟨⟨v, b, n⟩, hp, rfl⟩ := Option.map_eq_some_iff.mp hu
    change (updAt v.mem.buffers j fun b => { b with state := .programming })[k].samples = _ ∨
      (updAt v.mem.buffers j fun b => { b with state := .programming })[k] = _
    rcases h with h | h
    · refine .inl ?_
      rw [updAt_get, (placed_of hp).buffers]
      split <;> exact h
    · refine .inr ?_
      rw [updAt_other (chunkBuffer_ne_reset hb h), (placed_of hp).buffers]
      exact h
  uploadNoRoom i j s _ _ _ h := by
    rcases uploadNoRoom_buffer i j s k with e | e
    · rw [e]
      exact h
    · exact .inr e
  erase s _ _ h := by rw [(startErase_apart s).1]; exact h

/-- The header of a slot other than the Recorder's stays. -/
theorem schedules_header (i : SlotNo) (x : Option Header) :
    Schedules (fun s => s.recorder.slot ≠ some i ∧ s.mem.slots[i].header = x) (fun s => s.mem.slots[i].header = x) where
  nothing _ h := h.2
  read _ _ _ _ _ h := h.2
  sample j s t _ _ hu h := by
    obtain ⟨⟨v, b, n⟩, hp, rfl⟩ := Option.map_eq_some_iff.mp hu
    exact ((placed_of hp).header i).trans h.2
  recordNoRoom j s hj _ _ h := by
    have ended := recordNoRoom_recEnd j s
    refine ⟨?_, by rw [ended.slot i h.1]; exact h.2⟩
    rcases ended.recSlot with e | e
    · rw [e]
      exact h.1
    · rw [e]
      nofun
  reserved s h := ((startReserved_apart s).2 i).trans h.2
  chunk j k s t _ _ hu h := by
    obtain ⟨⟨v, b, n⟩, hp, rfl⟩ := Option.map_eq_some_iff.mp hu
    exact ((placed_of hp).header i).trans h.2
  uploadNoRoom j k s _ _ _ h := by
    obtain ⟨hr, hs⟩ := uploadNoRoom_apart j k s
    rw [hr, hs]
    exact h
  erase s _ _ h := by rw [(startErase_apart s).2]; exact h.2

/-- While a block is FREE for the upload and for the recording, neither ends NO_ROOM (R86, R95). -/
structure Roomy (i : SlotNo) (s : State) : Prop where
  upload : s.uploadSlot = some i
  header : s.mem.slots[i].header.isSome = true
  recording : ∀ j, s.recorder.queue ≠ [] → s.recorder.slot = some j → s.mem.slots[j].header.isSome = true
  free : ∃ c : BlockNo, s.mem.blocks[c].state = .free

theorem schedules_roomy (i : SlotNo) (k : Fin 2) (xs : List StagedSample) :
    Schedules (fun s => Roomy i s ∧ s.mem.buffers[k].samples = xs) (fun s => s.mem.buffers[k].samples = xs) where
  nothing _ h := h.2
  read _ _ _ _ _ h := h.2
  sample j s t _ _ hu h := by
    obtain ⟨⟨v, b, n⟩, hp, rfl⟩ := Option.map_eq_some_iff.mp hu
    change v.mem.buffers[k].samples = _
    rw [(placed_of hp).buffers]
    exact h.2
  recordNoRoom j s hj hq hu h :=
    absurd (Option.map_eq_none_iff.mp hu) (placeNext_room h.1.free (h.1.recording j hq hj))
  reserved s h := by rw [(startReserved_apart s).1]; exact h.2
  chunk j m s t _ _ hu h := by
    obtain ⟨⟨v, b, n⟩, hp, rfl⟩ := Option.map_eq_some_iff.mp hu
    change (updAt v.mem.buffers m fun b => { b with state := .programming })[k].samples = _
    rw [updAt_get, (placed_of hp).buffers]
    split <;> exact h.2
  uploadNoRoom j m s _ hj hu h := by
    obtain rfl : i = j := Option.some.inj (h.1.upload.symm.trans hj)
    exact absurd (Option.map_eq_none_iff.mp hu) (placeNext_room h.1.free h.1.header)
  erase s _ _ h := by rw [(startErase_apart s).1]; exact h.2

end Kept

/-! ### The completions -/

/-- What a programmed part leaves, whether it is the chunk's last one or not (R95). -/
structure PartWritten (i : SlotNo) (b : BlockNo) (part : List StagedSample) (s u : State) : Prop where
  recorder : u.recorder = s.recorder
  slots : u.mem.slots = updAt s.mem.slots i fun y =>
    { y with header := y.header.map fun h => { h with length := h.length + part.length } }
  blocks : u.mem.blocks = updAt s.mem.blocks b fun y =>
    { y with data := y.data ++ part.map fun x => storeSample x.offset (marksOf x.marks) x.pos }

theorem chunkProgrammed_written (i : SlotNo) (b : BlockNo) (k : Fin 2) (n : Nat) (s : State) :
    PartWritten i b (s.mem.buffers[k].samples.take n) s (chunkProgrammed i b k n s) := by
  unfold chunkProgrammed
  dsimp only
  split <;> exact ⟨rfl, rfl, rfl⟩

theorem chunkProgrammed_last {k : Fin 2} {n : Nat} {s : State} (h : s.mem.buffers[k].samples.length ≤ n) (i : SlotNo)
    (b : BlockNo) : (chunkProgrammed i b k n s).mem.buffers[k] = StageBuffer.reset := by
  have empty : (s.mem.buffers[k].samples.drop n).isEmpty = true := by rw [List.drop_eq_nil_of_le h]; rfl
  unfold chunkProgrammed
  dsimp only
  rw [if_pos empty]
  exact updAt_same _ _ _

theorem chunkProgrammed_more {k : Fin 2} {n : Nat} {s : State} (h : n < s.mem.buffers[k].samples.length) (i : SlotNo)
    (b : BlockNo) : (chunkProgrammed i b k n s).mem.buffers[k].samples = s.mem.buffers[k].samples.drop n := by
  have more : ¬ (s.mem.buffers[k].samples.drop n).isEmpty = true := by
    rw [List.isEmpty_iff, List.drop_eq_nil_iff]
    omega
  unfold chunkProgrammed
  dsimp only
  rw [if_neg more]
  exact congrArg StageBuffer.samples (updAt_same _ _ _)

section Written

variable {i : SlotNo} {b : BlockNo} {part : List StagedSample} {s u : State} (h : PartWritten i b part s u)

include h

theorem PartWritten.state (c : BlockNo) : u.mem.blocks[c].state = s.mem.blocks[c].state := by
  rw [h.blocks, updAt_get]
  split <;> rfl

theorem PartWritten.slot (j : SlotNo) : u.mem.slots[j].state = s.mem.slots[j].state ∧
    u.mem.slots[j].header.isSome = s.mem.slots[j].header.isSome := by
  rw [h.slots, updAt_get]
  split
  · exact ⟨rfl, Option.isSome_map⟩
  · exact ⟨rfl, rfl⟩

theorem PartWritten.roomy (hr : Roomy i s) : Roomy i u := by
  refine ⟨?_, by rw [(h.slot i).2]; exact hr.header, fun j hq hj => ?_, ?_⟩
  · exact uploadSlot_congr hr.upload (by rw [(h.slot i).1]; exact uploadSlot_some hr.upload) fun j hj => by rwa [(h.slot j).1] at hj
  · rw [h.recorder] at hq hj
    rw [(h.slot j).2]
    exact hr.recording j hq hj
  · obtain ⟨c, hc⟩ := hr.free
    exact ⟨c, by rw [h.state]; exact hc⟩

/-- The samples of the part are in the block once the command has ended. -/
theorem PartWritten.data (hb : s.mem.blocks[b].state ≠ .free) : (settle u).mem.blocks[b].data =
    s.mem.blocks[b].data ++ part.map fun x => storeSample x.offset (marksOf x.marks) x.pos := by
  rw [((endWork_settle u).data b (by rw [h.state]; exact hb)).2, h.blocks, updAt_same]

end Written

theorem drainFinish_stays {s : State} (h : s.recorder.state ≠ .draining ∨ s.recorder.queue ≠ []) : drainFinish s = s := by
  refine if_neg ?_
  rw [Bool.and_eq_true, decide_eq_true_eq, List.isEmpty_iff]
  rintro ⟨h1, h2⟩
  exact h.elim (fun h => h h1) fun h => h h2

/-- R110: a recording that has drained, with samples programmed, finishes its take. -/
theorem drainFinish_finishes {s : State} {i : SlotNo} {x : Header} (hs : s.recorder.state = .draining)
    (hq : s.recorder.queue = []) (hi : s.recorder.slot = some i) (hx : s.mem.slots[i].header = some x) (hl : x.length ≠ 0) :
    (drainFinish s).recorder = Recorder.reset ∧ (drainFinish s).mem.slots[i] =
      s.mem.slots[i].completed fun h => { h with
        interrupted := s.recorder.outcome.getD .done ≠ .done, impliedResume := s.recorder.spanOpen } := by
  have drained : (decide (s.recorder.state = .draining) && s.recorder.queue.isEmpty) = true := by rw [hs, hq]; rfl
  have length : s.mem.slots[i].length ≠ 0 := by rw [Slot.length, hx]; exact hl
  unfold drainFinish
  rw [if_pos drained, hi]
  dsimp only
  rw [if_neg length]
  exact ⟨rfl, (completeSlot_slot i i _ s).trans (if_pos rfl)⟩

section Sample

variable {i : SlotNo} {b : BlockNo} {s : State} (ho : s.mem.op = some (.programSample i b))

include ho

theorem sampleProgrammed_done {x : Sample} {rest : List Sample} (hq : s.recorder.queue = x :: rest) :
    sampleProgrammed true s = drainFinish ((storeBlock b ((((s.setMem { s.mem with op := none }).setBlock b fun y =>
      { y with data := y.data ++ [storeSample x.offset x.marks x.pos] })).setSlot i fun y =>
        { y with header := y.header.map fun h => { h with length := h.length + 1 } })).setRecorder
      { s.recorder with queue := rest }) := by
  unfold sampleProgrammed
  rw [ho]
  dsimp only
  rw [if_pos rfl, hq]
  rfl

theorem sampleProgrammed_failed : sampleProgrammed false s = storeBlock b
    ((s.setMem { s.mem with op := none, programFail := true }).setBlock b fun y => { y with state := y.state.retire }) := by
  unfold sampleProgrammed
  rw [ho]
  dsimp only
  rw [if_neg Bool.false_ne_true]
  rfl

end Sample

theorem partDone_eq {i : SlotNo} {b : BlockNo} {k : Fin 2} {n : Nat} {live : Bool} {s : State}
    (ho : s.mem.op = some (.chunkPart i b k n live)) : ∀ ok, partDone ok s =
      if live then if ok then chunkProgrammed i b k n (freeArray s) else chunkFailed b k n (freeArray s)
      else if ok then storeBlock b (freeArray s) else orphanFailed b (freeArray s) := by
  intro ok
  unfold partDone
  rw [ho]
  cases live <;> cases ok <;> rfl

/-- Settles O46: each completion by the operation in progress, and what the array's next choice leaves of it. -/
theorem programCompletes : Obligations.ProgramCompletes := by
  unfold Obligations.ProgramCompletes
  intro i b s
  refine ⟨fun x rest ho hq => ⟨fun hd => ?_, fun h hd hr hi hh => ?_⟩, fun ho => ?_, fun k n ho => ⟨?_, fun hi hl hn => ?_,
    fun hl hp hn => ?_⟩, fun k n ho => ⟨?_, ?_⟩⟩
  · have stays := drainFinish_stays (s := (storeBlock b ((((s.setMem { s.mem with op := none }).setBlock b fun y =>
      { y with data := y.data ++ [storeSample x.offset x.marks x.pos] })).setSlot i fun y =>
        { y with header := y.header.map fun h => { h with length := h.length + 1 } })).setRecorder
      { s.recorder with queue := rest }) hd
    exact congrArg (fun t => Host.Outcome.next (settle t)) ((sampleProgrammed_done ho hq).trans stays)
  · subst hr
    have done := sampleProgrammed_done ho hq
    generalize hu : (storeBlock b ((((s.setMem { s.mem with op := none }).setBlock b fun y =>
      { y with data := y.data ++ [storeSample x.offset x.marks x.pos] })).setSlot i fun y =>
        { y with header := y.header.map fun h => { h with length := h.length + 1 } })).setRecorder
      { s.recorder with queue := [] } = u at done
    have recorder : u.recorder = { s.recorder with queue := [] } := by rw [← hu]; rfl
    have header : u.mem.slots[i].header = some { h with length := h.length + 1 } := by
      have slots : u.mem.slots = updAt s.mem.slots i fun y =>
          { y with header := y.header.map fun h => { h with length := h.length + 1 } } := by rw [← hu]; rfl
      rw [slots, updAt_same, hh]
      rfl
    obtain ⟨hrec, hslot⟩ := drainFinish_finishes (s := u) (i := i) (by rw [recorder]; exact hd) (by rw [recorder])
      (by rw [recorder]; exact hi) header (Nat.succ_ne_zero _)
    have settled := endWork_settle (drainFinish u)
    have slot := settled.slot i (by rw [hrec]; nofun) (by rw [hslot]; nofun)
    refine ⟨_, congrArg (fun t => Host.Outcome.next (settle t)) done, ?_, ?_, ?_, ?_, ?_, ?_⟩
    · rw [settled.recorder (by rw [hrec]; rfl), hrec]
    · rw [slot, hslot]
      rfl
    · rw [slot, hslot]
      rfl
    · rw [slot, hslot]
      rfl
    · rw [slot, hslot]
      rfl
    · rw [slot, hslot, Slot.completed, header, recorder]
      rfl
  · exact congrArg (fun t => Host.Outcome.next (settle t)) (sampleProgrammed_failed ho)
  · exact congrArg (fun t => Host.Outcome.next (settle t)) (partDone_eq ho false)
  · have written := chunkProgrammed_written i b k n (freeArray s)
    have last := chunkProgrammed_last (s := freeArray s) hl i b
    have run : exec (.chunkPartDone true) s = .next (settle (chunkProgrammed i b k n (freeArray s))) :=
      congrArg (fun t => Host.Outcome.next (settle t)) (partDone_eq ho true)
    generalize chunkProgrammed i b k n (freeArray s) = u at written last run
    have all : (freeArray s).mem.buffers[k].samples.take n = s.mem.buffers[k].samples := List.take_of_length_le hl
    rw [all] at written
    have header := (schedules_header i u.mem.slots[i].header).settle (s := u) (fun t h => h)
      ⟨by rw [written.recorder]; exact hi, rfl⟩
    refine ⟨_, run, (schedules_reset k).settle (fun t h => h) last, ?_, fun hb => written.data hb⟩
    have grown : (settle u).mem.slots[i].header =
        s.mem.slots[i].header.map fun h => { h with length := h.length + s.mem.buffers[k].samples.length } := by
      rw [header, written.slots, updAt_same]
      rfl
    rw [Slot.length, Slot.length, grown]
    cases s.mem.slots[i].header with
    | none => rfl
    | some h => rfl
  · have written := chunkProgrammed_written i b k n (freeArray s)
    have more := chunkProgrammed_more (s := freeArray s) hl i b
    have run : exec (.chunkPartDone true) s = .next (settle (chunkProgrammed i b k n (freeArray s))) :=
      congrArg (fun t => Host.Outcome.next (settle t)) (partDone_eq ho true)
    generalize chunkProgrammed i b k n (freeArray s) = u at written more run
    refine ⟨_, run, fun hb => written.data hb, fun hu hh hr hf => ?_, ?_⟩
    · exact (schedules_roomy i k _).settle (fun t h => h) ⟨written.roomy ⟨hu, hh, hr, hf⟩, more⟩
    · exact (schedules_samples k _).settle (fun t h => h) (.inl more)
  · exact congrArg (fun t => Host.Outcome.next (settle t)) (partDone_eq ho true)
  · exact congrArg (fun t => Host.Outcome.next (settle t)) (partDone_eq ho false)

end Sys2Proof.Machine
end

section
/-! PROOFS. The scheduler's order (O48, R81): what a round starts at each position, and the ends NO_ROOM. -/

namespace Sys2Proof.Machine

open Sys2Proof

/-! ### A round by the first position that waits -/

/-- Positions 2 and 4: the recording's sample is the first work that waits. -/
def State.sampleFirst (s : State) : Prop :=
  (s.playWantsRead = true ∧ 4 ≤ s.play.buffer.length ∧ 4 ≤ s.recorder.queue.length) ∨
    (s.playWantsRead = false ∧ 1 ≤ s.recorder.queue.length)

section Round

variable {s : State} (n : Nat)

theorem round_read (hr : s.playWantsRead = true) (hb : s.play.buffer.length < 4 ∨ s.recorder.queue.length < 4) :
    scheduleRounds (n + 1) s = startPlayRead s := by
  rw [scheduleRounds]
  dsimp only
  by_cases h4 : s.play.buffer.length < 4
  · rw [if_pos (by rw [hr, decide_eq_true h4]; rfl)]
  · rw [if_neg (by rw [hr, decide_eq_false h4]; exact Bool.false_ne_true), if_neg (by omega), if_pos hr]

theorem round_program (hs : s.sampleFirst) {i : SlotNo} (hi : s.recorder.slot = some i) {u : State}
    (hu : startSampleProgram i s = some u) : scheduleRounds (n + 1) s = u := by
  rw [scheduleRounds, hi]
  dsimp only
  rw [hu]
  rcases hs with ⟨hr, hb, hq⟩ | ⟨hr, hq⟩
  · rw [if_neg (by rw [hr, decide_eq_false (by omega)]; exact Bool.false_ne_true), if_pos hq]
  · rw [hr, if_neg nofun, if_neg Bool.false_ne_true, if_pos hq, ite_self]

theorem round_noRoom (hs : s.sampleFirst) {i : SlotNo} (hi : s.recorder.slot = some i)
    (hu : startSampleProgram i s = none) : scheduleRounds (n + 1) s = scheduleRounds n (recordNoRoom i s) := by
  rw [scheduleRounds, hi]
  dsimp only
  rw [hu]
  rcases hs with ⟨hr, hb, hq⟩ | ⟨hr, hq⟩
  · rw [if_neg (by rw [hr, decide_eq_false (by omega)]; exact Bool.false_ne_true), if_pos hq]
  · rw [hr, if_neg nofun, if_neg Bool.false_ne_true, if_pos hq, ite_self]

variable (hr : s.playWantsRead = false) (hq : s.recorder.queue.length = 0)

include hr hq

theorem round_reserved {r : Reserved} {rest : List Reserved} (hw : s.mem.reservedQueue = r :: rest) :
    scheduleRounds (n + 1) s = startReserved s := by
  rw [scheduleRounds, hr, hq, if_neg nofun, if_neg nofun, if_neg nofun, if_neg nofun, if_pos (by rw [hw]; rfl)]

variable (hw : s.mem.reservedQueue = [])

include hw

theorem round_chunk {i : SlotNo} {k : Fin 2} (hi : s.uploadSlot = some i) (hk : s.chunkBuffer = some k) {u : State}
    (hu : startChunkPart i k s = some u) : scheduleRounds (n + 1) s = u := by
  rw [scheduleRounds, hr, hq, if_neg nofun, if_neg nofun, if_neg nofun, if_neg nofun,
    if_neg (by rw [hw]; exact Bool.false_ne_true), hi, hk]
  dsimp only
  rw [hu]

theorem round_chunkNoRoom {i : SlotNo} {k : Fin 2} (hi : s.uploadSlot = some i) (hk : s.chunkBuffer = some k)
    (hu : startChunkPart i k s = none) : scheduleRounds (n + 1) s = scheduleRounds n (uploadNoRoom i k s) := by
  rw [scheduleRounds, hr, hq, if_neg nofun, if_neg nofun, if_neg nofun, if_neg nofun,
    if_neg (by rw [hw]; exact Bool.false_ne_true), hi, hk]
  dsimp only
  rw [hu]

variable (hc : s.uploadSlot = none ∨ s.chunkBuffer = none)

include hc

theorem round_fetch {f : Fetch} (hf : s.nextFetch = some f) :
    scheduleRounds (n + 1) s = setOp (.read f.slot f.next (.fetch f.port)) s := by
  rw [scheduleRounds, hr, hq, if_neg nofun, if_neg nofun, if_neg nofun, if_neg nofun,
    if_neg (by rw [hw]; exact Bool.false_ne_true), hf]
  rcases hc with h | h
  · rw [h]
    cases s.chunkBuffer <;> rfl
  · rw [h]

theorem round_last (hf : s.nextFetch = none) :
    scheduleRounds (n + 1) s = if s.recActive || s.playActive then s else startErase s := by
  rw [scheduleRounds, hr, hq, if_neg nofun, if_neg nofun, if_neg nofun, if_neg nofun,
    if_neg (by rw [hw]; exact Bool.false_ne_true), hf]
  rcases hc with h | h
  · rw [h]
    cases s.chunkBuffer <;> rfl
  · rw [h]

end Round

theorem schedule_free {s : State} (hs : s.starting = false) (ho : s.mem.op = none) : schedule s = scheduleRounds 3 s := by
  unfold schedule
  rw [if_neg (by rw [hs]; exact Bool.false_ne_true), if_neg (by rw [ho]; exact Bool.false_ne_true)]

/-! ### The place of a PROGRAM (R78) -/

theorem find?_finRange_first {n : Nat} {p : Fin n → Bool} {c : Fin n} (hc : p c = true) (hd : ∀ d, d < c → p d = false) :
    (List.finRange n).find? p = some c := by
  rw [List.find?_eq_some_iff_getElem]
  refine ⟨hc, c.val, by simp, by simp, fun j hj => ?_⟩
  rw [List.getElem_finRange, hd _ hj]
  rfl

theorem lowestFree_first {s : State} {c : BlockNo} (hc : s.mem.blocks[c].state = .free)
    (hd : ∀ d : BlockNo, d < c → s.mem.blocks[d].state ≠ .free) : s.lowestFree = some c :=
  find?_finRange_first (decide_eq_true hc) fun d h => decide_eq_false (hd d h)

theorem placeNext_first {s : State} {i : SlotNo} (hl : ∀ b n, s.lastRoom i ≠ some (b, n + 1)) {h : Header} {c : BlockNo}
    (hh : s.mem.slots[i].header = some h) (hc : s.mem.blocks[c].state = .free)
    (hd : ∀ d : BlockNo, d < c → s.mem.blocks[d].state ≠ .free) :
    s.placeNext i = some (allocate i c s, c, blockRoom h.laneCount) := by
  rw [placeNext_full hl, lowestFree_first hc hd, hh]
  rfl

theorem placeNext_noRoom {s : State} {i : SlotNo} (hl : ∀ b n, s.lastRoom i ≠ some (b, n + 1))
    (hf : ∀ c : BlockNo, s.mem.blocks[c].state ≠ .free) : s.placeNext i = none := by
  rw [placeNext_full hl, lowestFree_none.mpr hf]
  rfl

theorem allocate_block (i : SlotNo) (b : BlockNo) (s : State) :
    (allocate i b s).mem.blocks[b] = { state := .used i s.mem.slots[i].blocks.length false, data := [] } := by
  rw [allocate, State.setSlot, State.setMem_mem, State.setBlock, State.setMem_mem, updAt_same]

theorem allocate_slot (i : SlotNo) (b : BlockNo) (s : State) :
    (allocate i b s).mem.slots[i] = { s.mem.slots[i] with blocks := s.mem.slots[i].blocks ++ [b] } := by
  rw [allocate, State.setSlot, State.setMem_mem, State.setBlock, State.setMem_mem, updAt_same]

/-! ### A recording that ends NO_ROOM (R111) -/

/-- The event reaches the MOTION station, or EVENTS_LOST says that it did not. -/
def State.tells (s t : State) (body : EventBody) : Prop :=
  ∀ p : Port, s.ports[p].link = .active → s.ports[p].role = some .motion →
    (∃ e ∈ t.ports[p].events, e.body = body) ∨ t.ports[p].eventsLost = true

theorem tells_raiseMotion (body : EventBody) {s t : State} (h : t.ports = s.ports) : s.tells (raiseMotion body t) body := by
  intro p hl hr
  have motion : (t.isActive p && t.isMotion p) = true := by
    simp [State.isActive, State.isMotion, h, hl, hr, -Fin.getElem_fin]
  unfold raiseMotion
  rw [raiseFor_port, if_pos motion, pushEvent]
  split
  · exact .inl ⟨_, List.mem_append_right _ (List.mem_singleton.mpr rfl), rfl⟩
  · exact .inr rfl

/-- What is told stays told at the end of the command. -/
theorem State.tells.endWork {s t u : State} {body : EventBody} (h : s.tells t body) (w : EndWork t u) : s.tells u body := by
  intro p hl hr
  rcases h p hl hr with ⟨e, he, hb⟩ | hlost
  · exact .inl ⟨e, (w.port p).events.subset he, hb⟩
  · exact .inr ((w.port p).lost hlost)

/-- The slot of a recording that has ended with the samples programmed. -/
structure RecordedNoRoom (i : SlotNo) (s t : State) : Prop where
  recorder : t.recorder = Recorder.reset
  none : s.mem.slots[i].length = 0 → t.mem.slots[i] = s.mem.slots[i].emptied
  some : s.mem.slots[i].length ≠ 0 → t.mem.slots[i] = s.mem.slots[i].completed fun h =>
    { h with interrupted := true, impliedResume := spanOf (s.takeSamples i) }
  told : ∃ dropped first last, s.tells t (.recordEnd (.some i) .noRoom s.mem.slots[i].length
    (decide (s.mem.slots[i].length ≠ 0)) (decide (s.mem.slots[i].length ≠ 0) && spanOf (s.takeSamples i)) dropped first last)

/-- A recording that drains with its queue dropped. -/
theorem drainFinish_noRoom {i : SlotNo} {s : State} {r : Recorder} (hs : r.state = .draining) (hq : r.queue = [])
    (hi : r.slot = some i) (ho : r.outcome = some .noRoom) (hp : r.spanOpen = spanOf (s.takeSamples i)) :
    RecordedNoRoom i s (drainFinish (s.setRecorder r)) := by
  have drained : (decide (r.state = .draining) && r.queue.isEmpty) = true := by rw [hs, hq]; rfl
  unfold drainFinish
  rw [State.setRecorder_recorder, if_pos drained, hi]
  dsimp only
  rw [ho, hp]
  by_cases hl : s.mem.slots[i].length = 0
  · have hl' : (s.setRecorder r).mem.slots[i].length = 0 := hl
    rw [if_pos hl']
    obtain ⟨v, -, he⟩ := emptySlot_eq i (s.setRecorder r)
    refine ⟨rfl, fun _ => ?_, fun h => absurd hl h, ?_⟩
    · exact (emptySlot_slot i i (s.setRecorder r)).trans (if_pos rfl)
    · rw [he, hl, recIdle, State.setMem_recorder, State.setRecorder_recorder, hi]
      exact ⟨_, _, _, tells_raiseMotion _ rfl⟩
  · have hl' : ¬ (s.setRecorder r).mem.slots[i].length = 0 := hl
    rw [if_neg hl']
    refine ⟨rfl, fun h => absurd h hl, fun _ => ?_, ?_⟩
    · exact (completeSlot_slot i i _ (s.setRecorder r)).trans (if_pos rfl)
    · rw [completeSlot_eq, recIdle, State.setMem_recorder, State.setRecorder_recorder, hi, decide_eq_true hl, Bool.true_and]
      exact ⟨_, _, _, tells_raiseMotion _ rfl⟩

theorem recordNoRoom_recorded {i : SlotNo} {s : State} (hi : s.recorder.slot = some i)
    (hs : s.recorder.state = .recording ∨ s.recorder.state = .draining) : RecordedNoRoom i s (recordNoRoom i s) := by
  unfold recordNoRoom
  dsimp only
  rcases hs with h | h
  · have ended := drainFinish_noRoom (s := s) (i := i)
      (r := { dropMarks { s.recorder with queue := [], spanOpen := spanOf (s.takeSamples i) } with
        state := .draining, outcome := some .noRoom, endPending := false }) rfl rfl hi rfl rfl
    have first : recordEnds .noRoom (s.setRecorder { s.recorder with queue := [], spanOpen := spanOf (s.takeSamples i) }) =
        drainFinish (s.setRecorder { dropMarks { s.recorder with queue := [], spanOpen := spanOf (s.takeSamples i) } with
          state := .draining, outcome := some .noRoom, endPending := false }) := by
      unfold recordEnds
      rw [State.setRecorder_recorder, h]
      rfl
    rw [first, drainFinish_stays (.inl (by rw [ended.recorder]; exact nofun))]
    exact ended
  · have first : recordEnds .noRoom (s.setRecorder { s.recorder with queue := [], spanOpen := spanOf (s.takeSamples i) }) =
        s.setRecorder { s.recorder with queue := [], spanOpen := spanOf (s.takeSamples i), outcome := some .noRoom } := by
      unfold recordEnds
      rw [State.setRecorder_recorder, h]
      rfl
    rw [first]
    exact drainFinish_noRoom h rfl hi rfl rfl

/-! ### Chunks that end NO_ROOM (R95) -/

/-- The buffers of an upload that has ended NO_ROOM. -/
structure ChunksNoRoom (i : SlotNo) (k : Fin 2) (s t : State) : Prop where
  slots : t.mem.slots = s.mem.slots
  upload : t.mem.upload = { nextOffset := s.mem.slots[i].length, spanOpen := spanOf (s.takeSamples i) }
  buffer : t.mem.buffers[k] = StageBuffer.reset
  told : s.tells t (.chunkDone true s.mem.buffers[k].first s.mem.buffers[k].last)
  queued : ∀ j : Fin 2, j ≠ k → s.mem.buffers[j].isQueued = true → t.mem.buffers[j] = StageBuffer.reset ∧
    s.tells t (.chunkDone true s.mem.buffers[j].first s.mem.buffers[j].last)
  other : ∀ j : Fin 2, j ≠ k → s.mem.buffers[j].isQueued = false → t.mem.buffers[j] = s.mem.buffers[j]
  waits : t.mem.reservedQueue = s.mem.reservedQueue
  recorder : t.recorder = s.recorder
  play : t.play = s.play

theorem otherBuffer_ne (k : Fin 2) : otherBuffer k ≠ k := by revert k; decide

theorem eq_otherBuffer {j k : Fin 2} (h : j ≠ k) : j = otherBuffer k := by revert j k; decide

theorem chunkNoRoom_buffer (k j : Fin 2) (s : State) :
    (chunkNoRoom k s).mem.buffers[j] = if k = j then StageBuffer.reset else s.mem.buffers[j] := updAt_get _ _ _ _

theorem chunkNoRoom_tells (k : Fin 2) (s : State) :
    s.tells (chunkNoRoom k s) (.chunkDone true s.mem.buffers[k].first s.mem.buffers[k].last) := tells_raiseMotion _ rfl

theorem chunkNoRoom_port (k : Fin 2) (s : State) (p : Port) : (chunkNoRoom k s).ports[p].link = s.ports[p].link ∧
    (chunkNoRoom k s).ports[p].role = s.ports[p].role ∧ s.ports[p].events <+: (chunkNoRoom k s).ports[p].events ∧
    (s.ports[p].eventsLost = true → (chunkNoRoom k s).ports[p].eventsLost = true) := by
  have port : (chunkNoRoom k s).ports[p] = s.ports[p] ∨ ∃ e, (chunkNoRoom k s).ports[p] = pushEvent e s.ports[p] := by
    unfold chunkNoRoom raiseMotion
    dsimp only
    rw [raiseFor_port]
    split
    · exact .inr ⟨_, rfl⟩
    · exact .inl rfl
  rcases port with h | ⟨e, h⟩
  · rw [h]
    exact ⟨rfl, rfl, List.prefix_refl _, id⟩
  · rw [h, pushEvent]
    split
    · exact ⟨rfl, rfl, List.prefix_append _ _, id⟩
    · exact ⟨rfl, rfl, List.prefix_refl _, fun _ => rfl⟩

theorem uploadNoRoom_chunks (i : SlotNo) (k : Fin 2) (s : State) : ChunksNoRoom i k s (uploadNoRoom i k s) := by
  have other : (chunkNoRoom k s).mem.buffers[otherBuffer k] = s.mem.buffers[otherBuffer k] := by
    rw [chunkNoRoom_buffer, if_neg (otherBuffer_ne k).symm]
  have first := chunkNoRoom_tells k s
  by_cases hq : s.mem.buffers[otherBuffer k].isQueued = true
  · have run : uploadNoRoom i k s = (chunkNoRoom (otherBuffer k) (chunkNoRoom k s)).setMem
        { (chunkNoRoom (otherBuffer k) (chunkNoRoom k s)).mem with upload :=
          { nextOffset := s.mem.slots[i].length, spanOpen := spanOf (s.takeSamples i) } } := by
      unfold uploadNoRoom
      dsimp only
      rw [if_pos (by rw [other]; exact hq)]
      rfl
    have told : s.tells (chunkNoRoom (otherBuffer k) (chunkNoRoom k s))
        (.chunkDone true s.mem.buffers[k].first s.mem.buffers[k].last) := by
      intro p hl hr
      obtain ⟨-, -, hev, hlost⟩ := chunkNoRoom_port (otherBuffer k) (chunkNoRoom k s) p
      rcases first p hl hr with ⟨e, he, hb⟩ | h
      · exact .inl ⟨e, hev.subset he, hb⟩
      · exact .inr (hlost h)
    have both : ∀ j : Fin 2, (uploadNoRoom i k s).mem.buffers[j] = StageBuffer.reset := by
      intro j
      rw [run, State.setMem_mem]
      change (chunkNoRoom (otherBuffer k) (chunkNoRoom k s)).mem.buffers[j] = _
      rw [chunkNoRoom_buffer]
      split
      · rfl
      · next h => rw [chunkNoRoom_buffer, if_pos (by by_contra hc; exact h (eq_otherBuffer (Ne.symm hc)).symm)]
    refine ⟨by rw [run]; rfl, by rw [run]; rfl, both k, by rw [run]; exact told, fun j hj _ => ⟨both j, ?_⟩,
      fun j hj hn => ?_, by rw [run]; rfl, by rw [run]; rfl, by rw [run]; rfl⟩
    · obtain rfl := eq_otherBuffer hj
      rw [run, ← other]
      intro p hl hr
      obtain ⟨hl', hr', -, -⟩ := chunkNoRoom_port k s p
      exact chunkNoRoom_tells (otherBuffer k) (chunkNoRoom k s) p (hl'.trans hl) (hr'.trans hr)
    · obtain rfl := eq_otherBuffer hj
      exact absurd hq (by rw [hn]; exact Bool.false_ne_true)
  · have run : uploadNoRoom i k s = (chunkNoRoom k s).setMem { (chunkNoRoom k s).mem with upload :=
          { nextOffset := s.mem.slots[i].length, spanOpen := spanOf (s.takeSamples i) } } := by
      unfold uploadNoRoom
      dsimp only
      rw [if_neg (by rw [other]; exact hq)]
      rfl
    refine ⟨by rw [run]; rfl, by rw [run]; rfl, ?_, by rw [run]; exact first, fun j hj h => ?_,
      fun j hj _ => ?_, by rw [run]; rfl, by rw [run]; rfl, by rw [run]; rfl⟩
    · rw [run]
      exact (chunkNoRoom_buffer k k s).trans (if_pos rfl)
    · obtain rfl := eq_otherBuffer hj
      exact absurd h hq
    · rw [run]
      exact (chunkNoRoom_buffer k j s).trans (if_neg hj.symm)

theorem isQueued_iff {b : StageBuffer} : b.isQueued = true ↔ ∃ n, b.state = .queued n := by
  unfold StageBuffer.isQueued
  split
  · next n h => exact ⟨fun _ => ⟨n, h⟩, fun _ => rfl⟩
  · next h => exact ⟨nofun, fun ⟨n, hn⟩ => absurd hn (h n)⟩

/-- With neither buffer PROGRAMMING or QUEUED no chunk waits. -/
theorem chunkBuffer_none {s : State} (h : ∀ j : Fin 2, s.mem.buffers[j].state ≠ .programming ∧ s.mem.buffers[j].isQueued = false) :
    s.chunkBuffer = none := by
  cases hk : s.chunkBuffer with
  | none => rfl
  | some k =>
    rcases chunkBuffer_busy hk with hb | hb
    · exact absurd hb (h k).1
    · rw [(h k).2] at hb
      cases hb

theorem chunkBuffer_congr {s t : State} (h : t.mem.buffers = s.mem.buffers) : t.chunkBuffer = s.chunkBuffer := by
  unfold State.chunkBuffer
  rw [h]

/-- Slots, buffers and upload, with no sample, no reserved-area write and no chunk waiting. -/
structure StagedQuiet (m : TakeMemory) (s : State) : Prop where
  slots : s.mem.slots = m.slots
  buffers : s.mem.buffers = m.buffers
  upload : s.mem.upload = m.upload
  queue : s.recorder.queue = []
  waits : s.mem.reservedQueue = []
  chunk : s.chunkBuffer = none

theorem schedules_quiet (m : TakeMemory) : Schedules (StagedQuiet m) (StagedQuiet m) where
  nothing _ h := h
  read _ _ _ _ _ h := ⟨h.slots, h.buffers, h.upload, h.queue, h.waits, (chunkBuffer_congr rfl).trans h.chunk⟩
  sample _ _ _ _ hq _ h := absurd h.queue hq
  recordNoRoom _ _ _ hq _ h := absurd h.queue hq
  reserved s h := by
    have idle : startReserved s = s := by
      unfold startReserved
      rw [h.waits]
    rw [idle]
    exact h
  chunk _ _ _ _ hk _ _ h := absurd (hk.symm.trans h.chunk) nofun
  uploadNoRoom _ _ _ hk _ _ h := absurd (hk.symm.trans h.chunk) nofun
  erase s _ _ h := by
    obtain ⟨hb, hs⟩ := startErase_apart s
    have rest : (startErase s).mem.upload = s.mem.upload ∧ (startErase s).recorder = s.recorder ∧
        (startErase s).mem.reservedQueue = s.mem.reservedQueue := by
      unfold startErase
      split
      · exact ⟨rfl, rfl, rfl⟩
      · split <;> exact ⟨rfl, rfl, rfl⟩
    exact ⟨hs.trans h.slots, hb.trans h.buffers, rest.1.trans h.upload, by rw [rest.2.1]; exact h.queue,
      rest.2.2.trans h.waits, (chunkBuffer_congr hb).trans h.chunk⟩

end Sys2Proof.Machine
end

section
/-! PROOFS. What a free array starts (O48), position by position. -/

namespace Sys2Proof.Machine

open Sys2Proof

section Free

variable {s : State} (hs : s.starting = false) (ho : s.mem.op = none)

include hs ho

theorem schedule_read {i : SlotNo} (hr : s.playWantsRead = true)
    (hb : s.play.buffer.length < 4 ∨ s.recorder.queue.length < 4) (hi : s.play.slot = some i) :
    (schedule s).mem.op = some (.read i s.play.nextRead (.play s.play.nextRead)) := by
  rw [schedule_free hs ho, round_read 2 hr hb, startPlayRead, hi]
  rfl

theorem schedule_program {i : SlotNo} {u : State} {b : BlockNo} {n : Nat} (hf : s.sampleFirst)
    (hi : s.recorder.slot = some i) (hp : s.placeNext i = some (u, b, n)) :
    schedule s = setOp (.programSample i b) u := by
  refine (schedule_free hs ho).trans (round_program 2 hf hi ?_)
  rw [startSampleProgram, hp]
  rfl

theorem schedule_recordNoRoom {i : SlotNo} (hf : s.sampleFirst) (hi : s.recorder.slot = some i)
    (hp : s.placeNext i = none) : schedule s = scheduleRounds 2 (recordNoRoom i s) := by
  refine (schedule_free hs ho).trans (round_noRoom 2 hf hi ?_)
  rw [startSampleProgram, hp]
  rfl

/-- The recording's slot and events as the NO_ROOM end leaves them stay at the rounds that follow it. -/
theorem schedule_recorded {i : SlotNo} (hf : s.sampleFirst) (hi : s.recorder.slot = some i) (hp : s.placeNext i = none)
    (hst : s.recorder.state = .recording ∨ s.recorder.state = .draining) :
    ∃ u, RecordedNoRoom i s u ∧ EndWork u (schedule s) := by
  rw [schedule_recordNoRoom hs ho hf hi hp]
  exact ⟨_, recordNoRoom_recorded hi hst, (schedules_endWork _).scheduleRounds 2 (.refl _)⟩

variable (hr : s.playWantsRead = false) (hq : s.recorder.queue.length = 0)

include hr hq

theorem schedule_reserved {r : Reserved} {rest : List Reserved} (hw : s.mem.reservedQueue = r :: rest) :
    schedule s = startReserved s :=
  (schedule_free hs ho).trans (round_reserved 2 hr hq hw)

variable (hw : s.mem.reservedQueue = [])

include hw

theorem schedule_chunk {i : SlotNo} {k : Fin 2} {u : State} {b : BlockNo} {n : Nat} (hi : s.uploadSlot = some i)
    (hk : s.chunkBuffer = some k) (hp : s.placeNext i = some (u, b, n)) : schedule s =
      setOp (.chunkPart i b k (min n (s.mem.buffers[k].part.getD s.mem.buffers[k].samples.length)) true)
        (u.setBuffer k fun b => { b with state := .programming }) := by
  refine (schedule_free hs ho).trans (round_chunk 2 hr hq hw hi hk ?_)
  rw [startChunkPart, hp]
  rfl

/-- After chunks that end NO_ROOM nothing of the upload changes. -/
theorem schedule_chunksNoRoom {i : SlotNo} {k : Fin 2} (hi : s.uploadSlot = some i) (hk : s.chunkBuffer = some k)
    (hp : s.placeNext i = none) (hb : ∀ j : Fin 2, j ≠ k → s.mem.buffers[j].state ≠ .programming) :
    ∃ u, ChunksNoRoom i k s u ∧ EndWork u (schedule s) ∧ StagedQuiet u.mem (schedule s) := by
  have run : schedule s = scheduleRounds 2 (uploadNoRoom i k s) := by
    refine (schedule_free hs ho).trans (round_chunkNoRoom 2 hr hq hw hi hk ?_)
    rw [startChunkPart, hp]
    rfl
  have ended := uploadNoRoom_chunks i k s
  have idle : (uploadNoRoom i k s).chunkBuffer = none := by
    refine chunkBuffer_none fun j => ?_
    by_cases hj : j = k
    · rw [hj, ended.buffer]
      exact ⟨nofun, rfl⟩
    · by_cases hqd : s.mem.buffers[j].isQueued = true
      · rw [(ended.queued j hj hqd).1]
        exact ⟨nofun, rfl⟩
      · rw [ended.other j hj (Bool.eq_false_iff.mpr hqd)]
        exact ⟨hb j hj, Bool.eq_false_iff.mpr hqd⟩
  have quiet : StagedQuiet (uploadNoRoom i k s).mem (uploadNoRoom i k s) :=
    ⟨rfl, rfl, rfl, by rw [ended.recorder]; exact List.eq_nil_of_length_eq_zero hq, ended.waits.trans hw, idle⟩
  rw [run]
  exact ⟨_, ended, (schedules_endWork _).scheduleRounds 2 (.refl _), (schedules_quiet _).scheduleRounds 2 quiet⟩

variable (hc : s.uploadSlot = none ∨ s.chunkBuffer = none)

include hc

theorem schedule_fetch {f : Fetch} (hf : s.nextFetch = some f) :
    schedule s = setOp (.read f.slot f.next (.fetch f.port)) s :=
  (schedule_free hs ho).trans (round_fetch 2 hr hq hw hc hf)

theorem schedule_nothing (hf : s.nextFetch = none) (ha : s.recActive = true ∨ s.playActive = true) : schedule s = s := by
  rw [schedule_free hs ho, round_last 2 hr hq hw hc hf, if_pos (by rw [Bool.or_eq_true]; exact ha)]

theorem schedule_erase (hf : s.nextFetch = none) (ha : s.recActive = false) (hp : s.playActive = false) :
    schedule s = startErase s := by
  rw [schedule_free hs ho, round_last 2 hr hq hw hc hf, ha, hp, if_neg nofun]

end Free

/-! ### The content of a reserved-area write -/

theorem startReserved_dir {s : State} {i : SlotNo} {rest : List Reserved} (h : s.mem.reservedQueue = .dir i :: rest) :
    (startReserved s).mem.reservedQueue = rest ∧ (startReserved s).mem.op = some (.reserved (.dir i
      { state := s.mem.slots[i].state, header := s.mem.slots[i].header }
      (s.mem.slots[i].released.map fun b => (b, s.mem.blocks[b].state)))) ∧
    (startReserved s).mem.slots[i] = { s.mem.slots[i] with released := [] } := by
  unfold startReserved
  rw [h]
  refine ⟨rfl, rfl, ?_⟩
  dsimp only
  rw [setOp, State.setMem_mem, State.setSlot, State.setMem_mem, updAt_same]
  rfl

theorem startReserved_profile {s : State} {k : ProfileNo} {rest : List Reserved}
    (h : s.mem.reservedQueue = .profile k :: rest) : (startReserved s).mem.reservedQueue = rest ∧
      (startReserved s).mem.op = some (.reserved (.profile k s.lens.slots[k].profile)) ∧
      (startReserved s).lens.slots[k] = { s.lens.slots[k] with store := .writing } := by
  unfold startReserved
  rw [h]
  exact ⟨rfl, rfl, updAt_same _ _ _⟩

theorem startReserved_rig {s : State} {rest : List Reserved} (h : s.mem.reservedQueue = .rig :: rest) :
    (startReserved s).mem.reservedQueue = rest ∧ (startReserved s).rig = { s.rig with store := .writing } ∧
      (startReserved s).mem.op = some (.reserved (.rig
        { s.rig.record with frozen := s.rig.record.frozen || s.rig.freezePending })) := by
  unfold startReserved
  rw [h]
  exact ⟨rfl, rfl, rfl⟩

/-- R78: a block allocated for the work, and its place in the take. -/
theorem allocated_of_op {i : SlotNo} {c : BlockNo} {s t : State} {op : ArrayOp}
    (h : t.mem.op = some op ∧ t.mem.blocks = (allocate i c s).mem.blocks ∧ t.mem.slots = (allocate i c s).mem.slots) :
    t.mem.op = some op ∧
      t.mem.blocks[c] = { state := .used i s.mem.slots[i].blocks.length false, data := [] } ∧
      t.mem.slots[i] = { s.mem.slots[i] with blocks := s.mem.slots[i].blocks ++ [c] } := by
  obtain ⟨hop, hb, hsl⟩ := h
  exact ⟨hop, by rw [hb, allocate_block], by rw [hsl, allocate_slot]⟩

/-- Settles O48: the eight positions in their order, each by its round, and the rounds that follow an end NO_ROOM. -/
theorem schedulerOrder : Obligations.SchedulerOrder := by
  unfold Obligations.SchedulerOrder
  intro s
  refine ⟨schedule_busy, fun hs ho => ?_⟩
  dsimp only
  refine ⟨fun i hr hb hi => schedule_read hs ho hr hb hi, fun i b n hf hi hl => ?_, fun i hf hi hl => ⟨fun h c hh hc hd => ?_,
    fun hn hst => ?_⟩, fun hr hq => ⟨fun i rest hw => ?_, fun k rest hw => ?_, fun rest hw => ?_, fun hw =>
    ⟨fun i k b n hi hk hl => ?_, fun i k hi hk hl => ⟨fun h c hh hc hd => ?_, fun hn hb => ?_⟩, fun hc =>
      ⟨fun f hf => ?_, fun hf => ⟨schedule_nothing hs ho hr hq hw hc hf, fun ha hp => ⟨fun b hb => ?_, fun b hb hd => ?_,
        fun hb hd => ?_⟩⟩⟩⟩⟩⟩
  · rw [schedule_program hs ho hf hi (placeNext_last hl)]
    rfl
  · rw [schedule_program hs ho hf hi (placeNext_first hl hh hc hd)]
    exact allocated_of_op ⟨rfl, rfl, rfl⟩
  · obtain ⟨u, ended, work⟩ := schedule_recorded hs ho hf hi (placeNext_noRoom hl hn) hst
    have recorder : (schedule s).recorder = Recorder.reset := by
      rw [work.recorder (by rw [ended.recorder]; rfl), ended.recorder]
    have slot : u.mem.slots[i].state ≠ .uploading →
        (schedule s).mem.slots[i] = { u.mem.slots[i] with released := (schedule s).mem.slots[i].released } :=
      work.slot i (by rw [ended.recorder]; nofun)
    refine ⟨recorder, fun hz => ?_, fun hz => ?_, fun p hl hr => ?_⟩
    · rw [slot (by rw [ended.none hz]; nofun), ended.none hz]
      exact ⟨rfl, rfl, rfl⟩
    · rw [slot (by rw [ended.some hz]; nofun), ended.some hz]
      exact ⟨rfl, rfl, rfl, rfl, rfl, rfl⟩
    · obtain ⟨dropped, first, last, told⟩ := ended.told
      rcases told.endWork work p hl hr with ⟨e, he, hb⟩ | lost
      · exact .inl ⟨e, he, dropped, first, last, hb⟩
      · exact .inr lost
  · rw [schedule_reserved hs ho hr hq hw]
    exact startReserved_dir hw
  · rw [schedule_reserved hs ho hr hq hw]
    exact startReserved_profile hw
  · rw [schedule_reserved hs ho hr hq hw]
    exact startReserved_rig hw
  · rw [schedule_chunk hs ho hr hq hw hi hk (placeNext_last hl)]
    rfl
  · rw [schedule_chunk hs ho hr hq hw hi hk (placeNext_first hl hh hc hd)]
    exact allocated_of_op ⟨rfl, rfl, rfl⟩
  · obtain ⟨u, ended, work, quiet⟩ := schedule_chunksNoRoom hs ho hr hq hw hi hk (placeNext_noRoom hl hn) hb
    have buffer : ∀ j : Fin 2, (schedule s).mem.buffers[j] = u.mem.buffers[j] := fun j => by rw [quiet.buffers]
    refine ⟨quiet.slots.trans ended.slots, (buffer k).trans ended.buffer, ended.told.endWork work,
      quiet.upload.trans ended.upload, fun j hj => ⟨fun hqd => ?_, fun hqd => ?_⟩⟩
    · obtain ⟨reset, told⟩ := ended.queued j hj (isQueued_iff.mpr hqd)
      exact ⟨(buffer j).trans reset, told.endWork work⟩
    · have idle : s.mem.buffers[j].isQueued = false := Bool.eq_false_iff.mpr fun h => (isQueued_iff.mp h).elim hqd
      exact (buffer j).trans (ended.other j hj idle)
  · rw [schedule_fetch hs ho hr hq hw hc hf]
    rfl
  · rw [schedule_erase hs ho hr hq hw hc hf ha hp, startErase, hb]
    rfl
  · rw [schedule_erase hs ho hr hq hw hc hf ha hp, startErase, hb, hd]
    rfl
  · rw [schedule_erase hs ho hr hq hw hc hf ha hp, startErase, hb, hd]

end Sys2Proof.Machine
end

section
/-! PROOFS. Requests on the take directory (O59, R88, R89, R91, R98), with the directory write that each of them leaves. -/

namespace Sys2Proof.Machine

open Sys2Proof

/-! ### The end of a request that leaves a directory write (R76, R81) -/

/-- Nothing but the ports and the take memory has changed, where a directory write of the slot has been queued. -/
structure DirQueued (i : SlotNo) (s u : State) : Prop where
  starting : u.starting = s.starting
  play : u.play = s.play
  recorder : u.recorder = s.recorder
  op : u.mem.op.isSome = s.mem.op.isSome
  waits : u.mem.reservedQueue = enqueued (.dir i) s.mem.reservedQueue

/-- The directory write of slot i as it begins. -/
def State.dirWrite (s : State) (i : SlotNo) : ArrayOp :=
  .reserved (.dir i { state := s.mem.slots[i].state, header := s.mem.slots[i].header }
    (s.mem.slots[i].released.map fun b => (b, s.mem.blocks[b].state)))

/-- A take memory with the directory write of a slot waiting behind a busy array, or begun by an idle one. -/
structure DirEnd (i : SlotNo) (s u t : State) : Prop where
  slot : t.mem.slots[i] = { u.mem.slots[i] with released := t.mem.slots[i].released }
  other : ∀ j : SlotNo, j ≠ i → t.mem.slots[j] = u.mem.slots[j]
  blocks : t.mem.blocks = u.mem.blocks
  buffers : t.mem.buffers = u.mem.buffers
  upload : t.mem.upload = u.mem.upload
  busy : s.mem.op.isSome = true → Reserved.dir i ∈ t.mem.reservedQueue ∧ t.mem.op = u.mem.op
  idle : ArrayIdle s → t.mem.reservedQueue = [] ∧ t.mem.op = some (u.dirWrite i)

theorem startReserved_dirEnd {i : SlotNo} {s : State} (h : s.mem.reservedQueue = [.dir i]) :
    (startReserved s).mem = { s.mem with reservedQueue := [], op := some (s.dirWrite i),
                                         slots := updAt s.mem.slots i fun x => { x with released := [] } } := by
  unfold startReserved
  rw [h]
  rfl

theorem replied_dirQueued {rx : Rx} {i : SlotNo} {s u : State} (h : DirQueued i s u) (a : Answer)
    (hs : s.mem.op.isSome = true ∨ ArrayIdle s) : DirEnd i s u (replied rx a u) := by
  rcases hs with ho | idle
  · have mem := (replied_busy (s := u) (h.op.trans ho) rx a).1
    refine ⟨by rw [mem], fun j _ => by rw [mem], by rw [mem], by rw [mem], by rw [mem], fun _ => ?_, fun hi => ?_⟩
    · rw [mem, h.waits]
      exact ⟨mem_enqueued _ _, rfl⟩
    · rw [hi.2.1] at ho
      cases ho
  · obtain ⟨hst, ho, hw, hq, hr⟩ := idle
    have pushed := pushReply_frame rx.port (a.reply rx.tag .ordinary) u
    have waits : u.mem.reservedQueue = [.dir i] := by rw [h.waits, hw]; rfl
    have free : u.mem.op = none := Option.isSome_eq_false_iff.mp (h.op.trans (by rw [ho]; rfl)) |> Option.isNone_iff_eq_none.mp
    have reads : (pushReply rx.port (a.reply rx.tag .ordinary) u).playWantsRead = false := by
      have same : ∀ t : State, t.play = s.play → t.playWantsRead = s.playWantsRead := fun t e => by
        unfold State.playWantsRead
        rw [e]
      rw [same _ (pushed.play.trans h.play), hr]
    have chosen : schedule (pushReply rx.port (a.reply rx.tag .ordinary) u) =
        startReserved (pushReply rx.port (a.reply rx.tag .ordinary) u) :=
      schedule_reserved (by rw [pushed.starting, h.starting, hst]) (by rw [pushed.mem, free]) reads
        (by rw [pushed.recorder, h.recorder, hq]; rfl) (by rw [pushed.mem]; exact waits)
    have mem : (replied rx a u).mem = { u.mem with
        reservedQueue := [], op := some (u.dirWrite i),
        slots := updAt u.mem.slots i fun x => { x with released := [] } } := by
      have begun := startReserved_dirEnd (s := pushReply rx.port (a.reply rx.tag .ordinary) u) (by rw [pushed.mem]; exact waits)
      rw [State.dirWrite, pushed.mem] at begun
      rw [replied, settle, (pump_frame _).mem, chosen, begun]
      rfl
    refine ⟨?_, fun j hj => ?_, by rw [mem], by rw [mem], by rw [mem], fun hb => ?_, fun _ => ?_⟩
    · rw [mem, updAt_same]
    · rw [mem, updAt_other hj.symm]
    · rw [ho] at hb
      cases hb
    · rw [mem]
      exact ⟨rfl, rfl⟩

/-! ### Judgements -/

theorem slotOf_val (i : SlotNo) : slotOf i.val = some i := indexOf_val i

theorem slotOf_beyond {n : Nat} (h : 32 ≤ n) : slotOf n = none := indexOf_of_le h

/-- R91: the take is played or fetched. -/
def State.inUse (s : State) (i : SlotNo) : Prop :=
  (s.play.state ≠ .idle ∧ s.play.slot = some i) ∨ ∃ f ∈ s.mem.fetches, f.slot = i

theorem inUse_iff {s : State} {i : SlotNo} : (s.playing i || s.fetched i) = true ↔ s.inUse i := by
  rw [Bool.or_eq_true, State.playing, State.fetched, Bool.and_eq_true, List.any_eq_true, State.playActive, decide_eq_true_eq,
    decide_eq_true_eq]
  exact or_congr Iff.rfl (exists_congr fun f => and_congr Iff.rfl decide_eq_true_iff)

section Judge

variable {s : State} {i : SlotNo}

theorem judgeTakeProtect_unfinished (hf : s.mem.slots[i].finished = false) (act : ProtectAction) :
    judgeTakeProtect { slot := i.val, action := act } s = refuse .wrongState s := by
  unfold judgeTakeProtect
  rw [slotOf_val]
  exact if_pos (by rw [hf]; rfl)

theorem judgeTakeProtect_lock (hf : s.mem.slots[i].finished = true) : judgeTakeProtect { slot := i.val, action := .lock } s =
    done (s.setSlot i fun x => { x with locked := true, openLocked := true }) := by
  unfold judgeTakeProtect
  rw [slotOf_val]
  exact if_neg (by rw [hf]; nofun)

theorem judgeTakeProtect_lockDown (hf : s.mem.slots[i].finished = true) :
    judgeTakeProtect { slot := i.val, action := .lockDown } s =
      done (s.setSlot i fun x => { x with down := true, locked := true, openLocked := true }) := by
  unfold judgeTakeProtect
  rw [slotOf_val]
  exact if_neg (by rw [hf]; nofun)

theorem judgeTakeProtect_unlock (hf : s.mem.slots[i].finished = true) :
    judgeTakeProtect { slot := i.val, action := .unlock } s =
      if s.mem.slots[i].down && s.mem.protectClosed then refuse .takeProtected s
      else done (s.setSlot i fun x => { x with locked := false, openLocked := false }) := by
  unfold judgeTakeProtect
  rw [slotOf_val]
  exact if_neg (by rw [hf]; nofun)

theorem judgeTakeErase_at : judgeTakeErase i.val s =
    if !s.mem.slots[i].finished || s.playing i || s.fetched i then refuse .wrongState s
    else if s.mem.slots[i].locked then refuse .takeProtected s
    else done (emptySlot i s) := by
  unfold judgeTakeErase
  rw [slotOf_val]

theorem judgeTakeErase_refused (h : s.mem.slots[i].finished = false ∨ s.inUse i) :
    judgeTakeErase i.val s = refuse .wrongState s := by
  rw [judgeTakeErase_at, if_pos]
  rw [Bool.or_assoc, Bool.or_eq_true, inUse_iff, Bool.not_eq_true']
  exact h

theorem judgeTakeErase_free (hf : s.mem.slots[i].finished = true) (hu : ¬ s.inUse i) : judgeTakeErase i.val s =
    if s.mem.slots[i].locked then refuse .takeProtected s else done (emptySlot i s) := by
  rw [judgeTakeErase_at, if_neg]
  rw [Bool.or_assoc, Bool.or_eq_true, inUse_iff, hf]
  exact fun h => h.elim nofun hu

theorem judgeTakeFetch_at (rx : Rx) {a : FetchArgs} (ha : a.slot = i.val) : judgeTakeFetch rx a s =
    if a.count = 0 ∨ 64 < a.count then refuse .badValue s
    else if !s.mem.slots[i].finished then refuse .wrongState s
    else if s.mem.slots[i].length ≤ a.first then refuse .badValue s
    else if s.mem.fetches.any fun f => f.port = rx.port then refuse .busy s
    else acceptFetch rx i a s := by
  unfold judgeTakeFetch
  rw [ha, slotOf_val]

theorem judgeTakeFetch_bad (rx : Rx) {a : FetchArgs} (ha : a.slot = i.val)
    (h : a.count = 0 ∨ (s.mem.slots[i].finished = true ∧ s.mem.slots[i].length ≤ a.first)) :
    judgeTakeFetch rx a s = refuse .badValue s := by
  rw [judgeTakeFetch_at rx ha]
  rcases h with h | ⟨hf, hl⟩
  · rw [if_pos (.inl h)]
  · rw [hf, if_neg (show ¬ (!true) = true by nofun), if_pos hl, ite_self]

theorem judgeTakeFetch_within (rx : Rx) {a : FetchArgs} (ha : a.slot = i.val) (h1 : 1 ≤ a.count) (h2 : a.count ≤ 64) :
    judgeTakeFetch rx a s =
      if !s.mem.slots[i].finished then refuse .wrongState s
      else if s.mem.slots[i].length ≤ a.first then refuse .badValue s
      else if s.mem.fetches.any fun f => f.port = rx.port then refuse .busy s
      else acceptFetch rx i a s := by
  rw [judgeTakeFetch_at rx ha, if_neg (by omega)]

end Judge

/-- R91: an erased take's slot and blocks, with the directory write that carries the releases. -/
theorem emptySlot_queued (i : SlotNo) (s : State) : DirQueued i s (emptySlot i s) := by
  obtain ⟨v, -, he⟩ := emptySlot_eq i s
  rw [he]
  exact ⟨rfl, rfl, rfl, rfl, rfl⟩

theorem released_used (i : SlotNo) (place : Nat) (retire : Bool) :
    BlockState.released (.used i place retire) = if retire then .bad else .dirty := rfl

/-- Settles O59: the rows of each request in their order, and what an erase leaves. -/
theorem takeDirectoryRequests : Obligations.TakeDirectoryRequests := by
  unfold Obligations.TakeDirectoryRequests
  intro rx i s h
  refine ⟨fun hm => ?_, fun a ha => ?_⟩
  · have motion : TakesMotion rx s := ⟨h, hm⟩
    have protect : ∀ {n act s1 ans}, judgeTakeProtect { slot := n, action := act } (noteValid rx s) = (s1, some ans) →
        exec (.takeProtect rx (.fields { slot := n, action := act })) s = .next (replied rx ans s1) := fun hj =>
      congrArg Host.Outcome.next (takeRequest_motion motion hj)
    have erase : ∀ {n s1 ans}, judgeTakeErase n (noteValid rx s) = (s1, some ans) →
        exec (.takeErase rx (.fields n)) s = .next (replied rx ans s1) := fun hj =>
      congrArg Host.Outcome.next (takeRequest_motion motion hj)
    refine ⟨fun n act hn => ⟨protect ?_, erase ?_⟩, fun hf => ⟨fun act => protect ?_, erase ?_⟩, fun hf =>
      ⟨protect (judgeTakeProtect_lock (s := noteValid rx s) hf), protect (judgeTakeProtect_lockDown (s := noteValid rx s) hf),
        fun hd hc => protect ?_, fun ho => protect ?_, fun hu => erase (judgeTakeErase_refused (.inr hu)),
        fun hp hn => ⟨fun hl => erase ?_, fun hl hno hs => ?_⟩⟩⟩
    · rw [judgeTakeProtect, slotOf_beyond hn]
      rfl
    · rw [judgeTakeErase, slotOf_beyond hn]
      rfl
    · exact judgeTakeProtect_unfinished (s := noteValid rx s) hf act
    · exact judgeTakeErase_refused (.inl hf)
    · rw [judgeTakeProtect_unlock (s := noteValid rx s) hf, if_pos (by rw [Bool.and_eq_true]; exact ⟨hd, hc⟩)]
      rfl
    · rw [judgeTakeProtect_unlock (s := noteValid rx s) hf, if_neg]
      · rfl
      · rw [Bool.and_eq_true]
        rintro ⟨hd, hc⟩
        exact ho.elim (fun e => Bool.false_ne_true (e.symm.trans hd)) fun e => Bool.false_ne_true (e.symm.trans hc)
    all_goals
      have free : ¬ (noteValid rx s).inUse i := by
        rintro (⟨h1, h2⟩ | ⟨f, h1, h2⟩)
        · exact hp.elim h1 (fun h => h h2)
        · exact hn f h1 h2
      have judged := judgeTakeErase_free (s := noteValid rx s) hf free
    · exact judged.trans (if_pos hl)
    · rw [if_neg (show ¬ (noteValid rx s).mem.slots[i].locked = true by rw [Bool.not_eq_true]; exact hl)] at judged
      have run := erase judged
      have ended := replied_dirQueued (rx := rx) (emptySlot_queued i (noteValid rx s)) Answer.done hs
      obtain ⟨v, hv, he⟩ := emptySlot_eq i (noteValid rx s)
      have slots : ∀ j : SlotNo, (emptySlot i (noteValid rx s)).mem.slots[j] =
        if i = j then s.mem.slots[j].emptied else s.mem.slots[j] := fun j => emptySlot_slot i j _
      have own : (emptySlot i (noteValid rx s)).mem.slots[i] = s.mem.slots[i].emptied := by rw [slots, if_pos rfl]
      have blocks : (emptySlot i (noteValid rx s)).mem.blocks = v := by rw [he]; rfl
      have slot := ended.slot
      rw [own] at slot
      refine ⟨_, run, by rw [slot]; rfl, by rw [slot]; rfl, by rw [slot]; rfl, fun ho => (ended.busy ho).1, fun idle => ?_,
        fun b hb place retire hu => ?_, fun b hb => ?_, fun j hj => ?_⟩
      · obtain ⟨hw, hop⟩ := ended.idle idle
        refine ⟨hw, hop.trans ?_⟩
        rw [State.dirWrite, own, ended.blocks]
        rfl
      · rw [ended.blocks, blocks, hv.once hno b hb]
        exact (congrArg BlockState.released hu).trans (released_used i place retire)
      · rw [ended.blocks, blocks]
        exact hv.other b hb
      · rw [ended.other j hj, slots, if_neg hj.symm]
  · have fetch : ∀ {s1 ans}, judgeTakeFetch rx a (noteValid rx s) = (s1, some ans) →
        exec (.takeFetch rx (.fields a)) s = .next (replied rx ans s1) := fun hj =>
      congrArg Host.Outcome.next (takeRequest_answered (judge := judgeTakeFetch rx) h hj)
    refine ⟨fun hb => fetch (judgeTakeFetch_bad (s := noteValid rx s) rx ha hb), fun h1 h2 => ?_⟩
    have judged := judgeTakeFetch_within (s := noteValid rx s) rx ha h1 h2
    refine ⟨fun hf => fetch ?_, fun hf hl => ?_⟩
    · rw [judged, if_pos (by rw [Bool.not_eq_true']; exact hf)]
      rfl
    rw [if_neg (show ¬ (!(noteValid rx s).mem.slots[i].finished) = true by rw [Bool.not_eq_true', Bool.not_eq_false]; exact hf),
      if_neg (show ¬ (noteValid rx s).mem.slots[i].length ≤ a.first from Nat.not_le.mpr hl)] at judged
    refine ⟨fun ⟨f, hm, hp⟩ => fetch ?_, fun hn => ?_⟩
    · exact judged.trans (if_pos (List.any_eq_true.mpr ⟨f, hm, decide_eq_true hp⟩))
    · have none : ¬ ((noteValid rx s).mem.fetches.any fun f => f.port = rx.port) = true := fun e =>
        (List.any_eq_true.mp e).elim fun f hf => hn f hf.1 (of_decide_eq_true hf.2)
      rw [if_neg none] at judged
      exact congrArg (fun t => Host.Outcome.next (settle t)) (takeRequest_unanswered (judge := judgeTakeFetch rx) h judged)

end Sys2Proof.Machine
end

section
/-! PROOFS. The upload of a take (O60, R92 to R97, R191). -/

namespace Sys2Proof.Machine

open Sys2Proof

/-! ### The check of a chunk (R94) -/

theorem checkChunk_nil (lanes i : Nat) (u : Upload) : checkChunk lanes i u [] = .ok u := rfl

/-- The continuity state after a sample. -/
def Upload.after (u : Upload) (x : StagedSample) : Upload :=
  { nextOffset := u.nextOffset + 1, spanOpen := spanAfter u.spanOpen (marksOf x.marks) }

theorem checkChunk_follows {lanes : Nat} {u : Upload} {x : StagedSample} (h : SampleFollows lanes u [] x) (i : Nat)
    (xs : List StagedSample) : checkChunk lanes i u (x :: xs) = checkChunk lanes (i + 1) (u.after x) xs :=
  if_pos ((stagedValid_iff lanes u x).mpr h)

theorem checkChunk_fails {lanes : Nat} {u : Upload} {x : StagedSample} (h : ¬ SampleFollows lanes u [] x) (i : Nat)
    (xs : List StagedSample) : checkChunk lanes i u (x :: xs) = .error i :=
  if_neg (mt (stagedValid_iff lanes u x).mp h)

/-- Every sample of the list follows on those before it. -/
def AllFollow (lanes : Nat) (u : Upload) (xs : List StagedSample) : Prop :=
  ∀ before x rest, xs = before ++ x :: rest → SampleFollows lanes u before x

theorem allFollow_cons {lanes : Nat} {u : Upload} {x : StagedSample} {xs : List StagedSample} :
    AllFollow lanes u (x :: xs) ↔ SampleFollows lanes u [] x ∧ AllFollow lanes (u.after x) xs := by
  refine ⟨fun h => ⟨h [] x xs rfl, fun before y rest e => ?_⟩, fun ⟨h1, h2⟩ before y rest e => ?_⟩
  · exact (sampleFollows_cons lanes u x y before).mp (h (x :: before) y rest (by rw [e]; rfl))
  · cases before with
    | nil =>
      obtain ⟨rfl, -⟩ := List.cons_eq_cons.mp e
      exact h1
    | cons z before =>
      obtain ⟨rfl, tail⟩ := List.cons_eq_cons.mp e
      exact (sampleFollows_cons lanes u x y before).mpr (h2 before y rest tail)

theorem spanThrough_cons (o : Bool) (x : StagedSample) (xs : List StagedSample) :
    spanThrough o (x :: xs) = spanThrough (spanAfter o (marksOf x.marks)) xs := rfl

theorem checkChunk_ok_iff {lanes i : Nat} {u v : Upload} {xs : List StagedSample} :
    checkChunk lanes i u xs = .ok v ↔
      AllFollow lanes u xs ∧ v = { nextOffset := u.nextOffset + xs.length, spanOpen := spanThrough u.spanOpen xs } := by
  induction xs generalizing i u with
  | nil =>
    rw [checkChunk_nil, Except.ok.injEq]
    refine ⟨fun h => ⟨fun before x rest e => ?_, h.symm⟩, fun h => h.2.symm⟩
    cases before <;> cases e
  | cons x xs ih =>
    rw [allFollow_cons]
    by_cases hx : SampleFollows lanes u [] x
    · rw [checkChunk_follows hx, ih, spanThrough_cons, List.length_cons, Nat.add_comm xs.length 1, ← Nat.add_assoc]
      exact and_congr ⟨fun h => ⟨hx, h⟩, fun h => h.2⟩ Iff.rfl
    · rw [checkChunk_fails hx]
      exact ⟨nofun, fun h => absurd h.1.1 hx⟩

/-- The first sample that does not follow on stands after so many. -/
def FirstFailing (lanes : Nat) (u : Upload) (xs : List StagedSample) (n : Nat) : Prop :=
  ∃ before x rest, xs = before ++ x :: rest ∧ before.length = n ∧ ¬ SampleFollows lanes u before x ∧ AllFollow lanes u before

theorem firstFailing_head {lanes : Nat} {u : Upload} {x : StagedSample} {xs : List StagedSample} {n : Nat}
    (h : ¬ SampleFollows lanes u [] x) : FirstFailing lanes u (x :: xs) n ↔ n = 0 := by
  constructor
  · rintro ⟨before, y, rest, e, rfl, -, hb⟩
    cases before with
    | nil => rfl
    | cons z before =>
      obtain ⟨rfl, -⟩ := List.cons_eq_cons.mp e
      exact absurd (allFollow_cons.mp hb).1 h
  · rintro rfl
    refine ⟨[], x, xs, rfl, rfl, h, fun before y rest e => ?_⟩
    cases before <;> cases e

theorem firstFailing_tail {lanes : Nat} {u : Upload} {x : StagedSample} {xs : List StagedSample} {n : Nat}
    (h : SampleFollows lanes u [] x) : FirstFailing lanes u (x :: xs) n ↔ ∃ m, n = m + 1 ∧ FirstFailing lanes (u.after x) xs m := by
  constructor
  · rintro ⟨before, y, rest, e, rfl, hf, hb⟩
    cases before with
    | nil =>
      obtain ⟨rfl, -⟩ := List.cons_eq_cons.mp e
      exact absurd h hf
    | cons z before =>
      obtain ⟨rfl, tail⟩ := List.cons_eq_cons.mp e
      exact ⟨before.length, rfl, before, y, rest, tail, rfl, mt (sampleFollows_cons lanes u x y before).mpr hf,
        (allFollow_cons.mp hb).2⟩
  · rintro ⟨m, rfl, before, y, rest, rfl, rfl, hf, hb⟩
    exact ⟨x :: before, y, rest, rfl, rfl, mt (sampleFollows_cons lanes u x y before).mp hf, allFollow_cons.mpr ⟨h, hb⟩⟩

theorem checkChunk_error_iff {lanes i n : Nat} {u : Upload} {xs : List StagedSample} :
    checkChunk lanes i u xs = .error n ↔ ∃ m, n = i + m ∧ FirstFailing lanes u xs m := by
  induction xs generalizing i u with
  | nil =>
    refine ⟨nofun, ?_⟩
    rintro ⟨m, -, before, x, rest, e, -⟩
    cases before <;> cases e
  | cons x xs ih =>
    by_cases hx : SampleFollows lanes u [] x
    · rw [checkChunk_follows hx, ih]
      constructor
      · rintro ⟨m, rfl, hm⟩
        exact ⟨m + 1, by omega, (firstFailing_tail hx).mpr ⟨m, rfl, hm⟩⟩
      · rintro ⟨m, rfl, hm⟩
        obtain ⟨l, rfl, hl⟩ := (firstFailing_tail hx).mp hm
        exact ⟨l, by omega, hl⟩
    · rw [checkChunk_fails hx, Except.error.injEq]
      constructor
      · rintro rfl
        exact ⟨0, rfl, (firstFailing_head hx).mpr rfl⟩
      · rintro ⟨m, rfl, hm⟩
        rw [(firstFailing_head hx).mp hm, Nat.add_zero]

theorem uploadLanes_eq {s : State} {i : SlotNo} {h : Header} (hh : s.mem.slots[i].header = some h) :
    s.uploadLanes i = ((List.range 12).filter fun j => h.lanes.getLsbD j).length := by
  have lanes : s.uploadLanes i = LaneSet.count h.lanes := by
    unfold State.uploadLanes
    rw [hh]
    rfl
  rw [lanes, LaneSet.count, LaneSet.members, ← List.map_coe_finRange_eq_range, List.filter_map, List.length_map]
  rfl

/-! ### Judgements -/

section Judge

variable {s : State} {i : SlotNo}

theorem slotFree_iff : s.slotFree i = true ↔
    s.mem.slots[i].state = .empty ∧ (s.recorder.state ≠ .armed ∨ s.recorder.slot ≠ some i) := by
  rw [State.slotFree, Bool.and_eq_true, decide_eq_true_eq, Bool.not_eq_true', Bool.and_eq_false_iff, decide_eq_false_iff_not,
    decide_eq_false_iff_not]

theorem judgeTakeOpen_at {a : OpenArgs} (ha : a.slot = i.val) (hv : openValid a = true) : judgeTakeOpen a s =
    if !s.slotFree i then refuse .wrongState s
    else if s.uploadSlot.isSome then refuse .busy s
    else if s.lowestFree.isNone then refuse .noRoom s
    else done (openSlot i a s) := by
  unfold judgeTakeOpen
  rw [ha, slotOf_val]
  dsimp only
  rw [hv, if_neg (show ¬ (!true) = true by nofun)]

theorem judgeTakeOpen_free {a : OpenArgs} (ha : a.slot = i.val) (hv : openValid a = true) (hf : s.slotFree i = true) :
    judgeTakeOpen a s =
      if s.uploadSlot.isSome then refuse .busy s
      else if s.lowestFree.isNone then refuse .noRoom s
      else done (openSlot i a s) := by
  rw [judgeTakeOpen_at ha hv, hf, if_neg (show ¬ (!true) = true by nofun)]

theorem stageSized {xs : List StagedSample} (hn : xs ≠ []) (hx : ∀ x ∈ xs, 1 ≤ x.pos.length ∧ x.pos.length ≤ 12) :
    ¬ (xs.isEmpty || xs.any (fun x => x.pos.length < 1 || 12 < x.pos.length)) = true := by
  rw [Bool.or_eq_true, List.isEmpty_iff, List.any_eq_true]
  rintro (h | ⟨x, hm, h⟩)
  · exact hn h
  · rw [Bool.or_eq_true, decide_eq_true_eq, decide_eq_true_eq] at h
    have := hx x hm
    omega

theorem judgeStage_busy {xs : List StagedSample} (hu : s.uploadSlot = some i) (hn : xs ≠ [])
    (hx : ∀ x ∈ xs, 1 ≤ x.pos.length ∧ x.pos.length ≤ 12) (hk : s.stageTarget = none) :
    judgeStage xs s = refuse .busy s := by
  unfold judgeStage
  rw [hu, hk]
  exact (if_neg nofun).trans (if_neg (stageSized hn hx))

theorem judgeStage_target {xs : List StagedSample} {k : Fin 2} (hu : s.uploadSlot = some i) (hn : xs ≠ [])
    (hx : ∀ x ∈ xs, 1 ≤ x.pos.length ∧ x.pos.length ≤ 12) (hk : s.stageTarget = some k) :
    judgeStage xs s = if 65536 < stageBytes (s.mem.buffers[k].samples ++ xs) then refuse .badValue s
      else done (s.setBuffer k (appendStaged xs)) := by
  unfold judgeStage
  rw [hu, hk]
  exact (if_neg nofun).trans (if_neg (stageSized hn hx))

theorem judgeStageCommit_ok {k : Fin 2} {u : Upload} (hu : s.uploadSlot = some i) (hk : s.fillingBuffer = some k)
    (hc : checkChunk (s.uploadLanes i) 0 s.mem.upload s.mem.buffers[k].samples = .ok u) :
    judgeStageCommit () s = accept (queueChunk k u s) := by
  unfold judgeStageCommit
  rw [hk, hu]
  dsimp only
  rw [hc]

theorem judgeStageCommit_error {k : Fin 2} {n : Nat} (hu : s.uploadSlot = some i) (hk : s.fillingBuffer = some k)
    (hc : checkChunk (s.uploadLanes i) 0 s.mem.upload s.mem.buffers[k].samples = .error n) :
    judgeStageCommit () s = (setChunkReject (s.setBuffer k fun _ => StageBuffer.reset),
      some { Answer.refused .badValue with payload := .failingSample n }) := by
  unfold judgeStageCommit
  rw [hk, hu]
  dsimp only
  rw [hc]

theorem judgeStageCommit_refused (h : s.uploadSlot = none ∨ s.fillingBuffer = none) :
    judgeStageCommit () s = refuse .wrongState s := by
  unfold judgeStageCommit
  rcases h with h | h
  · rw [h]
    cases s.fillingBuffer <;> rfl
  · rw [h]

theorem bothEmpty_iff {bs : Vector StageBuffer 2} :
    (bs[0].state ≠ .empty ∨ bs[1].state ≠ .empty) ↔ ∃ k : Fin 2, bs[k].state ≠ .empty := by
  constructor
  · exact fun h => h.elim (fun h => ⟨0, h⟩) fun h => ⟨1, h⟩
  · rintro ⟨k, hk⟩
    match k with
    | 0 => exact .inl hk
    | 1 => exact .inr hk

theorem judgeTakeClose_at (hu : s.uploadSlot = some i) : judgeTakeClose () s =
    if s.mem.slots[i].length = 0 then refuse .wrongState s
    else if s.mem.buffers[0].state ≠ .empty ∨ s.mem.buffers[1].state ≠ .empty then refuse .busy s
    else done (completeSlot i (fun h => { h with impliedResume := s.mem.upload.spanOpen }) s) := by
  unfold judgeTakeClose
  rw [hu]

end Judge

/-! ### What the requests leave -/

/-- A slot that a TAKE OPEN has opened (R92). -/
def Slot.opened (a : OpenArgs) (x : Slot) : Slot :=
  { x with state := .uploading, header := some (openHeader a), blocks := [], locked := false, down := false,
           openLocked := false }

theorem openSlot_eq (i : SlotNo) (a : OpenArgs) (s : State) : openSlot i a s = s.setMem { s.mem with
    slots := updAt s.mem.slots i (Slot.opened a), buffers := Vector.replicate 2 StageBuffer.reset,
    upload := { nextOffset := 0, spanOpen := false }, reservedQueue := enqueued (.dir i) s.mem.reservedQueue } := by
  rw [openSlot, queueDir_eq]
  rfl

theorem openSlot_queued (i : SlotNo) (a : OpenArgs) (s : State) : DirQueued i s (openSlot i a s) := by
  rw [openSlot_eq]
  exact ⟨rfl, rfl, rfl, rfl, rfl⟩

theorem completeSlot_queued (i : SlotNo) (f : Header → Header) (s : State) : DirQueued i s (completeSlot i f s) := by
  rw [completeSlot_eq]
  exact ⟨rfl, rfl, rfl, rfl, rfl⟩

theorem orphanChunk_isSome (op : Option ArrayOp) : (orphanChunk op).isSome = op.isSome := by
  unfold orphanChunk
  split <;> rfl

theorem discardUpload_queued {s : State} {i : SlotNo} (h : s.uploadSlot = some i) : DirQueued i s (discardUpload s) := by
  obtain ⟨v, -, he⟩ := discardUpload_eq h
  rw [he]
  exact ⟨rfl, rfl, rfl, orphanChunk_isSome _, rfl⟩

theorem fillingBuffer_state {s : State} {k : Fin 2} (h : s.fillingBuffer = some k) : s.mem.buffers[k].state = .filling := by
  unfold State.fillingBuffer at h
  split at h
  · next hb => obtain rfl := Option.some.inj h; exact hb
  split at h
  · next hb => obtain rfl := Option.some.inj h; exact hb
  · cases h

/-- A committed chunk, with the other buffer EMPTY, is the one that is programmed next (R81). -/
theorem chunkBuffer_only {s : State} {k : Fin 2} {n : Nat} (hk : s.mem.buffers[k].state = .queued n)
    (ho : s.mem.buffers[otherBuffer k].state = .empty) : s.chunkBuffer = some k := by
  have queued : s.mem.buffers[k].isQueued = true := isQueued_iff.mpr ⟨n, hk⟩
  have other : s.mem.buffers[otherBuffer k].isQueued = false :=
    Bool.eq_false_iff.mpr fun h => by
      obtain ⟨m, hm⟩ := isQueued_iff.mp h
      rw [ho] at hm
      cases hm
  unfold State.chunkBuffer
  match k, hk, ho, queued, other with
  | 0, hk, ho, queued, other =>
    have one : s.mem.buffers[1].state = .empty := ho
    have zero : s.mem.buffers[0].state = .queued n := hk
    have qzero : s.mem.buffers[0].isQueued = true := queued
    have qone : s.mem.buffers[1].isQueued = false := other
    rw [zero, one, qzero, qone, if_neg nofun, if_neg nofun]
    exact if_pos rfl
  | 1, hk, ho, queued, other =>
    have zero : s.mem.buffers[0].state = .empty := ho
    have one : s.mem.buffers[1].state = .queued n := hk
    have qone : s.mem.buffers[1].isQueued = true := queued
    have qzero : s.mem.buffers[0].isQueued = false := other
    rw [zero, one, qzero, qone, if_neg nofun, if_neg nofun, if_neg nofun, if_pos rfl]

/-- The chunk that a STAGE COMMIT has queued. -/
structure ChunkQueued (k : Fin 2) (u : Upload) (s t : State) : Prop where
  upload : t.mem.upload = u
  state : t.mem.buffers[k].state = .queued s.mem.nextCommit
  samples : t.mem.buffers[k].samples = s.mem.buffers[k].samples
  part : t.mem.buffers[k].part = s.mem.buffers[k].part
  other : t.mem.buffers[otherBuffer k] = s.mem.buffers[otherBuffer k]
  nextCommit : t.mem.nextCommit = s.mem.nextCommit + 1

theorem queueChunk_queued (k : Fin 2) (u : Upload) (s : State) : ChunkQueued k u s (queueChunk k u s) := by
  have buffers : (queueChunk k u s).mem.buffers = updAt s.mem.buffers k fun b =>
    { b with state := .queued s.mem.nextCommit, first := (b.samples.head?.map fun x => x.offset).getD 0, last := none } := rfl
  refine ⟨rfl, ?_, ?_, ?_, ?_, rfl⟩
  · rw [buffers, updAt_same]
  · rw [buffers, updAt_same]
  · rw [buffers, updAt_same]
  · rw [buffers, updAt_other (otherBuffer_ne k).symm]

end Sys2Proof.Machine
end

section
/-! PROOFS. What TAKE OPEN, STAGE COMMIT, TAKE CLOSE and TAKE DISCARD leave at the end of the command (O60). -/

namespace Sys2Proof.Machine

open Sys2Proof

section Ends

variable {rx : Rx} {i : SlotNo} {s : State}

/-- R92: the slot of an upload that has been opened. -/
theorem replied_openSlot (a : OpenArgs) (hs : s.mem.op.isSome = true ∨ ArrayIdle s) :
    let t := replied rx Answer.done (openSlot i a s)
    t.mem.slots[i].state = .uploading ∧ t.mem.slots[i].header = some (openHeader a) ∧ t.mem.slots[i].blocks = [] ∧
      t.mem.slots[i].locked = false ∧ t.mem.upload = { nextOffset := 0, spanOpen := false } ∧
      (∀ k : Fin 2, t.mem.buffers[k].state = .empty) ∧
      (s.mem.op.isSome = true → Reserved.dir i ∈ t.mem.reservedQueue) ∧
      (ArrayIdle s → t.mem.reservedQueue = [] ∧ t.mem.op = some (.reserved (.dir i
        { state := .uploading, header := t.mem.slots[i].header }
        (s.mem.slots[i].released.map fun b => (b, s.mem.blocks[b].state))))) := by
  intro t
  have ended : DirEnd i s (openSlot i a s) t := replied_dirQueued (openSlot_queued i a s) Answer.done hs
  have own : (openSlot i a s).mem.slots[i] = s.mem.slots[i].opened a := by
    rw [openSlot_eq, State.setMem_mem, updAt_same]
  have slot := ended.slot
  rw [own] at slot
  have header : t.mem.slots[i].header = some (openHeader a) := by rw [slot]; rfl
  refine ⟨by rw [slot]; rfl, header, by rw [slot]; rfl, by rw [slot]; rfl, ?_, fun k => ?_, fun ho => (ended.busy ho).1,
    fun idle => ?_⟩
  · rw [ended.upload, openSlot_eq]
    rfl
  · rw [ended.buffers, openSlot_eq, State.setMem_mem, Fin.getElem_fin, Vector.getElem_replicate]
    rfl
  · obtain ⟨hw, hop⟩ := ended.idle idle
    refine ⟨hw, hop.trans ?_⟩
    rw [header, State.dirWrite, own, openSlot_eq]
    rfl

/-- R96: the slot of an upload that has been closed. -/
theorem replied_closeSlot {h : Header} (hh : s.mem.slots[i].header = some h) (spanOpen : Bool)
    (hs : s.mem.op.isSome = true ∨ ArrayIdle s) :
    let t := replied rx Answer.done (completeSlot i (fun h => { h with impliedResume := spanOpen }) s)
    t.mem.slots[i].state = .complete ∧ t.mem.slots[i].header = some { h with impliedResume := spanOpen } ∧
      t.mem.slots[i].locked = true ∧ t.mem.slots[i].openLocked = true ∧ t.mem.slots[i].down = false ∧
      (s.mem.op.isSome = true → Reserved.dir i ∈ t.mem.reservedQueue) ∧
      (ArrayIdle s → t.mem.reservedQueue = [] ∧ t.mem.op = some (.reserved (.dir i
        { state := .complete, header := t.mem.slots[i].header }
        (s.mem.slots[i].released.map fun b => (b, s.mem.blocks[b].state))))) := by
  intro t
  have ended : DirEnd i s (completeSlot i (fun h => { h with impliedResume := spanOpen }) s) t :=
    replied_dirQueued (completeSlot_queued i _ s) Answer.done hs
  have own : (completeSlot i (fun h => { h with impliedResume := spanOpen }) s).mem.slots[i] =
      s.mem.slots[i].completed fun h => { h with impliedResume := spanOpen } :=
    (completeSlot_slot i i _ s).trans (if_pos rfl)
  have slot := ended.slot
  rw [own] at slot
  have header : t.mem.slots[i].header = some { h with impliedResume := spanOpen } := by
    rw [slot, Slot.completed, hh]
    rfl
  refine ⟨by rw [slot]; rfl, header, by rw [slot]; rfl, by rw [slot]; rfl, by rw [slot]; rfl,
    fun ho => (ended.busy ho).1, fun idle => ?_⟩
  obtain ⟨hw, hop⟩ := ended.idle idle
  refine ⟨hw, hop.trans ?_⟩
  rw [header, State.dirWrite, own, Slot.completed, hh, completeSlot_eq]
  rfl

/-- R97: the slot, the blocks, the buffers and the part in progress of an upload that has been discarded. -/
theorem replied_discardUpload (hu : s.uploadSlot = some i) (hs : s.mem.op.isSome = true ∨ ArrayIdle s) :
    let t := replied rx Answer.done (discardUpload s)
    t.mem.slots[i].state = .empty ∧ t.mem.slots[i].header = none ∧ t.mem.slots[i].blocks = [] ∧
      (s.mem.op.isSome = true → Reserved.dir i ∈ t.mem.reservedQueue) ∧
      (∀ b k n live, s.mem.op = some (.chunkPart i b k n live) → t.mem.op = some (.chunkPart i b k n false)) ∧
      (ArrayIdle s → t.mem.reservedQueue = [] ∧ t.mem.op = some (.reserved (.dir i { state := .empty, header := none }
        ((s.mem.slots[i].released ++ s.mem.slots[i].blocks).map fun b => (b, t.mem.blocks[b].state))))) ∧
      (s.mem.slots[i].blocks.Nodup → ∀ b ∈ s.mem.slots[i].blocks, ∀ place retire,
        s.mem.blocks[b].state = .used i place retire → t.mem.blocks[b].state = if retire then .bad else .dirty) ∧
      ∀ k : Fin 2, t.mem.buffers[k].state = .empty ∧ t.mem.buffers[k].samples = [] := by
  intro t
  have ended : DirEnd i s (discardUpload s) t := replied_dirQueued (discardUpload_queued hu) Answer.done hs
  obtain ⟨v, hv, he⟩ := discardUpload_eq hu
  have own : (discardUpload s).mem.slots[i] = s.mem.slots[i].emptied := by rw [he, State.setMem_mem, updAt_same]
  have slot := ended.slot
  rw [own] at slot
  have blocks : t.mem.blocks = v := by rw [ended.blocks, he]; rfl
  refine ⟨by rw [slot]; rfl, by rw [slot]; rfl, by rw [slot]; rfl, fun ho => (ended.busy ho).1, fun b k n live ho => ?_,
    fun idle => ?_, fun hn b hb place retire hst => ?_, fun k => ?_⟩
  · rw [(ended.busy (by rw [ho]; rfl)).2, he, State.setMem_mem, ho]
    rfl
  · obtain ⟨hw, hop⟩ := ended.idle idle
    refine ⟨hw, hop.trans ?_⟩
    rw [State.dirWrite, own, ended.blocks]
    rfl
  · rw [blocks, hv.once hn b hb, hst]
    exact released_used i place retire
  · rw [ended.buffers, he, State.setMem_mem, Fin.getElem_fin, Vector.getElem_replicate]
    exact ⟨rfl, rfl⟩

/-- R94: a committed chunk waits while the array is busy. -/
theorem replied_queueChunk_busy (k : Fin 2) (u : Upload) (ho : s.mem.op.isSome = true) :
    ChunkQueued k u s (replied rx Answer.accepted (queueChunk k u s)) := by
  have queued := queueChunk_queued k u s
  have mem := (replied_busy (s := queueChunk k u s) ho rx Answer.accepted).1
  exact ⟨by rw [mem, queued.upload], by rw [mem, queued.state], by rw [mem, queued.samples], by rw [mem, queued.part],
    by rw [mem, queued.other], by rw [mem, queued.nextCommit]⟩

/-- R81, R94: an idle array programs a committed chunk at once. -/
theorem replied_queueChunk_idle {k : Fin 2} {b : BlockNo} {n : Nat} (u : Upload) (hu : s.uploadSlot = some i) (idle : ArrayIdle s)
    (he : s.mem.buffers[otherBuffer k].state = .empty) (hl : s.lastRoom i = some (b, n + 1)) :
    let t := replied rx Answer.accepted (queueChunk k u s)
    t.mem.upload = u ∧ t.mem.buffers[k].state = .programming ∧ t.mem.buffers[k].samples = s.mem.buffers[k].samples ∧
      t.mem.op = some (.chunkPart i b k (min (n + 1) (s.mem.buffers[k].part.getD s.mem.buffers[k].samples.length)) true) := by
  obtain ⟨hst, ho, hw, hq, hr⟩ := idle
  have queued := queueChunk_queued k u s
  have pushed := pushReply_frame rx.port (Answer.accepted.reply rx.tag .ordinary) (queueChunk k u s)
  intro t
  have whole : t = pump (schedule (pushReply rx.port (Answer.accepted.reply rx.tag .ordinary) (queueChunk k u s))) := rfl
  generalize pushReply rx.port (Answer.accepted.reply rx.tag .ordinary) (queueChunk k u s) = v at pushed whole
  have slots : v.mem.slots = s.mem.slots := by rw [pushed.mem]; rfl
  have blocks : v.mem.blocks = s.mem.blocks := by rw [pushed.mem]; rfl
  have upload : v.uploadSlot = some i := by rw [State.uploadSlot, slots]; exact hu
  have room : v.lastRoom i = some (b, n + 1) := by rw [State.lastRoom, slots, blocks]; exact hl
  have reads : v.playWantsRead = false := by
    unfold State.playWantsRead
    rw [pushed.play]
    exact hr
  have buffer : v.chunkBuffer = some k :=
    chunkBuffer_only (n := s.mem.nextCommit) (by rw [pushed.mem]; exact queued.state)
      (by rw [pushed.mem, queued.other]; exact he)
  have chosen := schedule_chunk (s := v) (by rw [pushed.starting]; exact hst) (by rw [pushed.mem]; exact ho) reads
    (by rw [pushed.recorder]; exact congrArg List.length hq) (by rw [pushed.mem]; exact hw) upload buffer (placeNext_last room)
  rw [pushed.mem, queued.part, queued.samples] at chosen
  have mem : t.mem = { v.mem with
      op := some (.chunkPart i b k (min (n + 1) (s.mem.buffers[k].part.getD s.mem.buffers[k].samples.length)) true),
      buffers := updAt v.mem.buffers k fun b => { b with state := .programming } } := by
    rw [whole, (pump_frame _).mem, chosen]
    rfl
  refine ⟨by rw [mem, pushed.mem]; exact queued.upload, ?_, ?_, by rw [mem]⟩
  · rw [mem, updAt_same]
  · rw [mem, updAt_same, pushed.mem]
    exact queued.samples

end Ends

/-- Settles O60: the chunk check, and the rows of each request in their order with what each leaves. -/
theorem uploadRequests : Obligations.UploadRequests := by
  unfold Obligations.UploadRequests
  refine ⟨fun lanes u xs => ⟨fun v => checkChunk_ok_iff, fun n => ?_⟩, fun i h s => uploadLanes_eq, fun rx i s h => ?_⟩
  · rw [checkChunk_error_iff]
    exact ⟨fun ⟨m, e, hm⟩ => by rw [e, Nat.zero_add]; exact hm, fun hn => ⟨n, (Nat.zero_add n).symm, hn⟩⟩
  have run : ∀ {α : Type} {judge : α → Judge} {a : α} {s1 ans}, judge a (noteValid rx s) = (s1, some ans) →
      Host.Outcome.next (settle (takeRequest rx (.fields a) (fun a => forMotion rx.port (judge a)) s)) =
        (.next (replied rx ans s1) : Host.Outcome State Fault Refusal) := fun hj =>
    congrArg Host.Outcome.next (takeRequest_motion h hj)
  refine ⟨fun a ha hv => ⟨fun hb => ?_, fun he hr => ?_⟩, fun hu => ⟨fun xs => ?_, ?_, ?_, ?_⟩, fun hu => ⟨fun xs hn hx => ?_,
    fun hk => ?_, fun k hk => ⟨fun n hc => ?_, fun u hc ho => ?_, fun u b n hc idle he hl => ?_⟩, fun hz => ?_,
    fun hz hb => ?_, fun x hz hb hx hs => ?_, fun hs => ?_⟩⟩
  · refine run (judge := judgeTakeOpen) ((judgeTakeOpen_at (s := noteValid rx s) ha hv).trans (if_pos ?_))
    rw [Bool.not_eq_true', Bool.eq_false_iff, Ne, slotFree_iff]
    rintro ⟨h1, h2⟩
    exact hb.elim (fun h => h h1) fun h => h2.elim (fun hn => hn h.1) fun hn => hn h.2
  · have judged := judgeTakeOpen_free (s := noteValid rx s) ha hv (slotFree_iff.mpr ⟨he, hr⟩)
    refine ⟨fun hu => ?_, fun hu hf => ?_, fun hu hf hs => ?_⟩
    · exact run (judge := judgeTakeOpen) (judged.trans (if_pos (Option.isSome_iff_ne_none.mpr hu)))
    all_goals
      have notBusy : ¬ (noteValid rx s).uploadSlot.isSome = true := by
        change ¬ s.uploadSlot.isSome = true
        rw [hu]
        nofun
      rw [if_neg notBusy] at judged
    · refine run (judge := judgeTakeOpen) (judged.trans (if_pos ?_))
      rw [(lowestFree_none (s := noteValid rx s)).mpr hf]
      rfl
    · have room : ¬ (noteValid rx s).lowestFree.isNone = true := by
        rw [Option.isNone_iff_eq_none, lowestFree_none]
        exact fun hn => hf.elim hn
      exact ⟨_, run (judge := judgeTakeOpen) (judged.trans (if_neg room)), replied_openSlot (s := noteValid rx s) a hs⟩
  · exact run (judge := judgeStage) (if_pos (by change s.uploadSlot.isNone = true; rw [hu]; rfl))
  · exact run (judge := judgeStageCommit) (judgeStageCommit_refused (.inl hu))
  · refine run (judge := judgeTakeClose) ?_
    unfold judgeTakeClose
    rw [show (noteValid rx s).uploadSlot = none from hu]
    rfl
  · exact run (judge := judgeTakeDiscard) (if_pos (by change s.uploadSlot.isNone = true; rw [hu]; rfl))
  · refine ⟨fun hk => run (judge := judgeStage) (judgeStage_busy (s := noteValid rx s) hu hn hx hk), fun k hk => ?_⟩
    have judged := judgeStage_target (s := noteValid rx s) hu hn hx hk
    exact ⟨fun hl => run (judge := judgeStage) (judged.trans (if_pos hl)),
      fun hl => run (judge := judgeStage) (judged.trans (if_neg (Nat.not_lt.mpr hl)))⟩
  · exact run (judge := judgeStageCommit) (judgeStageCommit_refused (.inr hk))
  · exact run (judge := judgeStageCommit) (judgeStageCommit_error (s := noteValid rx s) hu hk hc)
  · have taken := run (judge := judgeStageCommit) (judgeStageCommit_ok (s := noteValid rx s) hu hk hc)
    have queued := replied_queueChunk_busy (rx := rx) (s := noteValid rx s) k u ho
    exact ⟨checkChunk_next hc, _, taken, queued.upload, queued.state, queued.samples, queued.nextCommit⟩
  · have taken := run (judge := judgeStageCommit) (judgeStageCommit_ok (s := noteValid rx s) hu hk hc)
    exact ⟨_, taken, replied_queueChunk_idle (s := noteValid rx s) u hu idle he hl⟩
  · exact run (judge := judgeTakeClose) ((judgeTakeClose_at (s := noteValid rx s) hu).trans (if_pos hz))
  · exact run (judge := judgeTakeClose) ((judgeTakeClose_at (s := noteValid rx s) hu).trans
      ((if_neg hz).trans (if_pos (bothEmpty_iff.mpr hb))))
  · have allEmpty : ¬ ((noteValid rx s).mem.buffers[0].state ≠ .empty ∨ (noteValid rx s).mem.buffers[1].state ≠ .empty) := by
      rw [bothEmpty_iff]
      exact fun ⟨k, hk⟩ => hk (hb k)
    exact ⟨_, run (judge := judgeTakeClose) ((judgeTakeClose_at (s := noteValid rx s) hu).trans
      ((if_neg hz).trans (if_neg allEmpty))), replied_closeSlot (s := noteValid rx s) hx _ hs⟩
  · have some : ¬ (noteValid rx s).uploadSlot.isNone = true := by
      change ¬ s.uploadSlot.isNone = true
      rw [hu]
      nofun
    exact ⟨_, run (judge := judgeTakeDiscard) (if_neg some), replied_discardUpload (s := noteValid rx s) hu hs⟩

end Sys2Proof.Machine
end

section
/-! PROOFS. The Recorder's work with a tick and at a frame start (O57, R105 to R107, R109). -/

namespace Sys2Proof.Machine

open Sys2Proof

/-! ### The sample composed with a tick (R106, R107) -/

/-- The Recorder with the sample of the present step in its write queue. -/
def Recorder.composedAt (r : Recorder) (lanes : Vector LaneRec 12) : Recorder :=
  { r with
    composed := r.composed + 1
    marks := Marks.none
    spanOpen := spanAfter r.spanOpen r.marks
    queue := r.queue ++
      [{ offset := r.composed, marks := r.marks, pos := (LaneSet.members r.lanes).map fun l => lanes[l].p }] }

theorem dropMarks_none {r : Recorder} (h : r.marks = Marks.none) : dropMarks r = r := by
  rw [dropMarks, h, show Marks.none.any = false from rfl, Bool.or_false, ← h]

theorem recordEnds_draining {s : State} (h : s.recorder.state = .recording) (hq : s.recorder.queue ≠ []) (o : RecOutcome) :
    recordEnds o s = s.setRecorder { dropMarks s.recorder with state := .draining, outcome := some o, endPending := false } := by
  rw [recordEnds, h]
  exact drainFinish_stays (.inr hq)

section Compose

variable {s : State} (hs : s.recorder.state = .recording)

include hs

theorem composeSample_joins (hq : s.recorder.queue.length < 8) (hc : s.recorder.composed + 1 ≠ 65535) :
    composeSample s = s.setRecorder (s.recorder.composedAt s.lanes) := by
  unfold composeSample
  dsimp only
  rw [if_neg (not_not.mpr hs), if_pos hq, if_neg hc]
  rfl

theorem composeSample_last (hq : s.recorder.queue.length < 8) (hc : s.recorder.composed + 1 = 65535) :
    composeSample s = s.setRecorder { s.recorder.composedAt s.lanes with
      state := .draining, outcome := some .length, endPending := false } := by
  have ends := recordEnds_draining (s := s.setRecorder (s.recorder.composedAt s.lanes)) hs
    (List.append_ne_nil_of_right_ne_nil _ (List.cons_ne_nil _ _)) .length
  unfold composeSample
  dsimp only
  rw [if_neg (not_not.mpr hs), if_pos hq, if_pos hc]
  refine Eq.trans ends ?_
  rw [State.setRecorder_recorder, dropMarks_none rfl]
  rfl

theorem composeSample_overrun (hq : 8 ≤ s.recorder.queue.length) : composeSample s =
    s.setRecorder { dropMarks s.recorder with state := .draining, outcome := some .overrun, endPending := false } := by
  unfold composeSample
  dsimp only
  rw [if_neg (not_not.mpr hs), if_neg (by omega)]
  exact recordEnds_draining hs (List.ne_nil_of_length_pos (by omega)) .overrun

/-- Composing changes the Recorder alone. -/
theorem composeSample_mem : (composeSample s).mem = s.mem := by
  by_cases hq : s.recorder.queue.length < 8
  · by_cases hc : s.recorder.composed + 1 = 65535
    · rw [composeSample_last hs hq hc]
      rfl
    · rw [composeSample_joins hs hq hc]
      rfl
  · rw [composeSample_overrun hs (by omega)]
    rfl

end Compose

/-! ### What a tick leaves of the Recorder -/

/-- The Recorder as it was, with the array at work. -/
def RecHeld (r : Recorder) (s : State) : Prop := s.recorder = r ∧ s.mem.op.isSome = true

theorem dropRead_isSome (p : ReadDest → Bool) (op : Option ArrayOp) : (dropRead p op).isSome = op.isSome := by
  unfold dropRead
  split <;> rfl

theorem SameButQueues.recHeld {s t : State} {r : Recorder} (f : SameButQueues s t) (h : RecHeld r s) : RecHeld r t := by
  unfold RecHeld
  rw [f.recorder, f.mem]
  exact h

theorem keepsPlay_recHeld (r : Recorder) : KeepsPlay (RecHeld r) where
  raise aud body s h := (raiseFor_frame aud body s).recHeld h
  play _ _ _ h := h
  leave l why s h := by
    cases hh : s.grants[l].holder with
    | none => rwa [leaveLane_none hh]
    | some x => exact (leaveLane_frame hh why).recHeld h
  contexts _ h := h
  dropPlay s h := ⟨h.1, (dropRead_isSome _ _).trans h.2⟩

theorem predictedZones_none {s : State} (h : ∀ z : ZoneNo, s.safety.zones[z].record = none) (m : Motion) :
    predictedZones s m = [] := by
  unfold predictedZones
  rw [List.filter_eq_nil_iff]
  intro z _
  dsimp only
  rw [h z, Bool.and_false]
  exact Bool.false_ne_true

/-- With no zone in the table a lane step raises no cause. -/
theorem laneStep_recHeld {r : Recorder} {s : State} (hz : ∀ z : ZoneNo, s.safety.zones[z].record = none) (h : RecHeld r s) :
    RecHeld r (laneStep s) := by
  cases hs : s.safety.stop with
  | run => exact (laneStep_runs hs (predictedZones_none hz _)).recHeld h
  | stopping => exact (laneStep_stopping hs).recHeld h
  | stopped => exact (laneStep_rest (.inl hs)).recHeld h
  | releasing => exact (laneStep_rest (.inr hs)).recHeld h

theorem setPower_recHeld {r : Recorder} {s : State} (on : Bool) (h : RecHeld r s) : RecHeld r (setPower on s) := by
  obtain ⟨-, -, hm, -, hr, -⟩ := setPower_keeps on s
  unfold RecHeld
  rw [hr, hm]
  exact h

theorem stoppedTest_recHeld {r : Recorder} {s : State} (h : RecHeld r s) : RecHeld r (stoppedTest s) := by
  have stopped : RecHeld r (changeStop .stopped none none (some .reached)
      (s.setSafety { s.safety with unparkInRamp := false })) :=
    (changeStop_frame .stopped none none (some .reached) (s.setSafety { s.safety with unparkInRamp := false })).recHeld h
  unfold stoppedTest
  dsimp only
  split
  · split
    · exact setPower_recHeld false stopped
    · exact stopped
  · exact h

theorem tickStep_recHeld {r : Recorder} {s : State} (hz : ∀ z : ZoneNo, s.safety.zones[z].record = none) (h : RecHeld r s) :
    RecHeld r (tickStep s) := by
  have keeps := keepsPlay_recHeld r
  have before : RecHeld r (playBefore s) := keeps.playBefore h
  exact keeps.playAfter (stoppedTest_recHeld (laneStep_recHeld (by rw [(playBefore_frame s).safety]; exact hz) before))

/-- The recording's sample of a tick (f, 0), with no drive failing and no zone in the table. -/
theorem tickWork_composes {s : State} (hn : NoDriveFails s) (hz : ∀ z : ZoneNo, s.safety.zones[z].record = none)
    (ht : s.tb.t = 0) (hr : s.recorder.state = .recording) (ho : s.mem.op.isSome = true) :
    ∃ u, u.recorder = s.recorder ∧ u.lanes = (tickWork s).lanes ∧ (tickWork s).recorder = (composeSample u).recorder ∧
      (tickWork s).mem.op.isSome = true := by
  obtain ⟨recorder, op⟩ := tickStep_recHeld hz ⟨rfl, ho⟩
  have zones : ∀ z : ZoneNo, (exchanged s).safety.zones[z].record = none := fun z => by rw [exchanged_zones]; exact hz z
  have judged := evaluateZones_none zones
  have frame := exchanged_frame s
  have before : beforeExchange s = composeSample (tickStep s) := if_pos ht
  have taken : exchangeTick (beforeExchange s) = exchangeAll ((beforeExchange s).setDrives
    { (beforeExchange s).drives with
      channels := mapAll (beforeExchange s).drives.channels fun l c =>
        if (beforeExchange s).exchangeOpen l then missNoted c else c }) := congrArg exchangeAll (calm_misses hn)
  refine ⟨tickStep s, recorder, ?_, ?_, ?_⟩
  · rw [tickWork_lanes]
    exact (playAfter_frame _).frame.lanes.trans (stoppedTest_lanes _)
  · rw [tickWork_eq, judged.recorder, State.setSafety_recorder, frame.recorder, taken, ← before]
    rfl
  · rw [tickWork_eq, judged.mem, State.setSafety_mem, frame.mem, taken]
    change (beforeExchange s).mem.op.isSome = true
    rw [before, composeSample_mem (by rw [recorder]; exact hr)]
    exact op

/-! ### The frame start (R105, R109) -/

theorem recorderFrame_runs {s : State} (h : s.recorder.state = .recording) (he : s.recorder.endPending = false) :
    recorderFrame s = s := by
  unfold recorderFrame
  rw [h]
  dsimp only
  rw [if_neg (by rw [he]; exact Bool.false_ne_true)]

theorem recorderFrame_later {s : State} (h : s.recorder.state = .armed) (hf : s.recorder.startFrame ≠ some s.tb.f) :
    recorderFrame s = s := by
  unfold recorderFrame
  rw [h]
  dsimp only
  split
  · next f i hf' hi => exact if_neg fun e => hf (by rw [hf', e])
  · rfl

theorem recorderFrame_starts {s : State} {i : SlotNo} (h : s.recorder.state = .armed)
    (hf : s.recorder.startFrame = some s.tb.f) (hi : s.recorder.slot = some i) : recorderFrame s = recordStart i s := by
  unfold recorderFrame
  rw [h, hf, hi]
  exact if_pos rfl

theorem recorderFrame_drains {s : State} (h : s.recorder.state = .recording) (he : s.recorder.endPending = true) :
    recorderFrame s = drainFinish (s.setRecorder { s.recorder with
      state := .draining, outcome := some .done, endPending := false }) := by
  unfold recorderFrame
  rw [h]
  exact if_pos he

/-- The slot of a recording that has started (R105). -/
def Slot.recordingIn (s : State) (x : Slot) : Slot :=
  { x with
    state := .recording
    header := some { name := s.recorder.name, lanes := s.recorder.lanes, n := s.tb.n, period := s.tb.workingPeriod,
                     referenced := s.tb.mode = .referenced, lensTag := s.recorder.lensTag, length := 0,
                     interrupted := false, impliedResume := false }
    blocks := []
    locked := false
    down := false
    openLocked := false }

theorem recordStart_lost {i : SlotNo} {s : State} (h : s.recorder.state = .armed) (hm : s.tb.mode = .referenced)
    (hl : s.tb.lock = .search) : (recordStart i s).recorder = Recorder.reset ∧ (recordStart i s).mem = s.mem := by
  have lost : recordStart i s = recordEnds .referenceLost s := if_pos (by rw [hm, hl]; rfl)
  rw [lost, recordEnds, h]
  exact ⟨rfl, rfl⟩

/-- R105: what the start of a recording leaves. -/
structure RecordingStarted (i : SlotNo) (s t : State) : Prop where
  recorder : t.recorder = { s.recorder with state := .recording, fStart := some s.tb.f }
  waits : Reserved.dir i ∈ t.mem.reservedQueue
  other : ∀ j : SlotNo, j ≠ i → t.mem.slots[j] = s.mem.slots[j]
  slot : t.mem.slots[i] = s.mem.slots[i].recordingIn s

theorem recordStart_started {i : SlotNo} {s : State} (h : s.tb.mode ≠ .referenced ∨ s.tb.lock ≠ .search) :
    RecordingStarted i s (recordStart i s) := by
  have trusted : ¬ (decide (s.tb.mode = .referenced) && decide (s.tb.lock = .search)) = true := by
    rw [Bool.and_eq_true, decide_eq_true_eq, decide_eq_true_eq]
    exact fun e => h.elim (fun hn => hn e.1) fun hn => hn e.2
  have started : ∃ body, recordStart i s = raiseMotion body (queueDir i
      ((s.setRecorder { s.recorder with state := .recording, fStart := some s.tb.f }).setSlot i (Slot.recordingIn s))) :=
    ⟨_, if_neg trusted⟩
  obtain ⟨body, e⟩ := started
  rw [e, queueDir_eq]
  refine ⟨rfl, mem_enqueued _ _, fun j hj => ?_, ?_⟩
  · exact updAt_other hj.symm
  · exact updAt_same _ _ _

end Sys2Proof.Machine
end

section
/-! PROOFS. RECORD, MARK and RECORD END (O57, R104, R108, R109), and the statement. -/

namespace Sys2Proof.Machine

open Sys2Proof

/-! ### The end of a recording that had its end pending (R109, R110) -/

theorem drainFinish_done {i : SlotNo} {s : State} {r : Recorder} {h : Header} (hs : r.state = .draining) (hq : r.queue = [])
    (hi : r.slot = some i) (ho : r.outcome = some .done) (hh : s.mem.slots[i].header = some h) :
    let t := drainFinish (s.setRecorder r)
    t.recorder = Recorder.reset ∧ Reserved.dir i ∈ t.mem.reservedQueue ∧
      (h.length ≠ 0 → t.mem.slots[i] =
        s.mem.slots[i].completed fun h => { h with interrupted := false, impliedResume := r.spanOpen }) ∧
      (h.length = 0 → t.mem.slots[i] = s.mem.slots[i].emptied) := by
  have drained : (decide (r.state = .draining) && r.queue.isEmpty) = true := by rw [hs, hq]; rfl
  have length : (s.setRecorder r).mem.slots[i].length = h.length := by
    change s.mem.slots[i].length = _
    rw [Slot.length, hh]
  dsimp only
  unfold drainFinish
  rw [State.setRecorder_recorder, if_pos drained, hi]
  dsimp only
  rw [ho, length]
  by_cases hl : h.length = 0
  · rw [if_pos hl]
    obtain ⟨v, -, he⟩ := emptySlot_eq i (s.setRecorder r)
    refine ⟨rfl, ?_, fun hn => absurd hl hn, fun _ => (emptySlot_slot i i (s.setRecorder r)).trans (if_pos rfl)⟩
    rw [he]
    exact mem_enqueued _ _
  · rw [if_neg hl]
    refine ⟨rfl, ?_, fun _ => (completeSlot_slot i i _ (s.setRecorder r)).trans (if_pos rfl), fun hn => absurd hn hl⟩
    rw [completeSlot_eq]
    exact mem_enqueued _ _

/-- With no end pending the drain clears none. -/
theorem ending_outcome {r : Recorder} (h : r.endPending = false) (o : Option RecOutcome) :
    { r with state := .draining, outcome := o, endPending := false } = { r with state := .draining, outcome := o } := by
  rw [← h]

/-! ### Judgements -/

section Judge

variable {s : State} {i : SlotNo} {a : RecordArgs}

theorem untrusted_iff (b : Timebase) : b.untrusted = true ↔ b.mode = .referenced ∧ b.lock = .search := by
  rw [Timebase.untrusted, Bool.and_eq_true, decide_eq_true_eq, decide_eq_true_eq]

theorem recActive_iff (s : State) : s.recActive = true ↔ s.recorder.state ≠ .idle := decide_eq_true_iff

theorem judgeRecord_at (ha : a.slot = i.val) (hv : s.recordValid a = true) : judgeRecord a s =
    if !s.rig.record.frozen then refuse .unfrozen s
    else if s.recActive then refuse .wrongState s
    else if s.mem.slots[i].state ≠ .empty then refuse .wrongState s
    else if s.tb.untrusted then refuse .wrongState s
    else if s.lowestFree.isNone then refuse .noRoom s
    else accept (armRecorder i a s) := by
  unfold judgeRecord
  rw [ha, slotOf_val]
  dsimp only
  rw [hv, if_neg (show ¬ (!true) = true by nofun)]

theorem judgeRecord_unfrozen (ha : a.slot = i.val) (hv : s.recordValid a = true) (hf : s.rig.record.frozen = false) :
    judgeRecord a s = refuse .unfrozen s := by
  rw [judgeRecord_at ha hv, hf]
  rfl

theorem judgeRecord_wrongState (ha : a.slot = i.val) (hv : s.recordValid a = true) (hf : s.rig.record.frozen = true)
    (hw : s.recorder.state ≠ .idle ∨ s.mem.slots[i].state ≠ .empty ∨ (s.tb.mode = .referenced ∧ s.tb.lock = .search)) :
    judgeRecord a s = refuse .wrongState s := by
  rw [judgeRecord_at ha hv, hf, if_neg (show ¬ (!true) = true by nofun)]
  rcases hw with h | h | h
  · rw [if_pos ((recActive_iff s).mpr h)]
  · rw [if_pos h, ite_self]
  · rw [if_pos ((untrusted_iff s.tb).mpr h), ite_self, ite_self]

theorem judgeRecord_free (ha : a.slot = i.val) (hv : s.recordValid a = true) (hf : s.rig.record.frozen = true)
    (hr : s.recorder.state = .idle) (he : s.mem.slots[i].state = .empty)
    (ht : s.tb.mode ≠ .referenced ∨ s.tb.lock ≠ .search) :
    judgeRecord a s = if s.lowestFree.isNone then refuse .noRoom s else accept (armRecorder i a s) := by
  have trusted : ¬ s.tb.untrusted = true := by
    rw [untrusted_iff]
    exact fun e => ht.elim (fun hn => hn e.1) fun hn => hn e.2
  rw [judgeRecord_at ha hv, hf, if_neg (show ¬ (!true) = true by nofun), if_neg (mt (recActive_iff s).mp (not_not.mpr hr)),
    if_neg (not_not.mpr he), if_neg trusted]

theorem judgeRecord_bad (h : 32 ≤ a.slot ∨ ∃ f, a.start = some f ∧ f ≤ s.tb.f) : judgeRecord a s = refuse .badValue s := by
  unfold judgeRecord
  rcases h with h | ⟨f, hf, hl⟩
  · rw [slotOf_beyond h]
  · cases slotOf a.slot with
    | none => rfl
    | some i =>
      refine if_pos ?_
      have late : s.tb.startValid a.start = false := by
        rw [hf]
        exact decide_eq_false (by omega)
      rw [State.recordValid, late, Bool.and_false]
      rfl

theorem judgeMark_closed (k : MarkKind)
    (h : s.recorder.state = .idle ∨ s.recorder.state = .draining ∨ s.recorder.endPending = true) :
    judgeMark k s = refuse .wrongState s := if_pos h

theorem judgeMark_open (k : MarkKind) (hi : s.recorder.state ≠ .idle) (hd : s.recorder.state ≠ .draining)
    (he : s.recorder.endPending = false) : judgeMark k s =
      if !s.recorder.takesMark k then refuse .wrongState s
      else done (s.setRecorder { s.recorder with marks := addMark k s.recorder.marks }) := by
  refine if_neg ?_
  rw [he]
  exact fun h => h.elim hi fun h => h.elim hd nofun

theorem takesMark_defer (r : Recorder) : r.takesMark .defer = true ↔ r.nextSpan = false ∧ r.marks.resume = false := by
  rw [Recorder.takesMark, Bool.and_eq_true, Bool.not_eq_true', Bool.not_eq_true']

theorem takesMark_resume (r : Recorder) : r.takesMark .resume = true ↔ r.nextSpan = true ∧ r.marks.defer = false := by
  rw [Recorder.takesMark, Bool.and_eq_true, Bool.not_eq_true']

theorem judgeRecordEnd_refused (h : s.recorder.state = .idle ∨ s.recorder.state = .draining) :
    judgeRecordEnd () s = refuse .wrongState s := by
  unfold judgeRecordEnd
  rcases h with h | h <;> rw [h]

theorem judgeRecordEnd_armed (h : s.recorder.state = .armed) : judgeRecordEnd () s = done (recordEnds .done s) := by
  unfold judgeRecordEnd
  rw [h]

theorem judgeRecordEnd_recording (h : s.recorder.state = .recording) : judgeRecordEnd () s =
    if s.recorder.endPending then accept s
    else accept (s.setRecorder { dropMarks s.recorder with endPending := true }) := by
  unfold judgeRecordEnd
  rw [h]

end Judge

/-! ### A recording that is armed -/

/-- While nothing waits to be programmed a slot keeps its state through the array's choice. -/
theorem schedules_slotState (i : SlotNo) (x : SlotState) :
    Schedules (fun s => s.recorder.queue = [] ∧ s.mem.slots[i].state = x) (fun s => s.mem.slots[i].state = x) where
  nothing _ h := h.2
  read _ _ _ _ _ h := h.2
  sample _ _ _ _ hq _ h := absurd h.1 hq
  recordNoRoom _ _ _ hq _ h := absurd h.1 hq
  reserved s h := by
    unfold startReserved
    split
    · exact h.2
    · dsimp only
      split
      · rw [setOp, State.setMem_mem, State.setSlot, State.setMem_mem, updAt_get]
        split <;> exact h.2
      · exact h.2
      · exact h.2
  chunk j k s t _ _ hu h := by
    obtain ⟨⟨v, b, n⟩, hp, rfl⟩ := Option.map_eq_some_iff.mp hu
    change v.mem.slots[i].state = x
    rcases placeNext_cases hp with ⟨rfl, -⟩ | ⟨-, rfl, -⟩
    · exact h.2
    · rw [allocate, State.setSlot, State.setMem_mem, updAt_get]
      split <;> exact h.2
  uploadNoRoom j k s _ _ _ h := by
    obtain ⟨hr, hs⟩ := uploadNoRoom_apart j k s
    rw [hr, hs]
    exact h
  erase s _ _ h := by rw [(startErase_apart s).2]; exact h.2

/-- The Recorder armed by a RECORD (R104). -/
def armedRecorder (i : SlotNo) (a : RecordArgs) (s : State) : Recorder :=
  { Recorder.reset with
    state := .armed
    slot := some i
    lanes := a.lanes
    start := some (match a.start with
      | none => .next
      | some f => .frame f)
    startFrame := some (a.start.getD (s.tb.f + 1))
    name := a.name
    lensTag := s.lens.activeTag }

/-- R84: what a suspended erase leaves of the take memory. -/
structure Suspended (s t : State) : Prop where
  mem : t.mem = { s.mem with op := t.mem.op }
  ports : t.ports = s.ports
  recorder : t.recorder = s.recorder
  erase : ∀ b, s.mem.op = some (.erase b) → t.mem.op = some (.suspend b)
  resume : ∀ b again, s.mem.op = some (.resume b again) → t.mem.op = some (.resume b true)

theorem suspendErase_suspended (s : State) : Suspended s (suspendErase s) := by
  obtain ⟨rest, mem, erase, resume, -⟩ := suspendErase_spec s
  have ports := congrArg State.ports rest
  have recorder := congrArg State.recorder rest
  exact ⟨mem, ports, recorder, erase, resume⟩

theorem replied_armed {rx : Rx} {s : State} {i : SlotNo} {a : RecordArgs} (hact : s.isActive rx.port = true)
    (he : s.mem.slots[i].state = .empty) :
    let t := replied rx Answer.accepted (armRecorder i a s)
    t.recorder = armedRecorder i a s ∧ t.mem.slots[i].state = .empty ∧
      (∀ b, s.mem.op = some (.erase b) → t.mem.op = some (.suspend b)) ∧
      (∀ b again, s.mem.op = some (.resume b again) → t.mem.op = some (.resume b true)) ∧
      t.ports[rx.port].replies = s.ports[rx.port].replies ++ [Answer.accepted.reply rx.tag .ordinary] := by
  have suspended := suspendErase_suspended (s.setRecorder (armedRecorder i a s))
  have armed : armRecorder i a s = suspendErase (s.setRecorder (armedRecorder i a s)) := rfl
  rw [armed]
  generalize suspendErase (s.setRecorder (armedRecorder i a s)) = u at suspended
  have slots : u.mem.slots = s.mem.slots := by rw [suspended.mem]; rfl
  have pushed := pushReply_frame rx.port (Answer.accepted.reply rx.tag .ordinary) u
  have busy : ∀ op, u.mem.op = some op → (replied rx Answer.accepted u).mem.op = some op := fun op h => by
    rw [(replied_busy (by rw [h]; rfl) rx _).1, h]
  refine ⟨?_, ?_, fun b hb => busy _ (suspended.erase b hb), fun b again hb => busy _ (suspended.resume b again hb), ?_⟩
  · rw [replied, (endWork_settle _).recorder (by rw [pushed.recorder, suspended.recorder]; rfl), pushed.recorder,
      suspended.recorder]
    rfl
  · exact (schedules_slotState i .empty).settle (fun t h => by rw [(pump_frame t).mem]; exact h)
      ⟨by rw [pushed.recorder, suspended.recorder]; rfl, by rw [pushed.mem, slots]; exact he⟩
  · rw [replied_replies (by rw [State.isActive, suspended.ports]; exact hact), suspended.ports]
    rfl

/-- Settles O57: the rows of each request in their order, the sample composed, and the frame start by the Recorder's state. -/
theorem recorderRequests : Obligations.RecorderRequests := by
  unfold Obligations.RecorderRequests
  refine ⟨fun rx s h => ?_, fun s hs hq hc => composeSample_joins hs hq hc, fun b s hc hl hs he hn hz ho => ?_, fun s => ?_⟩
  · have active : (noteValid rx s).isActive rx.port = true :=
      (noteValid_isActive (rx := rx) (s := s) (p := rx.port)).trans h.1.1
    have record : ∀ {a s1 ans}, judgeRecord a (noteValid rx s) = (s1, some ans) →
        exec (.record rx (.fields a)) s = .next (replied rx ans s1) := fun hj =>
      congrArg Host.Outcome.next (takeRequest_motion h hj)
    have mark : ∀ {k s1 ans}, judgeMark k (noteValid rx s) = (s1, some ans) →
        exec (.mark rx (.fields k)) s = .next (replied rx ans s1) := fun hj =>
      congrArg Host.Outcome.next (takeRequest_motion h hj)
    have recordEnd : ∀ {s1 ans}, judgeRecordEnd () (noteValid rx s) = (s1, some ans) →
        exec (.recordEnd rx (.fields ())) s = .next (replied rx ans s1) := fun hj =>
      congrArg Host.Outcome.next (takeRequest_motion h hj)
    refine ⟨fun i a ha hv => ⟨fun hf => ?_, fun hf hw => ?_, fun hf hr he ht => ⟨fun hb => ?_, fun hb => ?_⟩⟩,
      fun a hb => record (judgeRecord_bad (s := noteValid rx s) hb), fun k hk => mark (judgeMark_closed (s := noteValid rx s) k hk),
      fun hi hd he => ?_, fun hr => recordEnd (judgeRecordEnd_refused (s := noteValid rx s) hr), fun hr => ?_, fun hr => ?_⟩
    · exact record (judgeRecord_unfrozen (s := noteValid rx s) ha hv hf)
    · exact record (judgeRecord_wrongState (s := noteValid rx s) ha hv hf hw)
    · refine record ((judgeRecord_free (s := noteValid rx s) ha hv hf hr he ht).trans (if_pos ?_))
      rw [(lowestFree_none (s := noteValid rx s)).mpr hb]
      rfl
    · have room : ¬ (noteValid rx s).lowestFree.isNone = true := by
        rw [Option.isNone_iff_eq_none, lowestFree_none]
        exact fun hn => hb.elim hn
      obtain ⟨hrec, hslot, herase, hresume, hreply⟩ := replied_armed (rx := rx) (s := noteValid rx s) (a := a) active he
      refine ⟨_, record ((judgeRecord_free (s := noteValid rx s) ha hv hf hr he ht).trans (if_neg room)), ?_, hslot, herase,
        hresume, ?_⟩
      · rw [hrec]
        rfl
      · rw [hreply, noteValid_replies]
    · have judged := fun k => judgeMark_open (s := noteValid rx s) k hi hd he
      have takes : ∀ k, s.recorder.takesMark k = true → judgeMark k (noteValid rx s) =
          done ((noteValid rx s).setRecorder { s.recorder with marks := addMark k s.recorder.marks }) := fun k hk =>
        (judged k).trans (if_neg (by rw [Bool.not_eq_true', Bool.not_eq_false]; exact hk))
      have refuses : ∀ k, ¬ s.recorder.takesMark k = true → judgeMark k (noteValid rx s) = refuse .wrongState (noteValid rx s) :=
        fun k hk => (judged k).trans (if_pos (by rw [Bool.not_eq_true']; exact Bool.eq_false_iff.mpr hk))
      refine ⟨mark (takes .cue rfl), fun hn hm => mark (takes .defer ((takesMark_defer _).mpr ⟨hn, hm⟩)), fun hn => mark
        (refuses .defer fun ht => ?_), fun hn hm => mark (takes .resume ((takesMark_resume _).mpr ⟨hn, hm⟩)), fun hn => mark
        (refuses .resume fun ht => ?_)⟩
      · obtain ⟨h1, h2⟩ := (takesMark_defer _).mp ht
        exact hn.elim (fun e => Bool.false_ne_true (h1.symm.trans e)) fun e => Bool.false_ne_true (h2.symm.trans e)
      · obtain ⟨h1, h2⟩ := (takesMark_resume _).mp ht
        exact hn.elim (fun e => Bool.false_ne_true (e.symm.trans h1)) fun e => Bool.false_ne_true (h2.symm.trans e)
    · have run := recordEnd (judgeRecordEnd_armed (s := noteValid rx s) hr)
      have ended : recordEnds .done (noteValid rx s) =
          recIdle .done 0 false false ((noteValid rx s).setRecorder (dropMarks s.recorder)) := by
        rw [recordEnds, show (noteValid rx s).recorder.state = .armed from hr]
        rfl
      rw [ended] at run
      have pushed := pushReply_frame rx.port (Answer.done.reply rx.tag .ordinary)
        (recIdle .done 0 false false ((noteValid rx s).setRecorder (dropMarks s.recorder)))
      refine ⟨_, run, ?_, fun ho => ?_⟩
      · rw [replied, (endWork_settle _).recorder (by rw [pushed.recorder]; rfl), pushed.recorder]
        rfl
      · exact (replied_busy (s := recIdle .done 0 false false ((noteValid rx s).setRecorder (dropMarks s.recorder))) ho rx _).1
    · have judged := judgeRecordEnd_recording (s := noteValid rx s) hr
      exact ⟨fun he => recordEnd (judged.trans (if_pos he)), fun he =>
        recordEnd (judged.trans (if_neg (by rw [Bool.not_eq_true]; exact he)))⟩
  · rcases hc with ⟨w, -⟩ | ⟨-, hlock, hdone, rfl⟩
    · cases w
    have held : RecHeld s.recorder (openWork s.tb.ownTime s) := by
      rw [openWork_going (applySettings_going fun h h8 => absurd h8 (hl h)),
        recorderFrame_runs (s := s.setTb (s.tb.opened s.tb.ownTime)) hs he]
      exact (keepsPlay_recHeld s.recorder).playbackFrame ⟨rfl, ho⟩
    have start := openWork_tickStart s.tb.ownTime s
    have zero : (openWork s.tb.ownTime s).tb.t = 0 := by rw [start.frame.tb]; rfl
    have zones : ∀ z : ZoneNo, (openWork s.tb.ownTime s).safety.zones[z].record = none := by rw [start.safety]; exact hz
    obtain ⟨v, recorder, lanes, composed, busy⟩ := tickWork_composes
      (noDriveFails_congr start.frame.lanes start.drives hn) zones zero (by rw [held.1]; exact hs) held.2
    rw [held.1] at recorder
    have run : exec .frameStart s = .next (settle (tickWork (openWork s.tb.ownTime s))) :=
      congrArg (fun t => Host.Outcome.next (settle t)) (frameStart_acts hlock ((frameDone_iff _).2 hdone))
    have work := endWork_settle (tickWork (openWork s.tb.ownTime s))
    have whole : (settle (tickWork (openWork s.tb.ownTime s))).recorder = (composeSample v).recorder := by
      rw [settle, (pump_frame _).recorder, schedule_busy (.inr busy), composed]
    have laneEq : v.lanes = (settle (tickWork (openWork s.tb.ownTime s))).lanes := by rw [work.lanes, lanes]
    have state : v.recorder.state = .recording := by rw [recorder]; exact hs
    refine ⟨_, run, settled_tick_tb start, fun hq hcomp => ?_, fun hq hcomp => ?_, fun hq => ?_⟩
    · rw [whole, composeSample_joins state (by rw [recorder]; exact hq) (by rw [recorder]; exact hcomp),
        State.setRecorder_recorder, recorder, laneEq]
      rfl
    · rw [whole, composeSample_last state (by rw [recorder]; exact hq) (by rw [recorder]; exact hcomp),
        State.setRecorder_recorder, recorder, laneEq]
      exact ending_outcome (r := s.recorder.composedAt _) he _
    · rw [whole, composeSample_overrun state (by rw [recorder]; exact hq), State.setRecorder_recorder, recorder]
      exact ending_outcome (r := dropMarks s.recorder) he _
  · refine ⟨fun hr => ?_, fun i ha hf hi => ⟨fun hm hl => ?_, fun ht => ?_⟩, fun i hr he hi => ⟨fun hq => ?_, fun x hq hx => ?_⟩⟩
    · rcases hr with h | h | ⟨h, he⟩ | ⟨h, hf⟩
      · exact recorderFrame_ended (.inl h)
      · exact recorderFrame_ended (.inr h)
      · exact recorderFrame_runs h he
      · exact recorderFrame_later h hf
    · rw [recorderFrame_starts ha hf hi]
      exact recordStart_lost ha hm hl
    · rw [recorderFrame_starts ha hf hi]
      obtain ⟨recorder, waits, other, slot⟩ := recordStart_started (i := i) ht
      exact ⟨recorder, waits, other, slot⟩
    · rw [recorderFrame_drains hr he]
      exact drainFinish_stays (.inr hq)
    · rw [recorderFrame_drains hr he]
      obtain ⟨recorder, waits, complete, emptied⟩ := drainFinish_done (s := s) (i := i)
        (r := { s.recorder with state := .draining, outcome := some .done, endPending := false }) rfl hq hi rfl hx
      refine ⟨recorder, waits, fun hl => ?_, fun hl => ?_⟩
      · rw [complete hl, Slot.completed, hx]
        rfl
      · rw [emptied hl]
        exact ⟨rfl, rfl, rfl, rfl⟩

end Sys2Proof.Machine
end

section
/-! PROOFS. CUE (O58, R115 to R117): the lanes it takes and what it leaves. -/

namespace Sys2Proof.Machine

open Sys2Proof

/-! ### Sets of lanes -/

theorem laneBit : ∀ i l : Lane, (1#16 <<< i.val).getLsbD l.val = decide (l = i) := by decide

theorem has_foldl_pred (f : Lane → Bool) (ls : List Lane) (acc : LaneSet) (l : Lane) :
    LaneSet.has (ls.foldl (fun acc l => if f l then acc ||| (1#16 <<< l.val) else acc) acc) l =
      (LaneSet.has acc l || (decide (l ∈ ls) && f l)) := by
  induction ls generalizing acc with
  | nil => rw [List.foldl_nil, decide_eq_false List.not_mem_nil, Bool.false_and, Bool.or_false]
  | cons i ls ih =>
    have added : LaneSet.has (if f i then acc ||| (1#16 <<< i.val) else acc) l =
        (LaneSet.has acc l || (decide (l = i) && f l)) := by
      unfold LaneSet.has
      by_cases hf : f i = true
      · rw [if_pos hf, BitVec.getLsbD_or, laneBit]
        by_cases hl : l = i
        · rw [hl, hf, Bool.and_true]
        · rw [decide_eq_false hl, Bool.false_and]
      · rw [if_neg hf]
        by_cases hl : l = i
        · rw [hl, Bool.eq_false_iff.mpr hf, Bool.and_false, Bool.or_false]
        · rw [decide_eq_false hl, Bool.false_and, Bool.or_false]
    rw [List.foldl_cons, ih, added, Bool.or_assoc, ← Bool.and_or_distrib_right, ← Bool.decide_or]
    simp only [List.mem_cons]

theorem has_ofPred (f : Lane → Bool) (l : Lane) : LaneSet.has (LaneSet.ofPred f) l = f l := by
  rw [LaneSet.ofPred, has_foldl_pred, decide_eq_true (List.mem_finRange l), Bool.true_and]
  exact (congrArg (· || f l) (BitVec.getLsbD_zero)).trans (Bool.false_or _)

theorem ofPred_eq_zero_iff {f : Lane → Bool} : LaneSet.ofPred f = 0 ↔ ∀ l, f l = false := by
  refine ⟨fun h l => ?_, fun h => ?_⟩
  · rw [← has_ofPred f l, h]
    exact BitVec.getLsbD_zero
  · have none : ∀ ls : List Lane, ls.foldl (fun (acc : LaneSet) l => if f l then acc ||| (1#16 <<< l.val) else acc) 0 = 0 := by
      intro ls
      induction ls with
      | nil => rfl
      | cons i ls ih => rw [List.foldl_cons, h i]; exact ih
    exact none _

theorem mem_members {ls : LaneSet} {l : Lane} : l ∈ LaneSet.members ls ↔ LaneSet.has ls l = true := by
  rw [LaneSet.members, List.mem_filter]
  exact and_iff_right (List.mem_finRange l)

/-! ### The lanes that take part (R116) -/

/-- The lane named takes part in the playback. -/
def State.cueTakes (s : State) (h : Header) (ls : LaneSet) (l : Lane) : Prop :=
  LaneSet.has ls l = true ∧ s.lanes[l].present = true ∧ LaneSet.has h.lanes l = true ∧
    (∀ why, s.lanes[l].condition ≠ .disabled why) ∧ (6 ≤ l.val → l.val ≤ 8 → h.lensTag = s.lens.activeTag)

theorem disabled_iff (c : Condition) : (c = .disabled .driveFault ∨ c = .disabled .followError) ↔ ∃ why, c = .disabled why := by
  refine ⟨fun h => h.elim (fun e => ⟨_, e⟩) fun e => ⟨_, e⟩, fun ⟨why, e⟩ => ?_⟩
  cases why
  · exact .inl e
  · exact .inr e

theorem cueResult_iff (s : State) (h : Header) (l : Lane) : s.cueResult h l.val = .participates ↔
    s.lanes[l].present = true ∧ LaneSet.has h.lanes l = true ∧ (∀ why, s.lanes[l].condition ≠ .disabled why) ∧
      (6 ≤ l.val → l.val ≤ 8 → h.lensTag = s.lens.activeTag) := by
  unfold State.cueResult
  rw [namedLane_val]
  by_cases hp : s.lanes[l].present = true
  · rw [if_pos hp]
    dsimp only
    rw [and_iff_right hp]
    by_cases hh : LaneSet.has h.lanes l = true
    · rw [if_neg (show ¬ (!LaneSet.has h.lanes l) = true by rw [hh]; nofun), and_iff_right hh]
      by_cases hd : s.lanes[l].condition = .disabled .driveFault ∨ s.lanes[l].condition = .disabled .followError
      · rw [if_pos hd]
        obtain ⟨why, e⟩ := (disabled_iff _).mp hd
        exact ⟨nofun, fun hn => absurd e (hn.1 why)⟩
      · rw [if_neg hd, and_iff_right fun why e => hd ((disabled_iff _).mpr ⟨why, e⟩)]
        by_cases ht : (6 ≤ l.val ∧ l.val ≤ 8) ∧ h.lensTag ≠ s.lens.activeTag
        · rw [if_pos ht]
          exact ⟨nofun, fun hn => absurd (hn ht.1.1 ht.1.2) ht.2⟩
        · rw [if_neg ht]
          refine iff_of_true rfl fun h6 h8 => ?_
          by_contra hne
          exact ht ⟨⟨h6, h8⟩, hne⟩
    · rw [if_pos (show (!LaneSet.has h.lanes l) = true by rw [Bool.eq_false_iff.mpr hh]; rfl)]
      exact ⟨nofun, fun hn => absurd hn.1 hh⟩
  · rw [if_neg hp]
    exact ⟨nofun, fun hn => absurd hn.1 hp⟩

theorem has_cueSet (s : State) (h : Header) (ls : LaneSet) (l : Lane) :
    LaneSet.has (s.cueSet h ls) l = true ↔ s.cueTakes h ls l := by
  rw [State.cueSet, has_ofPred, Bool.and_eq_true, decide_eq_true_eq, cueResult_iff, State.cueTakes]

theorem cueSet_eq_zero_iff (s : State) (h : Header) (ls : LaneSet) : s.cueSet h ls = 0 ↔ ∀ l, ¬ s.cueTakes h ls l := by
  rw [State.cueSet, ofPred_eq_zero_iff]
  refine forall_congr' fun l => ?_
  rw [← has_cueSet, State.cueSet, has_ofPred, Bool.not_eq_true]

theorem cueResults_fst (s : State) (h : Header) (ls : LaneSet) : (s.cueResults h ls).map (fun x => x.1) = LaneSet.indices ls := by
  rw [State.cueResults, List.map_map]
  exact List.map_id _

/-- No result says PARTICIPATES where no lane named takes part. -/
theorem cueResults_none {s : State} {h : Header} {ls : LaneSet} (hn : ∀ l, ¬ s.cueTakes h ls l) :
    ∀ x ∈ s.cueResults h ls, x.2 ≠ .participates := by
  intro x hx
  obtain ⟨i, hi, rfl⟩ := List.mem_map.mp hx
  have named : ls.getLsbD i = true := (List.mem_filter.mp hi).2
  rcases Nat.lt_or_ge i 12 with h12 | h12
  · exact fun e => hn ⟨i, h12⟩ ⟨named, (cueResult_iff s h ⟨i, h12⟩).mp e⟩
  · unfold State.cueResult
    dsimp only
    rw [namedLane_beyond s h12]
    nofun

/-! ### The rows of CUE (R115) -/

section Judge

variable {s : State} {i : SlotNo} {a : CueArgs}

theorem judgeCue_bad (hb : 32 ≤ a.slot ∨ a.lanes = 0) : judgeCue a s = refuse .badValue s := by
  unfold judgeCue
  dsimp only
  rcases hb with hb | hb
  · rw [slotOf_beyond hb]
  · cases slotOf a.slot with
    | none => rfl
    | some i => exact if_pos hb

theorem judgeCue_unfrozen (hs : a.slot < 32) (hl : a.lanes ≠ 0) (hf : s.rig.record.frozen = false) :
    judgeCue a s = refuse .unfrozen s := by
  unfold judgeCue
  dsimp only
  rw [slotOf, indexOf_of_lt hs]
  dsimp only
  rw [if_neg hl, hf]
  rfl

/-- The CUE of a slot with a take, once the rig is frozen. -/
theorem judgeCue_frozen (ha : a.slot = i.val) (hl : a.lanes ≠ 0) (hf : s.rig.record.frozen = true) :
    (s.play.state ≠ .idle ∨ s.mem.slots[i].finished = false ∨ s.safety.stop ≠ .run ∨ s.drives.parked = true →
      judgeCue a s = refuse .wrongState s) ∧
    (s.play.state = .idle → s.mem.slots[i].finished = true → s.safety.stop = .run → s.drives.parked = false →
      ∀ h, s.mem.slots[i].header = some h →
      (s.cueSet h a.lanes = 0 →
        judgeCue a s = (s, some { Answer.refused .wrongState with results := s.cueResults h a.lanes })) ∧
      (s.cueSet h a.lanes ≠ 0 → ∃ ans, judgeCue a s = (beginCue i h (s.cueSet h a.lanes)
        (clampNat 0 65536 (a.scale.getD 16384)) (a.endMode.getD .yield) s, some ans))) := by
  have frozen : ¬ (!s.rig.record.frozen) = true := by rw [hf]; nofun
  have playing : s.playActive = true ↔ s.play.state ≠ .idle := decide_eq_true_iff
  unfold judgeCue
  dsimp only
  rw [ha, slotOf_val]
  dsimp only
  rw [if_neg hl, if_neg frozen]
  refine ⟨fun hw => ?_, fun hp hfin hr hpk h hh => ?_⟩
  · split
    · rfl
    · next hp =>
      split
      · rfl
      · next hfin =>
        split
        · rfl
        · next hr =>
          have parked : s.drives.parked = true := by
            rcases hw with h | h | h | h
            · exact absurd (playing.mpr h) hp
            · rw [h] at hfin
              exact absurd rfl hfin
            · exact absurd h hr
            · exact h
          rw [if_pos parked]
  · rw [if_neg (by rw [playing]; exact not_not.mpr hp), if_neg (by rw [hfin]; nofun), if_neg (not_not.mpr hr),
      if_neg (by rw [hpk]; exact Bool.false_ne_true), hh]
    dsimp only
    have scale : (carriedOr 0 fullScale 16384 a.scale).1 = clampNat 0 65536 (a.scale.getD 16384) := by
      cases a.scale <;> rfl
    rw [scale]
    exact ⟨fun hz => if_pos hz, fun hz => ⟨_, if_neg hz⟩⟩

end Judge

/-! ### An accepted CUE (R117) -/

/-- The playback that a CUE begins. -/
def cuedPlay (i : SlotNo) (h : Header) (part : LaneSet) (scale : Nat) (endMode : EndMode) : Playback :=
  { Playback.reset with
    state := .cueing
    slot := some i
    length := some h.length
    participation := part
    endMode := some endMode
    cueScale := some scale
    k := some 0 }

/-- What an accepted CUE leaves. -/
structure CueBegun (s : State) (u : Playback) (t : State) : Prop where
  play : t.play = u
  lanes : t.lanes = s.lanes
  gained : ∀ l : Lane, LaneSet.has u.participation l = true →
    t.grants[l] = s.grants[l].preempted .playback playbackLevel s.lanes[l].p
  other : ∀ l : Lane, ¬ LaneSet.has u.participation l = true → t.grants[l] = s.grants[l]
  erase : ∀ b, s.mem.op = some (.erase b) → t.mem.op = some (.suspend b)
  resume : ∀ b again, s.mem.op = some (.resume b again) → t.mem.op = some (.resume b true)

theorem beginCue_begun (i : SlotNo) (h : Header) (part : LaneSet) (scale : Nat) (endMode : EndMode) (s : State) :
    CueBegun s (cuedPlay i h part scale endMode) (beginCue i h part scale endMode s) := by
  have gained : ∀ l t, SameButQueues ((s.setPlay (cuedPlay i h part scale endMode)).setGrants t.grants) t →
      SameButQueues (t.setGrant l fun g => g.preempted .playback playbackLevel s.lanes[l].p)
        (gainLane l .playback playbackLevel t) := by
    intro l t ht
    have lanes : t.lanes = s.lanes := ht.lanes
    have step := gainLane_frame l .playback playbackLevel t
    rw [lanes] at step
    exact step
  have all := forEach_lanes_list gained (LaneSet.members part) (members_nodup part) (t := s.setPlay (cuedPlay i h part scale endMode))
    (.refl _)
  have run : beginCue i h part scale endMode s = suspendErase (forEach (LaneSet.members part)
    (fun l s => gainLane l .playback playbackLevel s) (s.setPlay (cuedPlay i h part scale endMode))) := rfl
  rw [run]
  generalize forEach (LaneSet.members part) (fun l s => gainLane l .playback playbackLevel s)
    (s.setPlay (cuedPlay i h part scale endMode)) = v at all
  obtain ⟨rest, -, erase, resume, -⟩ := suspendErase_spec v
  have play := congrArg State.play rest
  have lanes := congrArg State.lanes rest
  have grants := congrArg State.grants rest
  rw [State.setMem_play] at play
  rw [State.setMem_lanes] at lanes
  rw [State.setMem_grants] at grants
  have op : v.mem.op = s.mem.op := by rw [all.mem]; rfl
  rw [op] at erase resume
  refine ⟨play.trans all.play, lanes.trans all.lanes, fun l hl => ?_, fun l hl => ?_, erase, resume⟩
  · rw [grants, all.grants, State.setGrants_grants, mapAll_get]
    exact if_pos (mem_members.mpr hl)
  · rw [grants, all.grants, State.setGrants_grants, mapAll_get]
    exact if_neg (mt mem_members.mp hl)

end Sys2Proof.Machine
end

section
/-! PROOFS. ROLL, SEGMENT DONE, UNCUE and the demands supplied (O58, R120, R122, R128 to R130, R132). -/

namespace Sys2Proof.Machine

open Sys2Proof

/-! ### ROLL (R120) -/

theorem judgeRoll_late {s : State} {f : Nat} (h : f ≤ s.tb.f) : judgeRoll (some f) s = refuse .badValue s := by
  refine if_pos ?_
  have late : s.tb.startValid (some f) = false := decide_eq_false (by omega)
  rw [late]
  rfl

theorem judgeRoll_valid {s : State} {start : Option Nat} (h : start = none ∨ ∃ f, start = some f ∧ s.tb.f < f) :
    judgeRoll start s = if s.play.state ≠ .ready ∨ s.tb.untrusted then refuse .wrongState s
      else accept (s.setPlay { s.play with state := .rollArmed, armed := some (start.getD (s.tb.f + 1), 0) }) := by
  have valid : s.tb.startValid start = true := by
    rcases h with rfl | ⟨f, rfl, hf⟩
    · rfl
    · exact decide_eq_true hf
  unfold judgeRoll
  rw [valid, if_neg (show ¬ (!true) = true by nofun)]
  rfl

/-! ### SEGMENT DONE (R129, R130) -/

section Segment

variable {s : State} {r : Nat}

theorem judgeSegmentDone_refused (h : s.play.state ≠ .deferred ∨ s.play.resumeIndex = none) :
    judgeSegmentDone () s = refuse .wrongState s := by
  unfold judgeSegmentDone
  dsimp only
  split
  · rfl
  · next x hx => exact if_pos (.inl (h.resolve_right (by rw [hx]; nofun)))

theorem judgeSegmentDone_apart (hr : s.play.resumeIndex = some r) (hn : s.nearSample r = false) :
    judgeSegmentDone () s = refuse .wrongState s := by
  unfold judgeSegmentDone
  dsimp only
  rw [hr]
  exact if_pos (.inr (by rw [hn]; rfl))

theorem judgeSegmentDone_near {first : Nat} (hd : s.play.state = .deferred) (hr : s.play.resumeIndex = some r)
    (hf : s.play.fRoll = some first) (hn : s.nearSample r = true) :
    judgeSegmentDone () s = if s.tb.f < first + r then done (segmentEarly r s) else done (segmentLate r s) := by
  have near : ¬ (s.play.state ≠ .deferred ∨ (!s.nearSample r) = true) := by
    rw [hn]
    exact fun h => h.elim (fun h => h hd) nofun
  unfold judgeSegmentDone
  dsimp only
  rw [hr]
  dsimp only
  rw [if_neg near, hf]
  rfl

/-- The playback without its segment. -/
def Playback.segmentEnded (u : Playback) : Playback := { u with deferIndex := none, resumeIndex := none, holdPoints := none }

/-- A lane's grant once the contexts of the playback have returned (R128). -/
def State.contextReturned (s : State) (l : Lane) : Grant :=
  if s.participates l then freshPlaybackCtx s.grants[l] else s.grants[l]

/-- What the end of a segment leaves of the playback and of the grants. -/
structure SegmentEnded (s t : State) (u : Playback) : Prop where
  play : t.play = u
  grants : ∀ l : Lane, t.grants[l] = s.contextReturned l
  lens : t.lens = s.lens
  lanes : t.lanes = s.lanes

theorem endSegment_ended (body : EventBody) (s : State) :
    SegmentEnded s (endSegment (raiseMotion body s)) s.play.segmentEnded :=
  ⟨rfl, fun _ => mapAll_get _ _ _, rfl, rfl⟩

theorem segmentEarly_ended {first : Nat} (hf : s.play.fRoll = some first) (r : Nat) :
    SegmentEnded s (segmentEarly r s) { s.play.segmentEnded with state := .rollArmed, armed := some (first + r, r) } := by
  have ended := endSegment_ended (.segmentEnd r false) s
  refine ⟨?_, ended.grants, ended.lens, ended.lanes⟩
  unfold segmentEarly
  dsimp only
  rw [State.setPlay_play, ended.play, Playback.segmentEnded, hf]
  rfl

/-- The playback that rolls on after a late end of its segment (R130). -/
def Playback.rolledOn (u : Playback) (k : Nat) : Playback :=
  { u.segmentEnded with state := .rolling, spoiled := true, k := some k, buffer := u.buffer.filter fun x => k ≤ x.index }

theorem segmentLate_eq {first : Nat} (hf : s.play.fRoll = some first) (r : Nat) : ∃ u, segmentLate r s =
      (if s.play.len ≤ s.tb.f - first then finishPass u else u) ∧
    SegmentEnded s u (s.play.rolledOn (s.tb.f - first)) := by
  have ended := endSegment_ended (.segmentEnd r true) s
  have clock : (endSegment (raiseMotion (.segmentEnd r true) s)).tb = s.tb := rfl
  unfold segmentLate
  dsimp only
  rw [ended.play, clock]
  have first : s.play.segmentEnded.fRoll.getD 0 = first := by rw [Playback.segmentEnded, hf]; rfl
  rw [first]
  exact ⟨_, rfl, rfl, ended.grants, ended.lens, ended.lanes⟩

theorem contextReturned_held {l : Lane} (hp : s.participates l = true) (hg : s.grants[l].heldByPlayback = true) :
    s.contextReturned l = { s.grants[l] with
      holder := s.grants[l].holder.map fun h => { h with ctx := { kind := .abs, d := none, o := 0, trim := 65536 } } } := by
  rw [State.contextReturned, if_pos hp, freshPlaybackCtx, if_pos hg]
  rfl

theorem contextReturned_apart {l : Lane} (hp : s.participates l = false) : s.contextReturned l = s.grants[l] :=
  if_neg (by rw [hp]; exact Bool.false_ne_true)

/-- The next holder is chosen from the stack and the waiting entries alone. -/
theorem chooseNext_fresh (x : Lens) (l : Lane) (p : Int) (g : Grant) :
    chooseNext x l p (freshPlaybackCtx g) = chooseNext x l p g := by
  unfold freshPlaybackCtx
  split
  · rfl
  · rfl

theorem freshPlaybackCtx_held (g : Grant) : (freshPlaybackCtx g).heldByPlayback = g.heldByPlayback := by
  unfold freshPlaybackCtx
  split
  · unfold Grant.heldByPlayback
    cases g.holder <;> rfl
  · rfl

/-- A pass that ends right after its segment leaves the lanes it held. -/
theorem leftByPlayback_returned {u : State} {v : Playback} (h : SegmentEnded s u v) (hv : v.participation = s.play.participation)
    (l : Lane) : u.leftByPlayback l u.grants[l] =
      if s.participates l && s.grants[l].heldByPlayback then chooseNext s.lens l s.lanes[l].p s.grants[l] else s.grants[l] := by
  have part : u.participates l = s.participates l := by rw [State.participates, h.play, hv]; rfl
  rw [State.leftByPlayback, part, h.grants, h.lens, h.lanes, State.contextReturned]
  by_cases hp : s.participates l = true
  · rw [if_pos hp, hp, Bool.true_and, Bool.true_and, freshPlaybackCtx_held, chooseNext_fresh]
    split
    · rfl
    · next hg => rw [freshPlaybackCtx, if_neg hg]
  · rw [if_neg hp, Bool.eq_false_iff.mpr hp, Bool.false_and, if_neg Bool.false_ne_true]

/-- What SEGMENT DONE leaves alone. -/
theorem segmentLate_frame (hd : s.play.state = .deferred) (r : Nat) : PlayFrame s (segmentLate r s) :=
  (keepsPlay_frame s).segmentLate r (by rw [hd]; nofun) ⟨.refl s, rfl, rfl⟩

end Segment

/-! ### Demands (R119, R122, R124, R128) -/

theorem tdiv_between {x n t : Int} (hn : 1 ≤ n) (h0 : 0 ≤ t) (ht : t ≤ n) :
    (0 ≤ x → 0 ≤ Int.tdiv (x * t) n ∧ Int.tdiv (x * t) n ≤ x) ∧ (x ≤ 0 → x ≤ Int.tdiv (x * t) n ∧ Int.tdiv (x * t) n ≤ 0) := by
  have up : ∀ y : Int, 0 ≤ y → 0 ≤ Int.tdiv (y * t) n ∧ Int.tdiv (y * t) n ≤ y := fun y hy => by
    have num : 0 ≤ y * t := Int.mul_nonneg hy h0
    refine ⟨Int.tdiv_nonneg num (by omega), ?_⟩
    rw [Int.tdiv_eq_ediv_of_nonneg num]
    exact Int.ediv_le_of_le_mul (by omega) (Int.mul_le_mul_of_nonneg_left ht hy)
  refine ⟨up x, fun hx => ?_⟩
  have mirrored := up (-x) (by omega)
  rw [Int.neg_mul, Int.neg_tdiv] at mirrored
  omega

theorem interpolate_between {u : Playback} {l : Lane} {k t n : Nat} {a b : Int} (ha : u.posAt k l = some a)
    (hk : k + 1 < u.len) (hb : u.posAt (k + 1) l = some b) :
    u.interpolate l k t n = some (a + Int.tdiv ((b - a) * t) n) := by
  unfold Playback.interpolate
  rw [ha]
  dsimp only
  rw [if_pos hk, hb]
  rfl

theorem interpolate_last {u : Playback} {l : Lane} {k t n : Nat} {a : Int} (ha : u.posAt k l = some a)
    (hk : u.len ≤ k + 1) : u.interpolate l k t n = some a := by
  unfold Playback.interpolate
  rw [ha]
  exact if_neg (by omega)

section Demand

variable {s : State} {l : Lane} {a : Int}

theorem playDemand_start (h : s.play.state = .cueing ∨ s.play.state = .ready) (ha : s.play.posAt 0 l = some a) :
    playDemand s l = some a := by
  unfold playDemand
  dsimp only
  rcases h with h | h <;> rw [h, ha] <;> rfl

theorem playDemand_armed {f j : Nat} (h : s.play.state = .rollArmed) (hj : s.play.armed = some (f, j))
    (ha : s.play.posAt j l = some a) : playDemand s l = some a := by
  have armed : s.play.posAt ((s.play.armed.map (·.2)).getD 0) l = some a := by rw [hj]; exact ha
  unfold playDemand
  dsimp only
  rw [h]
  dsimp only
  rw [armed]
  rfl

theorem playDemand_held {e : Vector (Option Int) 12} (h : s.play.state = .holdEnd) (he : s.play.endHold = some e)
    (ha : e[l] = some a) : playDemand s l = some a := by
  unfold playDemand
  dsimp only
  rw [h, he]
  dsimp only [Option.map, Option.getD]
  rw [ha]
  rfl

theorem playDemand_rolls {k : Nat} (h : s.play.state = .rolling) (hd : s.play.stallDemands = none) (hk : s.play.k = some k)
    (ha : s.play.interpolate l k s.tb.t s.tb.n = some a) : playDemand s l = some a := by
  unfold playDemand
  dsimp only
  rw [h, hd, hk]
  dsimp only [Option.getD]
  rw [ha]
  rfl

theorem playDemand_point {h : Hold} {p : Vector (Option Int) 12} (hs : s.play.state = .deferred)
    (hh : s.grants[l].holder = some h) (hd : h.ctx.d = none) (hp : s.play.holdPoints = some p) (ha : p[l] = some a) :
    playDemand s l = some a := by
  have absent : mapDemand s.lens l h.ctx = none := by
    unfold mapDemand
    rw [hd]
  unfold playDemand
  dsimp only
  rw [hs, hh]
  dsimp only
  rw [absent, hp]
  dsimp only [Option.map, Option.getD]
  rw [ha]
  rfl

theorem playDemand_station {h : Hold} (hs : s.play.state = .deferred) (hh : s.grants[l].holder = some h)
    (ha : mapDemand s.lens l h.ctx = some a) : playDemand s l = some (a + h.ctx.o) := by
  unfold playDemand
  dsimp only
  rw [hs, hh]
  dsimp only
  rw [ha]

end Demand

end Sys2Proof.Machine
end

section
/-! PROOFS. The requests on the Playback Unit settled (O58). -/

namespace Sys2Proof.Machine

open Sys2Proof

/-- R43: the stack of a lane that the playback takes. -/
theorem preempted_stack_eq (g : Grant) (who : Holder) (level : Nat) (p : Int) : (g.preempted who level p).stack =
    match g.holder with
    | some ⟨.station o, lv, _, c⟩ => { port := o, level := lv, ctx := c } :: g.stack
    | _ => g.stack := by
  unfold Grant.preempted
  cases g.holder with
  | none => rfl
  | some h => cases h with
    | mk who _ _ _ => cases who <;> rfl

/-- What a CUE leaves at the end of the command. -/
theorem cue_begins {rx : Rx} {s : State} (i : SlotNo) (h : Header) (part : LaneSet) (scale : Nat) (endMode : EndMode)
    (ans : Answer) : CueBegun s (cuedPlay i h part scale endMode)
      (replied rx ans (beginCue i h part scale endMode (noteValid rx s))) := by
  have begun := beginCue_begun i h part scale endMode (noteValid rx s)
  generalize beginCue i h part scale endMode (noteValid rx s) = u at begun ⊢
  have ended := ended_replied rx ans u
  have busy : ∀ op, u.mem.op = some op → (replied rx ans u).mem.op = some op := fun op h => by
    rw [(replied_busy (by rw [h]; rfl) rx _).1, h]
  exact ⟨ended.play.trans begun.play, ended.lanes.trans begun.lanes, fun l hl => by rw [ended.grants]; exact begun.gained l hl,
    fun l hl => by rw [ended.grants]; exact begun.other l hl, fun b hb => busy _ (begun.erase b hb),
    fun b again hb => busy _ (begun.resume b again hb)⟩

/-- The part of O58 on SEGMENT DONE within the take. -/
theorem segmentDone_within {rx : Rx} {s : State} (h : TakesMotion rx s) {r first : Nat} (hd : s.play.state = .deferred)
    (hr : s.play.resumeIndex = some r) (hf : s.play.fRoll = some first) (hn : s.nearSample r = true)
    (hl : s.tb.f - first < s.play.len) :
    ∃ t, exec (.segmentDone rx (.fields ())) s = .next t ∧ t.play.deferIndex = none ∧ t.play.resumeIndex = none ∧
      (s.tb.f < first + r → t.play.state = .rollArmed ∧ t.play.armed = some (first + r, r) ∧
        t.play.spoiled = s.play.spoiled ∧ t.play.buffer = s.play.buffer) ∧
      (first + r ≤ s.tb.f → t.play.state = .rolling ∧ t.play.k = some (s.tb.f - first) ∧ t.play.spoiled = true) ∧
      (∀ l : Lane, s.participates l = true → s.grants[l].heldByPlayback = true →
        t.grants[l] = { s.grants[l] with
          holder := s.grants[l].holder.map fun h =>
            { h with ctx := { kind := .abs, d := none, o := 0, trim := 65536 } } }) ∧ t.lanes = s.lanes := by
  have judged := judgeSegmentDone_near (s := noteValid rx s) hd hr hf hn
  have run : ∀ {s1 ans}, judgeSegmentDone () (noteValid rx s) = (s1, some ans) →
      exec (.segmentDone rx (.fields ())) s = .next (replied rx ans s1) := fun hj =>
    congrArg Host.Outcome.next (takeRequest_motion h hj)
  by_cases early : s.tb.f < first + r
  · have taken := run (judged.trans (if_pos early))
    have ended := segmentEarly_ended (s := noteValid rx s) hf r
    generalize segmentEarly r (noteValid rx s) = u at taken ended
    have kept := ended_replied rx Answer.done u
    have play := kept.play.trans ended.play
    refine ⟨_, taken, by rw [play]; rfl, by rw [play]; rfl, fun _ => ?_, fun hl => absurd early (by omega), fun l hp hg => ?_,
      kept.lanes.trans ended.lanes⟩
    · rw [play]
      exact ⟨rfl, rfl, rfl, rfl⟩
    · rw [kept.grants, ended.grants]
      exact contextReturned_held (s := noteValid rx s) hp hg
  · have taken := run (judged.trans (if_neg early))
    obtain ⟨u, late, ended⟩ := segmentLate_eq (s := noteValid rx s) hf r
    have within : ¬ (noteValid rx s).play.len ≤ (noteValid rx s).tb.f - first := Nat.not_le.mpr hl
    rw [if_neg within] at late
    rw [late] at taken
    have kept := ended_replied rx Answer.done u
    have play := kept.play.trans ended.play
    refine ⟨_, taken, by rw [play]; rfl, by rw [play]; rfl, fun he => absurd he early, fun _ => ?_, fun l hp hg => ?_,
      kept.lanes.trans ended.lanes⟩
    · rw [play]
      exact ⟨rfl, rfl, rfl⟩
    · rw [kept.grants, ended.grants]
      exact contextReturned_held (s := noteValid rx s) hp hg

/-- The part of O58 on SEGMENT DONE after the take is over (log 34). -/
theorem segmentDone_over {rx : Rx} {s : State} (h : TakesMotion rx s) {r first : Nat} (hd : s.play.state = .deferred)
    (hr : s.play.resumeIndex = some r) (hf : s.play.fRoll = some first) (hn : s.nearSample r = true)
    (hlate : first + r ≤ s.tb.f) (hl : s.play.len ≤ s.tb.f - first) :
    ∃ t, exec (.segmentDone rx (.fields ())) s = .next t ∧ t.lanes = s.lanes ∧ t.safety = s.safety ∧
      t.ports[rx.port].replies = s.ports[rx.port].replies ++ [Answer.done.reply rx.tag .ordinary] ∧
      (s.play.endMode ≠ some .holdEnd → t.play = Playback.reset ∧ ∀ l : Lane, t.grants[l] =
        if s.participates l && s.grants[l].heldByPlayback then chooseNext s.lens l s.lanes[l].p s.grants[l]
        else s.grants[l]) ∧
      (s.play.endMode = some .holdEnd → t.play.state = .holdEnd ∧ t.play.spoiled = true ∧ t.play.buffer = [] ∧
        t.play.deferIndex = none ∧ t.play.resumeIndex = none ∧
        ∀ l : Lane, s.participates l = false → t.grants[l] = s.grants[l]) := by
  have judged := judgeSegmentDone_near (s := noteValid rx s) hd hr hf hn
  have after : ¬ (noteValid rx s).tb.f < first + r := Nat.not_lt.mpr hlate
  rw [if_neg after] at judged
  have taken : exec (.segmentDone rx (.fields ())) s = .next (replied rx Answer.done (segmentLate r (noteValid rx s))) :=
    congrArg Host.Outcome.next (takeRequest_motion h judged)
  obtain ⟨u, late, ended⟩ := segmentLate_eq (s := noteValid rx s) hf r
  have frame := segmentLate_frame (s := noteValid rx s) hd r
  have beyond : (noteValid rx s).play.len ≤ (noteValid rx s).tb.f - first := hl
  rw [if_pos beyond] at late
  have active : (noteValid rx s).isActive rx.port = true :=
    (noteValid_isActive (rx := rx) (s := s) (p := rx.port)).trans h.1.1
  have told := frame.frame.port rx.port
  have kept := ended_replied rx Answer.done (segmentLate r (noteValid rx s))
  refine ⟨_, taken, kept.lanes.trans frame.frame.lanes, kept.safety.trans frame.safety, ?_, fun he => ?_, fun he => ?_⟩
  · rw [replied_replies (by rw [told.isActive]; exact active), told]
    exact congrArg (· ++ _) (noteValid_replies rx s rx.port)
  · have mode : u.play.endMode ≠ some .holdEnd := by rw [ended.play]; exact he
    rw [finishPass_done mode] at late
    obtain ⟨play, grants⟩ := endPlayback_ended (s := u) (by rw [ended.play]; nofun) .done
    refine ⟨by rw [kept.play, late, play], fun l => ?_⟩
    rw [kept.grants, late, grants]
    exact leftByPlayback_returned ended rfl l
  · have mode : u.play.endMode = some .holdEnd := by rw [ended.play]; exact he
    obtain ⟨grants, state, buffer, -⟩ := finishPass_holds mode
    have rest : (finishPass u).play.spoiled = u.play.spoiled ∧ (finishPass u).play.deferIndex = u.play.deferIndex ∧
        (finishPass u).play.resumeIndex = u.play.resumeIndex := by
      unfold finishPass
      rw [mode]
      exact ⟨rfl, rfl, rfl⟩
    obtain ⟨spoiled, deferred, resumed⟩ := rest
    rw [ended.play] at spoiled deferred resumed
    rw [kept.play, kept.grants, late]
    refine ⟨state, spoiled, buffer, deferred, resumed, fun l hp => ?_⟩
    rw [grants, ended.grants]
    exact contextReturned_apart (s := noteValid rx s) hp

/-- The part of O58 on UNCUE. -/
theorem uncue_leaves {rx : Rx} {s : State} (h : TakesMotion rx s) (hp : s.play.state ≠ .idle) :
    ∃ t, exec (.uncue rx (.fields ())) s = .next t ∧ t.play = Playback.reset ∧
      t.lanes = s.lanes ∧ (∀ l : Lane, s.participates l = true → s.grants[l].heldByPlayback = true →
        t.grants[l] = chooseNext s.lens l s.lanes[l].p s.grants[l]) ∧
      (∀ l : Lane, s.participates l = false ∨ s.grants[l].heldByPlayback = false → t.grants[l] = s.grants[l]) := by
  have judged : ∃ o, judgeUncue () (noteValid rx s) = done (endPlayback o (noteValid rx s)) := by
    unfold judgeUncue
    split
    · next hi => exact absurd hi hp
    · exact ⟨_, rfl⟩
    · exact ⟨_, rfl⟩
  obtain ⟨o, judged⟩ := judged
  have taken : exec (.uncue rx (.fields ())) s = .next (replied rx Answer.done (endPlayback o (noteValid rx s))) :=
    congrArg Host.Outcome.next (takeRequest_motion h judged)
  have frame := (keepsPlay_frame (noteValid rx s)).endPlayback o ⟨.refl _, rfl, rfl⟩
  obtain ⟨play, grants⟩ := endPlayback_ended (s := noteValid rx s) hp o
  have kept := ended_replied rx Answer.done (endPlayback o (noteValid rx s))
  refine ⟨_, taken, kept.play.trans play, kept.lanes.trans frame.frame.lanes, fun l hl hg => ?_, fun l hl => ?_⟩
  · rw [kept.grants, grants]
    exact if_pos (by rw [Bool.and_eq_true]; exact ⟨hl, hg⟩)
  · rw [kept.grants, grants]
    refine if_neg ?_
    rw [Bool.and_eq_true]
    exact fun ⟨h1, h2⟩ => hl.elim (fun e => Bool.false_ne_true (e.symm.trans h1)) fun e => Bool.false_ne_true (e.symm.trans h2)

/-- Settles O58: the rows of each request in their order, and the demand supplied by the unit's state. -/
theorem playbackRequests : Obligations.PlaybackRequests := by
  unfold Obligations.PlaybackRequests
  refine ⟨fun rx s h => ?_, fun s l a => ⟨fun hs ha => playDemand_start hs ha, fun f j hs hj ha => playDemand_armed hs hj ha,
    fun e hs he ha => playDemand_held hs he ha, fun h hs hh => ⟨fun p hd hp ha => playDemand_point hs hh hd hp ha,
      fun ha => playDemand_station hs hh ha⟩⟩, fun s l k a hs hd hk ha ht hn => ⟨fun hl => ?_, fun b hl hb => ?_⟩⟩
  · have cue : ∀ {a s1 ans}, judgeCue a (noteValid rx s) = (s1, some ans) →
        exec (.cue rx (.fields a)) s = .next (replied rx ans s1) := fun hj =>
      congrArg Host.Outcome.next (takeRequest_motion h hj)
    have roll : ∀ {a s1 ans}, judgeRoll a (noteValid rx s) = (s1, some ans) →
        exec (.roll rx (.fields a)) s = .next (replied rx ans s1) := fun hj =>
      congrArg Host.Outcome.next (takeRequest_motion h hj)
    have segmentDone : ∀ {s1 ans}, judgeSegmentDone () (noteValid rx s) = (s1, some ans) →
        exec (.segmentDone rx (.fields ())) s = .next (replied rx ans s1) := fun hj =>
      congrArg Host.Outcome.next (takeRequest_motion h hj)
    refine ⟨fun i x a ha hfin hx hl hf => ?_, fun a => ⟨fun hb => cue (judgeCue_bad hb), fun hb hl hf =>
      cue (judgeCue_unfrozen (s := noteValid rx s) hb hl hf), fun i ha hl hf hfin => ?_⟩, fun start => ⟨fun hs => ?_, fun hs => ?_⟩,
      fun hs => segmentDone (judgeSegmentDone_refused (s := noteValid rx s) hs), fun r first hd hr hf =>
        ⟨fun hn => segmentDone (judgeSegmentDone_apart (s := noteValid rx s) hr hn), fun hn hlen => segmentDone_within h hd hr hf hn hlen⟩,
      fun r first hd hr hf hn hlate hlen => segmentDone_over h hd hr hf hn hlate hlen, fun hi => ?_, fun hp => uncue_leaves h hp⟩
    · obtain ⟨refused, judged⟩ := judgeCue_frozen (s := noteValid rx s) ha hl hf
      refine ⟨fun hw => cue (refused ?_), fun hp hr hpk hnone => ?_, fun hp hr hpk => ?_⟩
      · rcases hw with hw | hw | hw
        · exact .inl hw
        · exact .inr (.inr (.inl hw))
        · exact .inr (.inr (.inr hw))
      · obtain ⟨refusedAll, -⟩ := judged hp hfin hr hpk x hx
        have nobody : ∀ l, ¬ (noteValid rx s).cueTakes x a.lanes l := by
          rintro l ⟨h1, h2, h3, h4, h5⟩
          rcases hnone l h1 with e | e | ⟨why, e⟩ | ⟨h6, h8, e⟩
          · exact Bool.false_ne_true (e.symm.trans h2)
          · exact Bool.false_ne_true (e.symm.trans h3)
          · exact h4 why e
          · exact e (h5 h6 h8)
        exact ⟨_, cueResults_fst _ _ _, cueResults_none nobody, cue (refusedAll ((cueSet_eq_zero_iff _ _ _).mpr nobody))⟩
      · intro takes
        rintro ⟨l, hl⟩
        obtain ⟨-, begins⟩ := judged hp hfin hr hpk x hx
        obtain ⟨ans, taken⟩ := begins fun hz => (cueSet_eq_zero_iff _ _ _).mp hz l hl
        have has := has_cueSet (noteValid rx s) x a.lanes
        have begun := cue_begins (rx := rx) (s := s) i x ((noteValid rx s).cueSet x a.lanes)
          (clampNat 0 65536 (a.scale.getD 16384)) (a.endMode.getD .yield) ans
        have run := cue taken
        generalize replied rx ans _ = t at begun run
        refine ⟨t, run, ?_⟩
        rw [begun.play]
        refine ⟨rfl, rfl, rfl, rfl, rfl, rfl, rfl, rfl, has, fun l hl => ?_, fun l hl => ?_, begun.lanes, begun.erase, begun.resume⟩
        · rw [begun.gained l ((has l).mpr hl)]
          exact ⟨rfl, rfl, preempted_stack_eq _ _ _ _⟩
        · exact begun.other l (mt (has l).mp hl)
    · exact cue ((judgeCue_frozen (s := noteValid rx s) ha hl hf).1 (.inr (.inl hfin)))
    · obtain ⟨f, rfl, hf⟩ := hs
      exact roll (judgeRoll_late hf)
    · have judged := judgeRoll_valid (s := noteValid rx s) hs
      refine ⟨fun hw => roll (judged.trans (if_pos ?_)), fun hr ht => roll (judged.trans (if_neg ?_))⟩
      · exact hw.imp id (untrusted_iff _).mpr
      · rw [untrusted_iff]
        rintro (hn | ⟨h1, h2⟩)
        · exact hn hr
        · exact ht.elim (fun hn => hn h1) fun hn => hn h2
    · have refused : judgeUncue () (noteValid rx s) = refuse .wrongState (noteValid rx s) := by
        unfold judgeUncue
        rw [show (noteValid rx s).play.state = .idle from hi]
      exact congrArg Host.Outcome.next (takeRequest_motion h refused)
  · exact playDemand_rolls hs hd hk (interpolate_last ha hl)
  · refine ⟨_, playDemand_rolls hs hd hk (interpolate_between ha hl hb), rfl, fun h0 => ?_, fun hab => ?_, fun hba => ?_⟩
    · rw [h0]
      simp
    · have between := (tdiv_between (x := b - a) (n := s.tb.n) (t := s.tb.t) (by omega) (by omega) (by omega)).1 (by omega)
      omega
    · have between := (tdiv_between (x := b - a) (n := s.tb.n) (t := s.tb.t) (by omega) (by omega) (by omega)).2 (by omega)
      omega

end Sys2Proof.Machine
end

section
/-! PROOFS. The lens maps (O56, R62, R69, R70). -/

namespace Sys2Proof.Machine

open Sys2Proof

/-! ### Tables in order -/

theorem pairwise_of_chained {R : Breakpoint → Breakpoint → Bool} (trans : ∀ a b c, R a b = true → R b c = true → R a c = true) :
    ∀ {t : List Breakpoint}, chained R t = true → t.Pairwise fun a b => R a b = true
  | [], _ => .nil
  | [_], _ => List.pairwise_singleton _ _
  | a :: b :: t, h => by
    obtain ⟨hab, rest⟩ := Bool.and_eq_true_iff.mp h
    have tail := pairwise_of_chained trans rest
    refine List.pairwise_cons.mpr ⟨fun c hc => ?_, tail⟩
    rcases List.mem_cons.mp hc with rfl | hc
    · exact hab
    · exact trans a b c hab (List.rel_of_pairwise_cons tail hc)

/-- The user values of the table rise. -/
def Rises (t : List Breakpoint) : Prop := t.Pairwise fun b c => b.u < c.u

/-- The positions of the table rise. -/
def Climbs (t : List Breakpoint) : Prop := t.Pairwise fun b c => b.p < c.p

/-- The breakpoint on the other side of zero. -/
def mirror (b : Breakpoint) : Breakpoint := { b with p := -b.p }

/-- R62: a valid table has two breakpoints or more, rises, and climbs or climbs mirrored. -/
theorem tableValid_ordered {t : List Breakpoint} (h : tableValid t = true) :
    2 ≤ t.length ∧ Rises t ∧ (Climbs t ∨ Climbs (t.map mirror)) := by
  unfold tableValid at h
  simp only [Bool.and_eq_true, Bool.or_eq_true, decide_eq_true_eq] at h
  obtain ⟨⟨⟨⟨two, -⟩, -⟩, rises⟩, climbs⟩ := h
  refine ⟨two, ?_, climbs.imp (fun up => ?_) fun down => ?_⟩
  · exact (pairwise_of_chained (R := fun b c => b.u < c.u) (fun _ _ _ h k => decide_eq_true (Nat.lt_trans (of_decide_eq_true h) (of_decide_eq_true k))) rises).imp of_decide_eq_true
  · exact (pairwise_of_chained (R := fun b c => b.p < c.p) (fun _ _ _ h k => decide_eq_true (Int.lt_trans (of_decide_eq_true h) (of_decide_eq_true k))) up).imp of_decide_eq_true
  · refine List.pairwise_map.mpr ((pairwise_of_chained (R := fun b c => c.p < b.p) (fun _ _ _ h k => decide_eq_true (Int.lt_trans (of_decide_eq_true k) (of_decide_eq_true h))) down).imp fun {b c} e => ?_)
    have := of_decide_eq_true e
    change -b.p < -c.p
    omega

/-! ### The forward map (R69) -/

section Forward

variable {t : List Breakpoint}

/-- Below a user value the breakpoints that are left behind play no part. -/
theorem forwardMap_append {before rest : List Breakpoint} {b : Breakpoint} (h : Rises (before ++ b :: rest)) {u : Int}
    (hu : b.u ≤ u) : forwardMap (before ++ b :: rest) u = forwardMap (b :: rest) u := by
  induction before with
  | nil => rfl
  | cons x before ih =>
    obtain ⟨hx, tail⟩ := List.pairwise_cons.mp h
    rw [← ih tail]
    have xb := hx b (List.mem_append_right _ List.mem_cons_self)
    cases before with
    | nil =>
      change forwardMap (x :: b :: rest) u = _
      rw [forwardMap, if_neg (by omega), if_neg (by omega)]
      rfl
    | cons y before =>
      have yb := (List.pairwise_cons.mp tail).1 b (List.mem_append_right _ List.mem_cons_self)
      change forwardMap (x :: y :: (before ++ b :: rest)) u = forwardMap (y :: (before ++ b :: rest)) u
      rw [forwardMap, if_neg (by omega), if_neg (by omega)]

theorem forwardMap_segment {before after : List Breakpoint} {b c : Breakpoint} (h : Rises (before ++ b :: c :: after)) {u : Int}
    (hb : b.u ≤ u) (hc : u < c.u) : forwardMap (before ++ b :: c :: after) u =
      b.p + Int.tdiv ((c.p - b.p) * (u - b.u)) ((c.u : Int) - b.u) := by
  rw [forwardMap_append h hb, forwardMap, if_neg (by omega), if_pos hc]
  rfl

theorem forwardMap_breakpoint (h : Rises t) {b : Breakpoint} (hb : b ∈ t) : forwardMap t b.u = b.p := by
  obtain ⟨before, rest, rfl⟩ := List.append_of_mem hb
  cases rest with
  | nil => rw [forwardMap_append h (Int.le_refl _), forwardMap]
  | cons c rest =>
    have bc := (List.pairwise_cons.mp (List.pairwise_append.mp h).2.1).1 c List.mem_cons_self
    rw [forwardMap_segment h (Int.le_refl _) (by omega), Int.sub_self, Int.mul_zero, Int.zero_tdiv, Int.add_zero]

theorem forwardMap_low (h : Rises t) {b : Breakpoint} (hb : t.head? = some b) {u : Int} (hu : u ≤ b.u) : forwardMap t u = b.p := by
  obtain ⟨rest, rfl⟩ := List.head?_eq_some_iff.mp hb
  rcases Int.lt_or_eq_of_le hu with hu | rfl
  · cases rest with
    | nil => rw [forwardMap]
    | cons c rest => rw [forwardMap, if_pos hu]
  · exact forwardMap_breakpoint h List.mem_cons_self

theorem forwardMap_high (h : Rises t) {c : Breakpoint} (hc : t.getLast? = some c) {u : Int} (hu : c.u ≤ u) :
    forwardMap t u = c.p := by
  obtain ⟨before, rfl⟩ := List.getLast?_eq_some_iff.mp hc
  rw [forwardMap_append h hu, forwardMap]

/-- A user value from the first breakpoint to the last lies in a segment. -/
theorem exists_segment {b c : Breakpoint} (hb : t.head? = some b) (hc : t.getLast? = some c) {u : Int} (h1 : b.u ≤ u)
    (h2 : u < c.u) : ∃ before x y after, t = before ++ x :: y :: after ∧ (x.u : Int) ≤ u ∧ u < y.u := by
  induction t generalizing b with
  | nil => cases hb
  | cons x t ih =>
    obtain rfl : x = b := Option.some.inj hb
    cases t with
    | nil =>
      obtain rfl : x = c := Option.some.inj hc
      omega
    | cons y t =>
      by_cases hy : u < y.u
      · exact ⟨[], x, y, t, rfl, h1, hy⟩
      · obtain ⟨before, v, w, after, e, hv, hw⟩ := ih rfl (by rwa [List.getLast?_cons_cons] at hc) (by omega)
        exact ⟨x :: before, v, w, after, by rw [e]; rfl, hv, hw⟩

end Forward

/-! ### The table seen from the other side of zero -/

theorem forwardMap_mirror (t : List Breakpoint) (u : Int) : forwardMap (t.map mirror) u = -forwardMap t u := by
  induction t, u using forwardMap.induct with
  | case1 => rfl
  | case2 => rfl
  | case3 b c rest u h => exact (if_pos h).trans (congrArg Neg.neg (if_pos h).symm)
  | case4 b c rest u h1 h2 =>
    have mirrored : forwardMap ((b :: c :: rest).map mirror) u =
        -b.p + truncDiv ((-c.p - -b.p) * (u - b.u)) ((c.u : Int) - b.u) := (if_neg h1).trans (if_pos h2)
    have numerator : (-c.p - -b.p) * (u - b.u) = -((c.p - b.p) * (u - b.u)) := by
      rw [← Int.neg_mul, show -c.p - -b.p = -(c.p - b.p) by omega]
    rw [mirrored, forwardMap, if_neg h1, if_pos h2, truncDiv, truncDiv, numerator, Int.neg_tdiv]
    omega
  | case5 b c rest u h1 h2 ih =>
    rw [forwardMap, if_neg h1, if_neg h2, ← ih]
    exact (if_neg h1).trans (if_neg h2)

theorem reverseSegment_mirror (t : List Breakpoint) (p : Int) :
    reverseSegment (t.map mirror) (-p) = reverseSegment t p := by
  induction t, p using reverseSegment.induct with
  | case1 => rfl
  | case2 => rfl
  | case3 b c rest p h =>
    have inside : ((mirror b).p ≤ -p ∧ -p ≤ (mirror c).p) ∨ ((mirror c).p ≤ -p ∧ -p ≤ (mirror b).p) := by
      change (-b.p ≤ -p ∧ -p ≤ -c.p) ∨ (-c.p ≤ -p ∧ -p ≤ -b.p)
      omega
    refine (if_pos inside).trans (Eq.trans ?_ (if_pos h).symm)
    have numerator : ((c.u : Int) - b.u) * (-p - -b.p) = -(((c.u : Int) - b.u) * (p - b.p)) := by
      rw [← Int.mul_neg, show -(p - b.p) = -p - -b.p by omega]
    have denominator : -c.p - -b.p = -(c.p - b.p) := by omega
    change some ((b.u : Int) + Int.tdiv (((c.u : Int) - b.u) * (-p - -b.p)) (-c.p - -b.p)) =
      some ((b.u : Int) + Int.tdiv (((c.u : Int) - b.u) * (p - b.p)) (c.p - b.p))
    rw [numerator, denominator, Int.neg_tdiv, Int.tdiv_neg, Int.neg_neg]
  | case4 b c rest p h ih =>
    have outside : ¬ (((mirror b).p ≤ -p ∧ -p ≤ (mirror c).p) ∨ ((mirror c).p ≤ -p ∧ -p ≤ (mirror b).p)) := by
      change ¬ ((-b.p ≤ -p ∧ -p ≤ -c.p) ∨ (-c.p ≤ -p ∧ -p ≤ -b.p))
      omega
    exact (if_neg outside).trans (ih.trans (if_neg h).symm)

theorem reverseMap_mirror {t : List Breakpoint} (h : Climbs (t.map mirror)) (p : Int) :
    reverseMap (t.map mirror) (-p) = reverseMap t p := by
  have start : beyondStart (t.map mirror) (-p) = beyondStart t p := by
    match t, h with
    | [], _ => rfl
    | [_], _ => rfl
    | b :: c :: t, h =>
      have bc : -b.p < -c.p := (List.pairwise_cons.mp h).1 _ List.mem_cons_self
      change (if -b.p < -c.p then decide (-p < -b.p) else decide (-b.p < -p)) =
        if b.p < c.p then decide (p < b.p) else decide (b.p < p)
      rw [if_pos bc, if_neg (by omega)]
      exact decide_eq_decide.mpr (by omega)
  unfold reverseMap
  rw [reverseSegment_mirror, start, List.head?_map, List.getLast?_map, Option.map_map, Option.map_map]
  rfl

end Sys2Proof.Machine
end

section
/-! PROOFS. The reverse map (O56, R70), and both maps of a valid table. -/

namespace Sys2Proof.Machine

open Sys2Proof

/-! ### The reverse map of a table that climbs -/

section Climbing

variable {t : List Breakpoint}

theorem reverseSegment_in {b c : Breakpoint} {rest : List Breakpoint} {p : Int}
    (h : (b.p ≤ p ∧ p ≤ c.p) ∨ (c.p ≤ p ∧ p ≤ b.p)) : reverseSegment (b :: c :: rest) p =
      some (b.u + Int.tdiv (((c.u : Int) - b.u) * (p - b.p)) (c.p - b.p)) := by
  rw [reverseSegment, if_pos h]
  rfl

/-- Above a position the breakpoints that are left behind play no part. -/
theorem reverseSegment_append {before rest : List Breakpoint} {b : Breakpoint} (h : Climbs (before ++ b :: rest)) {p : Int}
    (hp : b.p < p) : reverseSegment (before ++ b :: rest) p = reverseSegment (b :: rest) p := by
  induction before with
  | nil => rfl
  | cons x before ih =>
    obtain ⟨hx, tail⟩ := List.pairwise_cons.mp h
    rw [← ih tail]
    have xb := hx b (List.mem_append_right _ List.mem_cons_self)
    cases before with
    | nil =>
      change reverseSegment (x :: b :: rest) p = reverseSegment (b :: rest) p
      rw [reverseSegment, if_neg (by omega)]
    | cons y before =>
      have yb := (List.pairwise_cons.mp tail).1 b (List.mem_append_right _ List.mem_cons_self)
      change reverseSegment (x :: y :: (before ++ b :: rest)) p = reverseSegment (y :: (before ++ b :: rest)) p
      rw [reverseSegment, if_neg (by omega)]

/-- The last breakpoint of the segment that ends with it. -/
theorem reverse_at_end {b c : Breakpoint} (h : b.p < c.p) :
    (b.u : Int) + Int.tdiv (((c.u : Int) - b.u) * (c.p - b.p)) (c.p - b.p) = c.u := by
  rw [Int.mul_tdiv_cancel _ (by omega)]
  omega

theorem reverseMap_of_segment {p u : Int} (h : reverseSegment t p = some u) : reverseMap t p = u := by
  unfold reverseMap
  rw [h]

theorem climbing_breakpoint (two : 2 ≤ t.length) (h : Climbs t) {b : Breakpoint} (hb : b ∈ t) : reverseMap t b.p = b.u := by
  refine reverseMap_of_segment ?_
  obtain ⟨before, rest, rfl⟩ := List.append_of_mem hb
  rcases List.eq_nil_or_concat before with rfl | ⟨before, a, rfl⟩
  · cases rest with
    | nil => simp at two
    | cons c rest =>
      have bc := (List.pairwise_cons.mp h).1 c List.mem_cons_self
      refine (reverseSegment_in (.inl ⟨Int.le_refl _, Int.le_of_lt bc⟩)).trans ?_
      rw [Int.sub_self, Int.mul_zero, Int.zero_tdiv, Int.add_zero]
  · rw [List.concat_eq_append, List.append_assoc] at h ⊢
    have ab : a.p < b.p := (List.pairwise_cons.mp (List.pairwise_append.mp h).2.1).1 b List.mem_cons_self
    refine (reverseSegment_append h ab).trans ((reverseSegment_in (.inl ⟨Int.le_of_lt ab, Int.le_refl _⟩)).trans ?_)
    rw [reverse_at_end ab]

theorem climbing_segment {before after : List Breakpoint} {b c : Breakpoint} (h : Climbs (before ++ b :: c :: after)) {p : Int}
    (hb : b.p ≤ p) (hc : p < c.p) : reverseMap (before ++ b :: c :: after) p =
      b.u + Int.tdiv (((c.u : Int) - b.u) * (p - b.p)) (c.p - b.p) := by
  rcases Int.lt_or_eq_of_le hb with hb | rfl
  · refine reverseMap_of_segment ?_
    rw [reverseSegment_append h hb, reverseSegment_in (.inl ⟨Int.le_of_lt hb, Int.le_of_lt hc⟩)]
  · have here : b ∈ before ++ b :: c :: after := List.mem_append_right _ List.mem_cons_self
    have two : 2 ≤ (before ++ b :: c :: after).length := by
      rw [List.length_append, List.length_cons, List.length_cons]
      omega
    rw [climbing_breakpoint two h here, Int.sub_self, Int.mul_zero, Int.zero_tdiv, Int.add_zero]

theorem reverseSegment_below {p : Int} (h : ∀ b ∈ t, p < b.p) : reverseSegment t p = none := by
  induction t with
  | nil => rfl
  | cons b t ih =>
    cases t with
    | nil => rfl
    | cons c t =>
      have hb := h b List.mem_cons_self
      have hc := h c (List.mem_cons_of_mem _ List.mem_cons_self)
      rw [reverseSegment, if_neg (by omega)]
      exact ih fun x hx => h x (List.mem_cons_of_mem _ hx)

theorem climbing_low (two : 2 ≤ t.length) (h : Climbs t) {b : Breakpoint} (hb : t.head? = some b) {p : Int} (hp : p ≤ b.p) :
    reverseMap t p = b.u := by
  obtain ⟨rest, rfl⟩ := List.head?_eq_some_iff.mp hb
  rcases Int.lt_or_eq_of_le hp with hp | rfl
  · cases rest with
    | nil => simp at two
    | cons c rest =>
      have all := List.pairwise_cons.mp h
      have below : reverseSegment (b :: c :: rest) p = none := reverseSegment_below fun x hx => by
        rcases List.mem_cons.mp hx with rfl | hx
        · exact hp
        · have := all.1 x hx
          omega
      have start : beyondStart (b :: c :: rest) p = true :=
        (if_pos (all.1 c List.mem_cons_self)).trans (decide_eq_true hp)
      unfold reverseMap
      rw [below]
      exact if_pos start
  · exact climbing_breakpoint two h List.mem_cons_self

theorem climbing_high (two : 2 ≤ t.length) (h : Climbs t) {c : Breakpoint} (hc : t.getLast? = some c) {p : Int} (hp : c.p ≤ p) :
    reverseMap t p = c.u := by
  have last : c ∈ t := List.mem_of_getLast? hc
  rcases Int.lt_or_eq_of_le hp with hp | rfl
  · have none : reverseSegment t p = none := by
      obtain ⟨before, rfl⟩ := List.getLast?_eq_some_iff.mp hc
      exact (reverseSegment_append h hp).trans rfl
    have start : beyondStart t p = false := by
      match t, two, h, hc with
      | b :: d :: rest, _, h, hc =>
        have all := List.pairwise_cons.mp h
        have bc : b.p < c.p := all.1 c (List.mem_of_getLast? (by rwa [List.getLast?_cons_cons] at hc))
        exact (if_pos (all.1 d List.mem_cons_self)).trans (decide_eq_false (by omega))
    unfold reverseMap
    rw [none, start, hc]
    rfl
  · exact climbing_breakpoint two h last

/-- The least and the greatest position of a table that climbs are its ends. -/
theorem climbing_between (rises : Rises t) (h : Climbs t) {b c : Breakpoint} (hb : t.head? = some b) (hc : t.getLast? = some c)
    (u : Int) : b.p ≤ forwardMap t u ∧ forwardMap t u ≤ c.p := by
  have first : ∀ x ∈ t, b.p ≤ x.p := by
    obtain ⟨rest, rfl⟩ := List.head?_eq_some_iff.mp hb
    intro x hx
    rcases List.mem_cons.mp hx with rfl | hx
    · exact Int.le_refl _
    · exact Int.le_of_lt ((List.pairwise_cons.mp h).1 x hx)
  have last : ∀ x ∈ t, x.p ≤ c.p := by
    obtain ⟨before, rfl⟩ := List.getLast?_eq_some_iff.mp hc
    intro x hx
    rcases List.mem_append.mp hx with hx | hx
    · exact Int.le_of_lt ((List.pairwise_append.mp h).2.2 x hx c List.mem_cons_self)
    · rw [List.mem_singleton.mp hx]
  rcases lt_or_ge u b.u with h1 | h1
  · rw [forwardMap_low rises hb (Int.le_of_lt h1)]
    exact ⟨Int.le_refl _, last b (List.mem_of_head? hb)⟩
  · rcases lt_or_ge u c.u with h2 | h2
    · obtain ⟨before, x, y, after, rfl, hx, hy⟩ := exists_segment hb hc h1 h2
      have xy : x.p < y.p := (List.pairwise_cons.mp (List.pairwise_append.mp h).2.1).1 y List.mem_cons_self
      have lower := first x (List.mem_append_right _ List.mem_cons_self)
      have upper := last y (List.mem_append_right _ (List.mem_cons_of_mem _ List.mem_cons_self))
      have part := (tdiv_between (x := y.p - x.p) (n := (y.u : Int) - x.u) (t := u - x.u) (by omega) (by omega) (by omega)).1
        (by omega)
      rw [forwardMap_segment rises hx hy]
      omega
    · rw [forwardMap_high rises hc h2]
      exact ⟨first c (List.mem_of_getLast? hc), Int.le_refl _⟩

/-- Both truncations of a way there and back go down. -/
theorem there_and_back {dp du v : Int} (hp : 0 < dp) (hu : 0 < du) (h0 : 0 ≤ v) (hv : v < du) :
    0 ≤ Int.tdiv (dp * v) du ∧ Int.tdiv (dp * v) du < dp ∧ Int.tdiv (du * Int.tdiv (dp * v) du) dp ≤ v := by
  have num : 0 ≤ dp * v := Int.mul_nonneg (by omega) h0
  have low : 0 ≤ Int.tdiv (dp * v) du := Int.tdiv_nonneg num (by omega)
  have down : Int.tdiv (dp * v) du * du ≤ dp * v := by
    rw [Int.tdiv_eq_ediv_of_nonneg num]
    exact Int.ediv_mul_le _ (by omega)
  refine ⟨low, ?_, ?_⟩
  · rw [Int.tdiv_eq_ediv_of_nonneg num]
    exact Int.ediv_lt_of_lt_mul hu (Int.mul_lt_mul_of_pos_left hv hp)
  · rw [Int.tdiv_eq_ediv_of_nonneg (Int.mul_nonneg (by omega) low)]
    refine Int.ediv_le_of_le_mul hp ?_
    rw [Int.mul_comm du, Int.mul_comm v]
    exact down

theorem climbing_returns (two : 2 ≤ t.length) (rises : Rises t) (h : Climbs t) {b c : Breakpoint} (hb : t.head? = some b)
    (hc : t.getLast? = some c) {u : Int} (hu : b.u ≤ u) : reverseMap t (forwardMap t u) ≤ u := by
  rcases lt_or_ge u c.u with h2 | h2
  · obtain ⟨before, x, y, after, rfl, hx, hy⟩ := exists_segment hb hc hu h2
    have xy : x.p < y.p := (List.pairwise_cons.mp (List.pairwise_append.mp h).2.1).1 y List.mem_cons_self
    rw [forwardMap_segment rises hx hy]
    obtain ⟨low, high, back⟩ := there_and_back (dp := y.p - x.p) (du := (y.u : Int) - x.u) (v := u - x.u) (by omega) (by omega)
      (by omega) (by omega)
    generalize Int.tdiv ((y.p - x.p) * (u - x.u)) ((y.u : Int) - x.u) = q at low high back ⊢
    rw [climbing_segment h (p := x.p + q) (by omega) (by omega), show x.p + q - x.p = q by omega]
    omega
  · rw [forwardMap_high rises hc h2, climbing_breakpoint two h (List.mem_of_getLast? hc)]
    exact h2

end Climbing

/-- A table does not come back: its ends are in the order of its climb. -/
theorem climbing_ends {t : List Breakpoint} (two : 2 ≤ t.length) (up : Climbs t) {b c : Breakpoint} (hb : t.head? = some b)
    (hc : t.getLast? = some c) : b.p < c.p := by
  match t, two, up, hb, hc with
  | x :: y :: rest, _, up, hb, hc =>
    obtain rfl := Option.some.inj hb
    exact (List.pairwise_cons.mp up).1 c (List.mem_of_getLast? (by rwa [List.getLast?_cons_cons] at hc))

theorem mirror_rises {t : List Breakpoint} (h : Rises t) : Rises (t.map mirror) := List.pairwise_map.mpr h

/-! ### A valid table (R62) -/

section Valid

variable {t : List Breakpoint} (h : tableValid t = true)

include h

theorem valid_breakpoint {b : Breakpoint} (hb : b ∈ t) : forwardMap t b.u = b.p ∧ reverseMap t b.p = b.u := by
  obtain ⟨two, rises, up | down⟩ := tableValid_ordered h
  · exact ⟨forwardMap_breakpoint rises hb, climbing_breakpoint two up hb⟩
  · refine ⟨forwardMap_breakpoint rises hb, (reverseMap_mirror down b.p).symm.trans ?_⟩
    exact climbing_breakpoint (by rw [List.length_map]; exact two) down (List.mem_map_of_mem hb)

theorem valid_segment {before after : List Breakpoint} {b c : Breakpoint} (ht : t = before ++ b :: c :: after) {p : Int}
    (hp : (b.p ≤ p ∧ p < c.p) ∨ (c.p < p ∧ p ≤ b.p)) :
    reverseMap t p = b.u + Int.tdiv (((c.u : Int) - b.u) * (p - b.p)) (c.p - b.p) := by
  obtain ⟨-, -, up | down⟩ := tableValid_ordered h
  · rw [ht] at up ⊢
    have bc : b.p < c.p := (List.pairwise_cons.mp (List.pairwise_append.mp up).2.1).1 c List.mem_cons_self
    exact climbing_segment up (by omega) (by omega)
  · rw [← reverseMap_mirror down]
    rw [ht, List.map_append, List.map_cons, List.map_cons] at down ⊢
    have bc : -b.p < -c.p := (List.pairwise_cons.mp (List.pairwise_append.mp down).2.1).1 _ List.mem_cons_self
    have mirrored := climbing_segment (p := -p) down (by change -b.p ≤ -p; omega) (by change -p < -c.p; omega)
    refine mirrored.trans ?_
    have numerator : ((c.u : Int) - b.u) * (-p - -b.p) = -(((c.u : Int) - b.u) * (p - b.p)) := by
      rw [← Int.mul_neg, show -(p - b.p) = -p - -b.p by omega]
    have denominator : -c.p - -b.p = -(c.p - b.p) := by omega
    change (b.u : Int) + Int.tdiv (((c.u : Int) - b.u) * (-p - -b.p)) (-c.p - -b.p) = _
    rw [numerator, denominator, Int.neg_tdiv, Int.tdiv_neg, Int.neg_neg]

variable {b c : Breakpoint} (hb : t.head? = some b) (hc : t.getLast? = some c)

include hb hc

theorem valid_up (hbc : b.p ≤ c.p) (p : Int) : (p ≤ b.p → reverseMap t p = b.u) ∧ (c.p ≤ p → reverseMap t p = c.u) := by
  obtain ⟨two, -, up | down⟩ := tableValid_ordered h
  · exact ⟨climbing_low two up hb, climbing_high two up hc⟩
  · have ends := climbing_ends (b := mirror b) (c := mirror c) (by rw [List.length_map]; exact two) down (by rw [List.head?_map, hb]; rfl)
      (by rw [List.getLast?_map, hc]; rfl)
    change -b.p < -c.p at ends
    omega

theorem valid_down (hbc : c.p ≤ b.p) (p : Int) : (b.p ≤ p → reverseMap t p = b.u) ∧ (p ≤ c.p → reverseMap t p = c.u) := by
  obtain ⟨two, -, up | down⟩ := tableValid_ordered h
  · have ends := climbing_ends two up hb hc
    omega
  · have two : 2 ≤ (t.map mirror).length := by rw [List.length_map]; exact two
    have first : (t.map mirror).head? = some (mirror b) := by rw [List.head?_map, hb]; rfl
    have last : (t.map mirror).getLast? = some (mirror c) := by rw [List.getLast?_map, hc]; rfl
    rw [← reverseMap_mirror down]
    refine ⟨fun hp => climbing_low two down first ?_, fun hp => climbing_high two down last ?_⟩
    · change -p ≤ -b.p
      omega
    · change -c.p ≤ -p
      omega

theorem valid_between (u : Int) : min b.p c.p ≤ forwardMap t u ∧ forwardMap t u ≤ max b.p c.p := by
  obtain ⟨-, rises, up | down⟩ := tableValid_ordered h
  · have := climbing_between rises up hb hc u
    omega
  · have first : (t.map mirror).head? = some (mirror b) := by rw [List.head?_map, hb]; rfl
    have last : (t.map mirror).getLast? = some (mirror c) := by rw [List.getLast?_map, hc]; rfl
    have mirrored := climbing_between (mirror_rises rises) down first last u
    rw [forwardMap_mirror] at mirrored
    change -b.p ≤ _ ∧ _ ≤ -c.p at mirrored
    omega

theorem valid_returns {u : Int} (hu : b.u ≤ u) : reverseMap t (forwardMap t u) ≤ u := by
  obtain ⟨two, rises, up | down⟩ := tableValid_ordered h
  · exact climbing_returns two rises up hb hc hu
  · rw [← reverseMap_mirror down, ← forwardMap_mirror]
    exact climbing_returns (b := mirror b) (c := mirror c) (by rw [List.length_map]; exact two) (mirror_rises rises) down
      (by rw [List.head?_map, hb]; rfl) (by rw [List.getLast?_map, hc]; rfl) hu

end Valid

end Sys2Proof.Machine
end

section
/-! PROOFS. PROFILE LOAD and PROFILE SELECT (O56, R65 to R67). -/

namespace Sys2Proof.Machine

open Sys2Proof

section Judge

variable {s : State} {k : ProfileNo} {p : Profile}

theorem tagTaken_iff (x : Lens) (k : ProfileNo) (tag : Nat) : x.tagTaken k tag = true ↔
    tag ≠ 0 ∧ ∃ j : ProfileNo, j ≠ k ∧ x.slots[j].profile.tag = tag := by
  rw [Lens.tagTaken, Bool.and_eq_true, decide_eq_true_eq, List.any_eq_true]
  refine and_congr Iff.rfl (exists_congr fun j => ?_)
  rw [Bool.and_eq_true, decide_eq_true_eq, decide_eq_true_eq]
  exact and_iff_right (List.mem_finRange j)

/-- R62, R65: the content can stand in the slot. -/
def ProfileFits (x : Lens) (k : ProfileNo) (p : Profile) : Prop :=
  profileValid p = true ∧ (p.tag = 0 ∨ ∀ j : ProfileNo, j ≠ k → x.slots[j].profile.tag ≠ p.tag)

theorem profileFits_iff : (!profileValid p || s.lens.tagTaken k p.tag) = true ↔ ¬ ProfileFits s.lens k p := by
  rw [Bool.or_eq_true, tagTaken_iff, Bool.not_eq_true', ProfileFits, ← Bool.not_eq_true]
  constructor
  · rintro (h | ⟨h0, j, hj, ht⟩) ⟨hv, hf⟩
    · exact h hv
    · exact hf.elim h0 fun hf => hf j hj ht
  · intro h
    by_cases hv : profileValid p = true
    · refine .inr ?_
      by_contra hn
      refine h ⟨hv, ?_⟩
      by_cases h0 : p.tag = 0
      · exact .inl h0
      · exact .inr fun j hj ht => hn ⟨h0, j, hj, ht⟩
    · exact .inl hv

theorem judgeProfileLoad_bad (h : ¬ ProfileFits s.lens k p) :
    judgeProfileLoad { slot := k.val, profile := p } s = refuse .badValue s := by
  unfold judgeProfileLoad
  rw [indexOf_val]
  exact if_pos (profileFits_iff.mpr h)

theorem judgeProfileLoad_fits (h : ProfileFits s.lens k p) : judgeProfileLoad { slot := k.val, profile := p } s =
    if s.lens.active = some k ∧ s.mapInUse then refuse .busy s
    else if s.lens.slots[k].store = .writing ∧ s.mem.reservedQueue.contains (.profile k) then refuse .busy s
    else done (loadProfile k p s) := by
  unfold judgeProfileLoad
  rw [indexOf_val]
  exact if_neg (mt profileFits_iff.mp (not_not.mpr h))

theorem judgeProfileSelect_slot : judgeProfileSelect (some k.val) s =
    if s.lens.slots[k].profile.tag = 0 then refuse .badValue s else selectProfile (some k) s := by
  unfold judgeProfileSelect
  dsimp only
  rw [indexOf_val]

theorem selectProfile_same {sel : Option ProfileNo} (h : s.lens.active = sel) : selectProfile sel s = done s := if_pos h

theorem selectProfile_used {sel : Option ProfileNo} (h : s.lens.active ≠ sel) (hu : s.mapInUse = true) :
    selectProfile sel s = refuse .busy s := (if_neg h).trans (if_pos hu)

theorem selectProfile_free {sel : Option ProfileNo} (h : s.lens.active ≠ sel) (hu : s.mapInUse = false) :
    selectProfile sel s = done (s.setLens { s.lens with active := sel }) :=
  (if_neg h).trans (if_neg (by rw [hu]; exact Bool.false_ne_true))

end Judge

/-! ### An accepted LOAD (R65, R66) -/

/-- While a profile's write waits or is in progress it is neither STORED nor FAILED. -/
def StoreWaits (k : ProfileNo) (s : State) : Prop :=
  s.lens.slots[k].store ≠ .stored ∧ s.lens.slots[k].store ≠ .failed

/-- The array's choices leave a profile that waits to be stored waiting or being written. -/
theorem endWork_lens {s t : State} (k : ProfileNo) (h : t.lens.slots[k].store = s.lens.slots[k].store ∨
    t.lens.slots[k].store = .writing) (hs : StoreWaits k s) : StoreWaits k t := by
  rcases h with h | h
  · rwa [StoreWaits, h]
  · rw [StoreWaits, h]
    exact ⟨nofun, nofun⟩

theorem schedules_storeWaits (k : ProfileNo) : Schedules (StoreWaits k) (StoreWaits k) where
  nothing _ h := h
  read _ _ _ _ _ h := h
  sample i s t _ _ hu h := by
    obtain ⟨⟨v, b, n⟩, hp, rfl⟩ := Option.map_eq_some_iff.mp hu
    rcases placeNext_cases hp with ⟨rfl, -⟩ | ⟨-, rfl, -⟩ <;> exact h
  recordNoRoom i s _ _ _ h := by
    have same : (recordNoRoom i s).lens = s.lens :=
      ((keepsTakes_stopFrame s).recordNoRoom i (.refl s)).lens
    rw [StoreWaits, same]
    exact h
  reserved s h := by
    unfold startReserved
    split
    · exact h
    · dsimp only
      split
      · exact h
      · next j _ _ =>
        refine endWork_lens (s := s) k ?_ h
        rw [setOp, State.setMem_lens, State.setLens_lens, updAt_get]
        split
        · exact .inr rfl
        · exact .inl rfl
      · exact h
  chunk i j s t _ _ hu h := by
    obtain ⟨⟨v, b, n⟩, hp, rfl⟩ := Option.map_eq_some_iff.mp hu
    rcases placeNext_cases hp with ⟨rfl, -⟩ | ⟨-, rfl, -⟩ <;> exact h
  uploadNoRoom i j s _ _ _ h := by
    have same : (uploadNoRoom i j s).lens = s.lens := by
      unfold uploadNoRoom
      dsimp only
      split <;> rfl
    rw [StoreWaits, same]
    exact h
  erase s _ _ h := by
    have same : (startErase s).lens = s.lens := by
      unfold startErase
      split
      · rfl
      · split <;> rfl
    rw [StoreWaits, same]
    exact h

/-- What a LOAD leaves at the end of the command. -/
structure ProfileLoaded (k : ProfileNo) (p : Profile) (s t : State) : Prop where
  profile : t.lens.slots[k].profile = p
  waits : StoreWaits k t
  other : ∀ j : ProfileNo, j ≠ k → t.lens.slots[j].profile = s.lens.slots[j].profile
  active : t.lens.active = if p.tag = 0 ∧ s.lens.active = some k then none else s.lens.active
  busy : s.mem.op.isSome = true → Reserved.profile k ∈ t.mem.reservedQueue ∧ t.lens.slots[k].store =
    if s.lens.slots[k].store = .writing then .writing else .writeWaiting

theorem storeChanged_eq (x : StoreState) : storeChanged x = if x = .writing then .writing else .writeWaiting := by
  cases x <;> rfl

theorem replied_loadProfile (rx : Rx) (a : Answer) (k : ProfileNo) (p : Profile) (s : State) :
    ProfileLoaded k p s (replied rx a (loadProfile k p s)) := by
  have loaded : loadProfile k p s = (s.setLens {
      slots := updAt s.lens.slots k fun x => { profile := p, store := storeChanged x.store },
      active := if p.tag = 0 ∧ s.lens.active = some k then none else s.lens.active }).setMem
    { s.mem with reservedQueue := enqueued (.profile k) s.mem.reservedQueue } := queueReserved_eq _ _
  have own : (loadProfile k p s).lens.slots[k] = { profile := p, store := storeChanged s.lens.slots[k].store } := by
    rw [loaded, State.setMem_lens, State.setLens_lens, updAt_same]
  have other : ∀ j : ProfileNo, j ≠ k → (loadProfile k p s).lens.slots[j] = s.lens.slots[j] := fun j hj => by
    rw [loaded, State.setMem_lens, State.setLens_lens, updAt_other hj.symm]
  have active : (loadProfile k p s).lens.active = if p.tag = 0 ∧ s.lens.active = some k then none else s.lens.active := by
    rw [loaded]
    rfl
  have queue : (loadProfile k p s).mem = { s.mem with reservedQueue := enqueued (.profile k) s.mem.reservedQueue } := by
    rw [loaded]
    rfl
  have waits : StoreWaits k (loadProfile k p s) := by
    rw [StoreWaits, own]
    cases s.lens.slots[k].store <;> exact ⟨nofun, nofun⟩
  generalize loadProfile k p s = u at own other active queue waits
  have ended := ended_replied rx a u
  have pushed := pushReply_frame rx.port (a.reply rx.tag .ordinary) u
  refine ⟨?_, ?_, fun j hj => ?_, ended.active.trans active, fun ho => ?_⟩
  · rw [ended.profile, own]
  · exact (schedules_storeWaits k).settle (fun t h => by rw [StoreWaits, (pump_frame t).lens]; exact h)
      (by rw [StoreWaits, pushed.lens]; exact waits)
  · rw [ended.profile, other j hj]
  · obtain ⟨hm, -, hl, -⟩ := replied_busy (s := u) (by rw [queue]; exact ho) rx a
    rw [hm, hl, own, queue]
    exact ⟨mem_enqueued _ _, storeChanged_eq _⟩

/-- Settles O56: both maps of a valid table, and the rows of the two requests in their order. -/
theorem lensMapsAndProfiles : Obligations.LensMapsAndProfiles := by
  unfold Obligations.LensMapsAndProfiles
  refine ⟨fun t h => ⟨fun b hb => valid_breakpoint h hb, fun before after b c ht => ⟨fun u h1 h2 => ?_, fun p hp =>
    valid_segment h ht hp⟩, fun b c hb hc => ?_⟩, fun rx r k s h hr hl => ?_⟩
  · obtain ⟨-, rises, -⟩ := tableValid_ordered h
    rw [ht] at rises ⊢
    exact forwardMap_segment rises h1 h2
  · obtain ⟨-, rises, -⟩ := tableValid_ordered h
    exact ⟨fun u hu => forwardMap_low rises hb hu, fun u hu => forwardMap_high rises hc hu, fun hbc p => valid_up h hb hc hbc p,
      fun hbc p => valid_down h hb hc hbc p, fun u => valid_between h hb hc u, fun u hu => valid_returns h hb hc hu⟩
  · have allowed : r ∈ [Role.motion, Role.lens] := by rcases hl with rfl | rfl <;> decide
    have role : (noteValid rx s).ports[rx.port].role = some r := (noteValid_role rx s rx.port).trans hr
    have load : ∀ {a s1 ans}, judgeProfileLoad a (noteValid rx s) = (s1, some ans) →
        exec (.profileLoad rx (.fields a)) s = .next (replied rx ans s1) := fun hj =>
      congrArg Host.Outcome.next (takeRequest_answered
        (judge := fun a => forRoles [.motion, .lens] rx.port (judgeProfileLoad a)) h ((forRoles_in role allowed).trans hj))
    have select : ∀ {a s1 ans}, judgeProfileSelect a (noteValid rx s) = (s1, some ans) →
        exec (.profileSelect rx (.fields a)) s = .next (replied rx ans s1) := fun hj =>
      congrArg Host.Outcome.next (takeRequest_answered
        (judge := fun a => forRoles [.motion, .lens] rx.port (judgeProfileSelect a)) h ((forRoles_in role allowed).trans hj))
    have active : (noteValid rx s).isActive rx.port = true :=
      (noteValid_isActive (rx := rx) (s := s) (p := rx.port)).trans h.1
    refine ⟨fun p hb => load (judgeProfileLoad_bad (s := noteValid rx s) fun hf => ?_), fun p hv ht => ?_, fun n p hn => load ?_,
      fun n hn => select ?_, fun hz => select ?_, fun hz ha => ⟨fun hu => select ?_, fun hu => select ?_⟩, fun hz ha => select ?_,
      fun ha => select (selectProfile_same ha), fun ha hu => select (selectProfile_used (s := noteValid rx s) ha hu),
      fun hu => ?_⟩
    · obtain ⟨hv, hf⟩ := hf
      rcases hb with hb | ⟨h0, j, hj, hb⟩
      · exact Bool.false_ne_true (hb.symm.trans hv)
      · exact hf.elim h0 fun hf => hf j hj hb
    · have judged := judgeProfileLoad_fits (s := noteValid rx s) (k := k) (p := p) ⟨hv, ht⟩
      refine ⟨fun ha hu => load (judged.trans (if_pos ⟨ha, hu⟩)), fun ha hw hq => load ?_, fun ha hw => ?_⟩
      all_goals
        have notUsed : ¬ ((noteValid rx s).lens.active = some k ∧ (noteValid rx s).mapInUse = true) := by
          rintro ⟨h1, h2⟩
          exact ha.elim (fun hn => hn h1) fun hn => Bool.false_ne_true (hn.symm.trans h2)
        rw [if_neg notUsed] at judged
      · exact judged.trans (if_pos ⟨hw, List.contains_iff_mem.mpr hq⟩)
      · have waiting : ¬ ((noteValid rx s).lens.slots[k].store = .writing ∧
            (noteValid rx s).mem.reservedQueue.contains (.profile k) = true) := by
          rintro ⟨h1, h2⟩
          exact hw.elim (fun hn => hn h1) fun hn => hn (List.contains_iff_mem.mp h2)
        have done := replied_loadProfile rx Answer.done k p (noteValid rx s)
        have taken := load (judged.trans (if_neg waiting))
        have loadedActive : (loadProfile k p (noteValid rx s)).isActive rx.port = true := by
          rw [loadProfile, queueReserved_eq]
          exact active
        refine ⟨_, taken, done.profile, done.waits.1, done.waits.2, done.other, done.active, ?_, done.busy⟩
        rw [replied_replies loadedActive, loadProfile, queueReserved_eq]
        exact congrArg (· ++ _) (noteValid_replies rx s rx.port)
    · unfold judgeProfileLoad
      rw [indexOf_of_le hn]
      rfl
    · unfold judgeProfileSelect
      dsimp only
      rw [indexOf_of_le hn]
      rfl
    · exact judgeProfileSelect_slot.trans (if_pos hz)
    · exact judgeProfileSelect_slot.trans ((if_neg hz).trans (selectProfile_used (s := noteValid rx s) ha hu))
    · exact judgeProfileSelect_slot.trans ((if_neg hz).trans (selectProfile_free (s := noteValid rx s) ha hu))
    · exact judgeProfileSelect_slot.trans ((if_neg hz).trans (selectProfile_same (s := noteValid rx s) ha))
    · by_cases ha : s.lens.active = none
      · have same : (noteValid rx s).setLens { s.lens with active := none } = noteValid rx s := by
          rw [← ha]
          rfl
        rw [same]
        exact select (selectProfile_same ha)
      · exact select (selectProfile_free (s := noteValid rx s) ha hu)

end Sys2Proof.Machine
end

section
/-! PROOFS. Bytes: fields read back what they encode, and the receiver what the envelope frames (O13, R184 to R186). -/

namespace Sys2Proof.Machine

open Sys2Proof

/-! ### Unsigned fields -/

theorem beNat_succ (n x : Nat) : beNat (n + 1) x = beNat n (x / 256) ++ [BitVec.ofNat 8 x] := by
  simp [beNat, List.range_succ_eq_map, List.map_reverse, Nat.pow_succ', Nat.div_div_eq_div_mul]

theorem beNat_two (x : Nat) : beNat 2 x = [BitVec.ofNat 8 (x / 256), BitVec.ofNat 8 x] := by
  simp [beNat, List.range_succ]

@[simp] theorem length_beNat (n x : Nat) : (beNat n x).length = n := by simp [beNat]

theorem natOf_concat (bs : List Byte) (b : Byte) : natOf (bs ++ [b]) = natOf bs * 256 + b.toNat := by
  simp [natOf]

theorem natOf_beNat {n x : Nat} (h : x < 256 ^ n) : natOf (beNat n x) = x := by
  induction n generalizing x with
  | zero =>
    have : x = 0 := by simpa using h
    simp [this, beNat, natOf]
  | succ n ih =>
    have high : x / 256 < 256 ^ n := Nat.div_lt_of_lt_mul (by rwa [Nat.pow_succ, Nat.mul_comm] at h)
    rw [beNat_succ, natOf_concat, ih high, BitVec.toNat_ofNat]
    omega

/-! ### The envelope -/

theorem natOf_pair {x : Nat} (h : x < 65536) : natOf [BitVec.ofNat 8 (x / 256), BitVec.ofNat 8 x] = x := by
  rw [← beNat_two]
  exact natOf_beNat h

/-- What follows the start pair of a frame is read as that frame. -/
theorem readFrame_encoded (kind : Byte) (tag : Word16) {body : List Byte} (rest : List Byte) (h : body.length ≤ 2048) :
    readFrame ((encFrame kind tag body ++ rest).drop 2) = .valid kind tag body rest := by
  have len := natOf_pair (x := body.length) (by omega)
  have check (c : Word16) := natOf_pair (x := c.toNat) c.isLt
  simp only [encFrame, beNat_two, List.cons_append, List.nil_append, List.append_assoc, List.drop_succ_cons, List.drop_zero,
    readFrame, len, List.take_left, List.drop_left, List.length_append, List.length_cons, check]
  rw [if_neg (by omega), if_neg (by omega)]
  simp

/-- Settles O13: the lengths the header gives put body, check and end pair where the envelope has them. -/
theorem frameEnvelopeRoundTrip : Obligations.FrameEnvelopeRoundTrip := by
  intro port time n kind tag body rest h
  have framed : encFrame kind tag body ++ rest = 0xA5#8 :: 0x5A#8 :: (encFrame kind tag body ++ rest).drop 2 := by
    simp [encFrame]
  rw [framed, receive, readFrame_encoded kind tag rest h]

end Sys2Proof.Machine
end

section
/-! PROOFS. Record bodies: each field's reader takes back what its writer put, and the readers compose (O14, R186, R190). -/

namespace Sys2Proof.Machine

open Sys2Proof

/-- The reader takes exactly these bytes, whatever follows them, and gives the value. -/
def Reads {α : Type} (p : Parse α) (bs : List Byte) (a : α) : Prop := ∀ rest, p.run (bs ++ rest) = some (a, rest)

namespace Reads

variable {α β : Type} {p : Parse α} {f : α → Parse β} {xs ys : List Byte} {a : α} {b : β}

theorem pure (a : α) : Reads (Pure.pure a) [] a := fun _ => rfl

theorem bind (hp : Reads p xs a) (hf : Reads (f a) ys b) : Reads (p >>= f) (xs ++ ys) b := by
  intro rest
  rw [StateT.run_bind, List.append_assoc, hp]
  exact hf rest

theorem last {g : α → β} (hp : Reads p xs a) : Reads (p >>= fun a => Pure.pure (g a)) xs (g a) := by
  have joined := hp.bind (f := fun a => Pure.pure (g a)) (pure (g a))
  rwa [List.append_nil] at joined

theorem ensure {c : Bool} (h : c = true) : Reads (ensure c) [] () := by
  subst h
  exact pure ()

theorem guarded {c : Bool} (h : c = true) (hp : Reads p xs a) : Reads (Machine.ensure c >>= fun _ => p) xs a :=
  (Reads.ensure h).bind hp

/-- A body its reader takes whole decodes to the value. -/
theorem decodeBody (hp : Reads p xs a) : decodeBody p xs = .fields a := by
  have whole := hp []
  rw [List.append_nil] at whole
  rw [Machine.decodeBody, whole]

end Reads

/-! ### Fields -/

theorem reads_takeBytes {n : Nat} {bs : List Byte} (h : bs.length = n) : Reads (takeBytes n) bs bs := by
  intro rest
  subst h
  exact (if_pos (by simp)).trans (by simp)

theorem reads_getNat {n x : Nat} (h : fits n x = true) : Reads (getNat n) (beNat n x) x := by
  have read := (reads_takeBytes (length_beNat n x)).last (g := natOf)
  rwa [natOf_beNat (of_decide_eq_true h)] at read

theorem reads_byte {x : Nat} (h : x < 256) : Reads (getNat 1) [byteOf x] x := by
  have read := reads_getNat (n := 1) (x := x) (decide_eq_true h)
  simpa [beNat, byteOf] using read

theorem reads_getInt {x : Int} (h : fitsInt 8 x = true) : Reads (getInt 8) (beInt 8 x) x := by
  obtain ⟨low, high⟩ : -9223372036854775808 ≤ x ∧ x < 9223372036854775808 := by simpa [fitsInt] using h
  have size : fits 8 (x % (256 ^ 8 : Nat)).toNat = true := decide_eq_true (by omega)
  have value : (if (x % (256 ^ 8 : Nat)).toNat < 128 * 256 ^ (8 - 1) then ((x % (256 ^ 8 : Nat)).toNat : Int)
      else (x % (256 ^ 8 : Nat)).toNat - 256 ^ 8) = x := by
    split <;> omega
  have read := (reads_getNat size).last (g := fun y : Nat => if y < 128 * 256 ^ (8 - 1) then (y : Int) else (y : Int) - 256 ^ 8)
  rwa [value] at read

theorem reads_getFlag (b : Bool) : Reads getFlag (flag b) b := by
  cases b with
  | false => exact (reads_byte (x := 0) (by decide)).bind ((Reads.pure false).guarded rfl)
  | true => exact (reads_byte (x := 1) (by decide)).bind ((Reads.pure true).guarded rfl)

theorem reads_getChoice {α : Type} {xs : List α} {i : Nat} {a : α} (hi : i < 256) (h : xs[i]? = some a) :
    Reads (getChoice xs) [byteOf i] a := by
  have pick : Reads (match xs[i]? with | some a => (pure a : Parse α) | none => failure) [] a := by
    rw [h]
    exact Reads.pure a
  exact (reads_byte hi).bind pick

theorem reads_getLaneSet (ls : LaneSet) : Reads getLaneSet (encLaneSet ls) ls := by
  have read := (reads_getNat (n := 2) (x := ls.toNat) (decide_eq_true ls.isLt)).last (g := BitVec.ofNat 16)
  rwa [BitVec.ofNat_toNat, BitVec.setWidth_eq] at read

/-! ### Names -/

theorem length_encName {n : Name} (h : n.length ≤ 16) : (encName n).length = 16 := by
  rw [encName, List.length_append, List.length_take, List.length_replicate]
  omega

theorem reads_getName {n : Name} (h : nameFits n = true) : Reads getName (encName n) n := by
  obtain ⟨short, printable⟩ : n.length ≤ 16 ∧ (n.all fun c => 0x20 ≤ c.toNat && c.toNat ≤ 0x7E) = true := by
    simpa only [nameFits, Bool.and_eq_true, decide_eq_true_iff] using h
  have nonzero : ∀ b ∈ n, (decide (b ≠ 0)) = true := by
    intro b hb
    have code := List.all_eq_true.mp printable b hb
    rw [decide_eq_true_iff]
    rintro rfl
    exact absurd code (by decide)
  have front : (encName n).takeWhile (fun b => b ≠ 0) = n := by
    rw [encName, List.take_of_length_le short, List.takeWhile_append_of_pos nonzero]
    simp
  have back : ((encName n).dropWhile fun b => b ≠ 0).all (fun b => b = 0) = true := by
    rw [encName, List.take_of_length_le short, List.dropWhile_append_of_pos nonzero]
    simp
  have tail : Reads (ensure ((n.all fun b => 0x20 ≤ b.toNat && b.toNat ≤ 0x7E) &&
      ((encName n).dropWhile fun b => b ≠ 0).all fun b => b = 0) >>= fun _ => pure n) [] n :=
    (Reads.pure n).guarded (by rw [printable, back]; rfl)
  have read := (reads_takeBytes (length_encName short)).bind (f := fun bs =>
    ensure ((((bs.takeWhile fun b => b ≠ 0).all fun b => 0x20 ≤ b.toNat && b.toNat ≤ 0x7E) &&
      (bs.dropWhile fun b => b ≠ 0).all fun b => b = 0)) >>= fun _ => pure (bs.takeWhile fun b => b ≠ 0)) (by
        rw [front]
        exact tail)
  rwa [List.append_nil] at read

/-! ### Lists -/

theorem reads_getMany {α : Type} {p : Parse α} {enc : α → List Byte} {xs : List α} (h : ∀ x ∈ xs, Reads p (enc x) x) :
    Reads (getMany p xs.length) (xs.flatMap enc) xs := by
  induction xs with
  | nil => exact Reads.pure []
  | cons x xs ih =>
    rw [List.flatMap_cons]
    exact (h x List.mem_cons_self).bind (ih fun y hy => h y (List.mem_cons_of_mem _ hy)).last

theorem reads_getList {α : Type} {p : Parse α} {enc : α → List Byte} {f : α → Bool} {xs : List α}
    (h : ∀ x, f x = true → Reads p (enc x) x) (hf : listFits f xs = true) : Reads (getList p) (encList enc xs) xs := by
  obtain ⟨short, all⟩ : xs.length < 256 ∧ xs.all f = true := by
    simpa only [listFits, Bool.and_eq_true, decide_eq_true_iff] using hf
  exact (reads_byte short).bind (reads_getMany fun x hx => h x (List.all_eq_true.mp all x hx))

/-! ### Records -/

theorem reads_getInterval (i : Interval) (h : i.wf = true) :
    Reads getInterval (beNat 1 i.lane ++ beInt 8 i.low ++ beInt 8 i.high) i := by
  obtain ⟨⟨lane, low⟩, high⟩ := by simpa only [Interval.wf, Bool.and_eq_true] using h
  rw [List.append_assoc]
  exact (reads_getNat lane).bind ((reads_getInt low).bind (reads_getInt high).last)

theorem reads_getBreakpoint (b : Breakpoint) (h : b.wf = true) : Reads getBreakpoint (beNat 4 b.u ++ beInt 8 b.p) b := by
  obtain ⟨u, p⟩ := by simpa only [Breakpoint.wf, Bool.and_eq_true] using h
  exact (reads_getNat u).bind (reads_getInt p).last

theorem reads_zoneKind (k : ZoneKind) :
    Reads (getChoice [ZoneKind.keepOut, .slow]) (one (match k with | .keepOut => 0 | .slow => 1)) k := by
  cases k with
  | keepOut => exact reads_getChoice (i := 0) (by decide) rfl
  | slow => exact reads_getChoice (i := 1) (by decide) rfl

theorem reads_getZoneSet {a : ZoneSetArgs} (h : a.wf = true) : Reads getZoneSet (encZone a.entry a.record) a := by
  obtain ⟨⟨entry, scale⟩, intervals⟩ := by simpa only [ZoneSetArgs.wf, Bool.and_eq_true] using h
  simp only [encZone, List.append_assoc]
  exact (reads_getNat entry).bind ((reads_zoneKind _).bind ((reads_getFlag _).bind ((reads_getNat scale).bind
    (reads_getList reads_getInterval intervals).last)))

theorem reads_getPresence {a : PresenceArgs} (h : a.wf = true) :
    Reads getPresence (encPresence a.line { lanes := a.lanes, scale := a.scale, asserted := false }) a := by
  obtain ⟨line, scale⟩ := by simpa only [PresenceArgs.wf, Bool.and_eq_true] using h
  simp only [encPresence, List.append_assoc]
  exact (reads_getNat line).bind ((reads_getLaneSet _).bind (reads_getNat scale).last)

/-- A table reads back; an empty one would be read as an absent one (R190). -/
theorem reads_getTable {t : Option (List Breakpoint)} (h : optFits (listFits Breakpoint.wf) t = true) (ht : t ≠ some []) :
    Reads getTable (encTable t) t := by
  cases t with
  | none => exact (reads_getList reads_getBreakpoint (xs := []) rfl).last (g := fun t => if t.isEmpty then none else some t)
  | some bs =>
    have read := (reads_getList reads_getBreakpoint h).last (g := fun t => if t.isEmpty then none else some t)
    rwa [if_neg (by simpa using ht)] at read

theorem reads_getProfileLoad {a : ProfileLoadArgs} (h : a.wf = true) (hf : a.profile.focus ≠ some [])
    (hi : a.profile.iris ≠ some []) (hz : a.profile.zoom ≠ some []) : Reads getProfileLoad (encProfile a.slot a.profile) a := by
  obtain ⟨slot, ⟨⟨⟨tag, name⟩, focus⟩, iris⟩, zoom⟩ := by
    simpa only [ProfileLoadArgs.wf, Profile.wf, Bool.and_eq_true] using h
  simp only [encProfile, List.append_assoc]
  exact (reads_getNat slot).bind ((reads_getNat tag).bind ((reads_getName name).bind ((reads_getTable focus hf).bind
    ((reads_getTable iris hi).bind (reads_getTable zoom hz).last))))

/-- Settles O14: each reader takes its fields' bytes in the order of their writing. -/
theorem recordBodiesRoundTrip : Obligations.RecordBodiesRoundTrip :=
  ⟨fun _ h => (reads_getZoneSet h).decodeBody, fun _ h => (reads_getPresence h).decodeBody,
    fun _ h hf hi hz => (reads_getProfileLoad h hf hi hz).decodeBody⟩

end Sys2Proof.Machine
end

section
/-! PROOFS. A power-up: the profiles, the rig record and the lanes as they are read back (O21, R23, R66, R165). -/

namespace Sys2Proof.Machine

open Sys2Proof

/-! ### The profiles (R66) -/

/-- A slot whose stored profile reads back whole and is valid. -/
def FitProfile (st : Vector (Option Profile) 4) (k : ProfileNo) (p : Profile) : Prop := st[k] = some p ∧ profileValid p = true

/-- A lower slot holds a fit profile of the same tag. -/
def TagTaken (st : Vector (Option Profile) 4) (k : ProfileNo) (tag : Nat) : Prop :=
  ∃ (j : ProfileNo) (q : Profile), j < k ∧ FitProfile st j q ∧ q.tag = tag

section Profiles

variable {st : Vector (Option Profile) 4} {k : ProfileNo} {p : Profile}

theorem readProfile_absent (h : st[k] = none) : readProfile st k = { profile := Profile.empty, store := .failed } := by
  unfold readProfile
  dsimp only
  rw [h]

theorem readProfile_unfit (h : st[k] = some p) (hp : profileValid p = false) :
    readProfile st k = { profile := Profile.empty, store := .failed } := by
  unfold readProfile
  dsimp only
  rw [h]
  dsimp only
  rw [hp]
  rfl

theorem readProfile_fit (h : FitProfile st k p) [Decidable (p.tag ≠ 0 ∧ TagTaken st k p.tag)] :
    readProfile st k = if p.tag ≠ 0 ∧ TagTaken st k p.tag then { profile := Profile.empty, store := .failed }
      else { profile := p, store := .stored } := by
  obtain ⟨stored, valid⟩ := h
  have taken : ((p.tag ≠ 0 && (List.finRange 4).any fun j => j.val < k.val && (match (match st[j] with
      | some q => if profileValid q then some q else none
      | none => none) with
      | some q => q.tag = p.tag
      | none => false)) = true) ↔ p.tag ≠ 0 ∧ TagTaken st k p.tag := by
    simp only [Bool.and_eq_true, decide_eq_true_iff, List.any_eq_true, List.mem_finRange, true_and, TagTaken, FitProfile]
    refine and_congr_right fun _ => exists_congr fun j => ?_
    cases hj : st[j] with
    | none => simp
    | some q => cases hq : profileValid q <;> simp [hq]
  unfold readProfile
  dsimp only
  rw [stored]
  dsimp only
  rw [if_pos valid]
  exact if_congr taken rfl rfl

end Profiles

/-! ### What is read back -/

section Read

variable {d : Damage} {s : State} {k : ProfileNo} {p : Profile}

theorem readReserved_profile (d : Damage) (s : State) (k : ProfileNo) :
    (readReserved d s).profiles[k] = if d.profiles.contains k then none else s.mem.stored.profiles[k] :=
  mapAll_get _ _ k

theorem readReserved_profile_some :
    (readReserved d s).profiles[k] = some p ↔ k ∉ d.profiles ∧ s.mem.stored.profiles[k] = some p := by
  rw [readReserved_profile]
  by_cases hk : k ∈ d.profiles <;> simp [hk]

theorem fitProfile_read : FitProfile (readReserved d s).profiles k p ↔
    k ∉ d.profiles ∧ s.mem.stored.profiles[k] = some p ∧ profileValid p = true := by
  rw [FitProfile, readReserved_profile_some, and_assoc]

theorem tagTaken_read {tag : Nat} : TagTaken (readReserved d s).profiles k tag ↔
    ∃ (j : ProfileNo) (q : Profile), j < k ∧ j ∉ d.profiles ∧ s.mem.stored.profiles[j] = some q ∧ profileValid q = true ∧
      q.tag = tag := by
  simp only [TagTaken, fitProfile_read, and_assoc]

theorem powerUp_lensSlot (lines : LineStates) (d : Damage) (s : State) (k : ProfileNo) :
    (powerUp lines d s).lens.slots[k] = readProfile (readReserved d s).profiles k := Vector.getElem_ofFn _

/-- A slot that does not read back whole and valid is empty and FAILED. -/
theorem powerUp_lensFailed (lines : LineStates) (h : ∀ p, ¬ FitProfile (readReserved d s).profiles k p) :
    (powerUp lines d s).lens.slots[k] = { profile := Profile.empty, store := .failed } := by
  rw [powerUp_lensSlot]
  cases hp : (readReserved d s).profiles[k] with
  | none => exact readProfile_absent hp
  | some p => exact readProfile_unfit hp (Bool.eq_false_iff.mpr fun valid => h p ⟨hp, valid⟩)

theorem powerUp_lensTaken (lines : LineStates) (h : FitProfile (readReserved d s).profiles k p)
    (ht : p.tag ≠ 0 ∧ TagTaken (readReserved d s).profiles k p.tag) :
    (powerUp lines d s).lens.slots[k] = { profile := Profile.empty, store := .failed } := by
  classical rw [powerUp_lensSlot, readProfile_fit h, if_pos ht]

theorem powerUp_lensStored (lines : LineStates) (h : FitProfile (readReserved d s).profiles k p)
    (ht : ¬ (p.tag ≠ 0 ∧ TagTaken (readReserved d s).profiles k p.tag)) :
    (powerUp lines d s).lens.slots[k] = { profile := p, store := .stored } := by
  classical rw [powerUp_lensSlot, readProfile_fit h, if_neg ht]

theorem readReserved_rig (d : Damage) (s : State) : (readReserved d s).rig = if d.rig then none else s.mem.stored.rig := rfl

theorem powerUp_rig (lines : LineStates) (d : Damage) (s : State) :
    (powerUp lines d s).rig = readRig (readReserved d s).rig := rfl

theorem powerUp_lane (lines : LineStates) (d : Damage) (s : State) (l : Lane) :
    (powerUp lines d s).lanes[l] = powerLane (powerUp lines d s).rig.record l := Vector.getElem_ofFn _

end Read

/-- A blank rig record: limits 0, ceilings, floor and defaults 1 (R165). -/
theorem rigBlank_lane (l : Lane) : RigRecord.blank.lanes[l] =
    { hardMin := 0, hardMax := 0, vmaxCeil := 1, aCeil := 1, astopFloor := 1, followCeil := 1, defVmax := 1, defA := 1,
      defAstop := 1, defK := 1 } := Vector.getElem_replicate _

/-- Settles O21: each unit's power-up value, the profiles by whether a lower slot has taken the tag, the rig record by
whether it reads back. -/
theorem powerUpStartsEveryBlock : Obligations.PowerUpStartsEveryBlock := by
  intro lines d s
  refine ⟨powerUp lines d s, rfl, rfl, rfl, rfl, fun l => Vector.getElem_replicate _, rfl, rfl, rfl, rfl, rfl, rfl, rfl,
    rfl, rfl, fun k => ?_, fun k p hd hp valid => ⟨fun free => ?_, fun taken => ?_⟩, fun k bad => ?_, rfl, rfl, rfl, rfl, rfl,
    rfl, rfl, rfl, rfl, rfl, rfl, rfl, fun z => Vector.getElem_replicate _, fun i => ?_, rfl, fun l => ?_, fun p => ?_,
    fun r hd hr => ?_, fun bad => ?_, fun l present => ?_, fun l absent => ?_⟩
  · by_cases fit : ∃ p, FitProfile (readReserved d s).profiles k p
    · obtain ⟨p, fit⟩ := fit
      by_cases taken : p.tag ≠ 0 ∧ TagTaken (readReserved d s).profiles k p.tag
      · exact .inl (powerUp_lensTaken lines fit taken)
      · obtain ⟨whole, stored, -⟩ := fitProfile_read.mp fit
        exact .inr ⟨whole, p, stored, powerUp_lensStored lines fit taken⟩
    · exact .inl (powerUp_lensFailed lines (not_exists.mp fit))
  · refine powerUp_lensStored lines (fitProfile_read.mpr ⟨hd, hp, valid⟩) ?_
    rintro ⟨tagged, taken⟩
    obtain ⟨j, q, below, whole, stored, fit, same⟩ := tagTaken_read.mp taken
    rcases free with zero | other
    · exact tagged zero
    · exact other j q below whole stored fit same
  · exact powerUp_lensTaken lines (fitProfile_read.mpr ⟨hd, hp, valid⟩) ⟨taken.1, tagTaken_read.mpr taken.2⟩
  · refine powerUp_lensFailed lines fun p fit => ?_
    obtain ⟨whole, stored, valid⟩ := fitProfile_read.mp fit
    rcases bad with damaged | absent | ⟨q, hq, unfit⟩
    · exact whole damaged
    · rw [absent] at stored
      cases stored
    · rw [stored] at hq
      cases hq
      rw [valid] at unfit
      cases unfit
  · exact (mapAll_get _ _ i).trans (by simp [Safety.reset])
  · have channel : (powerUp lines d s).drives.channels[l] = Channel.reset := Vector.getElem_replicate _
    rw [channel]
    exact ⟨rfl, rfl, rfl, rfl, rfl, rfl, rfl, rfl⟩
  · rw [powerUp_port]
    exact ⟨rfl, rfl, rfl, rfl, rfl, rfl, rfl, rfl, rfl, rfl, rfl⟩
  · rw [powerUp_rig, readReserved_rig, hd, hr]
    rfl
  · have absent : (readReserved d s).rig = none := by
      rw [readReserved_rig]
      rcases bad with damaged | absent
      · exact if_pos damaged
      · rw [absent, ite_self]
    rw [powerUp_rig, absent]
    exact ⟨rfl, rfl, rfl, rfl, rfl, rigBlank_lane⟩
  · rw [powerUp_lane, powerLane, if_pos present]
    rfl
  · rw [powerUp_lane, powerLane, if_neg (Bool.eq_false_iff.mp absent)]
    exact ⟨rfl, rfl, rfl, rfl, rfl, rfl⟩

end Sys2Proof.Machine
end

section
/-! PROOFS. A slot's USED blocks in the order of their places (R77, R100, log 47). -/

namespace Sys2Proof.Machine

open Sys2Proof

/-- The place of a block in the list of a slot. -/
def placeIn (i : SlotNo) (b : BlockNo) : BlockState → Option (Nat × BlockNo)
  | .used o place _ => if o = i then some (place, b) else none
  | _ => none

theorem placeIn_some {i : SlotNo} {b : BlockNo} {x : BlockState} {y : Nat × BlockNo} :
    placeIn i b x = some y ↔ y.2 = b ∧ ∃ retire, x = .used i y.1 retire := by
  cases x with
  | used o place retire =>
    obtain ⟨p, c⟩ := y
    by_cases ho : o = i
    · simp [placeIn, ho, and_comm, eq_comm]
    · simp [placeIn, ho]
  | free => simp [placeIn]
  | dirty => simp [placeIn]
  | bad => simp [placeIn]
  | erasing suspended => simp [placeIn]

/-! ### Insertion by place -/

theorem insertPlaced_eq (x : Nat × BlockNo) (l : List (Nat × BlockNo)) :
    insertPlaced x l = l.orderedInsert (fun x y => x.1 ≤ y.1) x := by
  induction l with
  | nil => rfl
  | cons y ys ih => rw [insertPlaced, List.orderedInsert_cons, ih]

/-- The entries inserted one after the other. -/
def insertAll (xs : List (Nat × BlockNo)) (acc : List (Nat × BlockNo)) : List (Nat × BlockNo) :=
  xs.foldl (fun acc x => insertPlaced x acc) acc

theorem insertAll_perm (xs acc : List (Nat × BlockNo)) : (insertAll xs acc).Perm (xs ++ acc) := by
  induction xs generalizing acc with
  | nil => exact .refl _
  | cons x xs ih =>
    have first : (insertPlaced x acc).Perm (x :: acc) := by
      rw [insertPlaced_eq]
      exact List.perm_orderedInsert _ _ _
    exact (ih (insertPlaced x acc)).trans ((first.append_left xs).trans List.perm_middle)

theorem insertAll_ordered {xs acc : List (Nat × BlockNo)} (h : acc.Pairwise fun x y => x.1 ≤ y.1) :
    (insertAll xs acc).Pairwise fun x y => x.1 ≤ y.1 := by
  induction xs generalizing acc with
  | nil => exact h
  | cons x xs ih =>
    refine ih (acc := insertPlaced x acc) ?_
    rw [insertPlaced_eq]
    have total : Std.Total fun x y : Nat × BlockNo => x.1 ≤ y.1 := ⟨fun x y => Nat.le_total x.1 y.1⟩
    have trans : IsTrans (Nat × BlockNo) fun x y => x.1 ≤ y.1 := ⟨fun _ _ _ => Nat.le_trans⟩
    exact h.orderedInsert x _

/-! ### The blocks of a slot -/

/-- The entries of a slot's block list, in the order of their places. -/
def placedBlocks (v : Vector BlockState 64) (i : SlotNo) : List (Nat × BlockNo) :=
  insertAll ((List.finRange 64).filterMap fun b => placeIn i b v[b]) []

theorem foldl_insertAll {f : List (Nat × BlockNo) → BlockNo → List (Nat × BlockNo)} {g : BlockNo → Option (Nat × BlockNo)}
    (skip : ∀ acc b, g b = none → f acc b = acc) (put : ∀ acc b x, g b = some x → f acc b = insertPlaced x acc)
    (l : List BlockNo) (acc : List (Nat × BlockNo)) : l.foldl f acc = insertAll (l.filterMap g) acc := by
  induction l generalizing acc with
  | nil => rfl
  | cons b bs ih =>
    rw [List.foldl_cons, ih]
    cases hg : g b with
    | none => rw [skip acc b hg, List.filterMap_cons_none hg]
    | some x =>
      rw [put acc b x hg, List.filterMap_cons_some hg]
      rfl

theorem ownedBlocks_eq (v : Vector BlockState 64) (i : SlotNo) : ownedBlocks v i = (placedBlocks v i).map fun x => x.2 := by
  refine congrArg (List.map fun x : Nat × BlockNo => x.2) (foldl_insertAll (fun acc b hg => ?_) (fun acc b x hg => ?_) _ _)
  · cases hb : v[b] with
    | used o place retire =>
      refine if_neg fun ho => ?_
      rw [hb, placeIn, if_pos ho] at hg
      cases hg
    | free => rfl
    | dirty => rfl
    | bad => rfl
    | erasing suspended => rfl
  · obtain ⟨rfl, retire, hb⟩ := placeIn_some.mp hg
    rw [hb]
    exact if_pos rfl

theorem mem_placedBlocks {v : Vector BlockState 64} {i : SlotNo} {x : Nat × BlockNo} :
    x ∈ placedBlocks v i ↔ ∃ retire, v[x.2] = .used i x.1 retire := by
  rw [placedBlocks, (insertAll_perm _ _).mem_iff, List.append_nil, List.mem_filterMap]
  constructor
  · rintro ⟨b, -, hb⟩
    obtain ⟨rfl, retire, used⟩ := placeIn_some.mp hb
    exact ⟨retire, used⟩
  · rintro ⟨retire, used⟩
    exact ⟨x.2, List.mem_finRange _, placeIn_some.mpr ⟨rfl, retire, used⟩⟩

theorem mem_ownedBlocks {v : Vector BlockState 64} {i : SlotNo} {b : BlockNo} :
    b ∈ ownedBlocks v i ↔ ∃ place retire, v[b] = .used i place retire := by
  rw [ownedBlocks_eq, List.mem_map]
  constructor
  · rintro ⟨x, hx, rfl⟩
    exact ⟨x.1, mem_placedBlocks.mp hx⟩
  · rintro ⟨place, used⟩
    exact ⟨(place, b), mem_placedBlocks.mpr used, rfl⟩

theorem map_filterMap_placeIn (v : Vector BlockState 64) (i : SlotNo) (l : List BlockNo) :
    ((l.filterMap fun b => placeIn i b v[b]).map fun x => x.2).Sublist l := by
  induction l with
  | nil => exact .slnil
  | cons b bs ih =>
    cases hb : placeIn i b v[b] with
    | none =>
      rw [List.filterMap_cons_none (f := fun b => placeIn i b v[b]) hb]
      exact ih.cons b
    | some x =>
      rw [List.filterMap_cons_some (f := fun b => placeIn i b v[b]) hb, List.map_cons, (placeIn_some.mp hb).1]
      exact ih.cons_cons b

theorem ownedBlocks_nodup (v : Vector BlockState 64) (i : SlotNo) : (ownedBlocks v i).Nodup := by
  rw [ownedBlocks_eq, placedBlocks, ((insertAll_perm _ _).map _).nodup_iff, List.append_nil]
  exact (map_filterMap_placeIn v i _).nodup (List.nodup_finRange 64)

/-- An earlier block of the list has no later place. -/
theorem ownedBlocks_ordered {v : Vector BlockState 64} {i : SlotNo} {j k : Nat} {b c : BlockNo} {p q : Nat} {x y : Bool}
    (before : j < k) (hj : (ownedBlocks v i)[j]? = some b) (hk : (ownedBlocks v i)[k]? = some c)
    (hb : v[b] = .used i p x) (hc : v[c] = .used i q y) : p ≤ q := by
  rw [ownedBlocks_eq, List.getElem?_map, Option.map_eq_some_iff] at hj hk
  obtain ⟨⟨p', b'⟩, at_j, rfl⟩ := hj
  obtain ⟨⟨q', c'⟩, at_k, rfl⟩ := hk
  obtain ⟨_, used_b⟩ := mem_placedBlocks.mp (List.mem_of_getElem? at_j)
  obtain ⟨_, used_c⟩ := mem_placedBlocks.mp (List.mem_of_getElem? at_k)
  rw [hb] at used_b
  rw [hc] at used_c
  cases used_b
  cases used_c
  obtain ⟨hj, at_j⟩ := List.getElem?_eq_some_iff.mp at_j
  obtain ⟨hk, at_k⟩ := List.getElem?_eq_some_iff.mp at_k
  have ordered : (placedBlocks v i).Pairwise fun x y => x.1 ≤ y.1 := insertAll_ordered .nil
  have le := List.pairwise_iff_getElem.mp ordered j k hj hk before
  rwa [at_j, at_k] at le

end Sys2Proof.Machine
end

section
/-! PROOFS. The count of whole samples along a take's blocks, and the blocks that hold a number of them (R100, R101). -/

namespace Sys2Proof.Machine

open Sys2Proof

/-! ### Along one block -/

/-- Whole samples in sequence, counted from n. -/
def Counted (n : Nat) (ys : List StoredSample) : Prop :=
  ∀ (k : Nat) (x : StoredSample), ys[k]? = some x → x.check = sampleCheck x.offset x.marks x.pos ∧ x.offset = n + k

theorem counted_nil (n : Nat) : Counted n [] := fun k x h => by simp at h

theorem counted_append {n : Nat} {xs ys : List StoredSample} (hx : Counted n xs) (hy : Counted (n + xs.length) ys) :
    Counted n (xs ++ ys) := by
  intro k x h
  by_cases hk : k < xs.length
  · exact hx k x (by rwa [List.getElem?_append_left hk] at h)
  · rw [List.getElem?_append_right (by omega)] at h
    obtain ⟨check, offset⟩ := hy _ x h
    exact ⟨check, by omega⟩

theorem counted_cons {n : Nat} {x : StoredSample} {xs : List StoredSample}
    (hx : x.check = sampleCheck x.offset x.marks x.pos) (ho : x.offset = n) (h : Counted (n + 1) xs) :
    Counted n (x :: xs) := by
  have one : Counted n [x] := by
    intro k y hy
    cases k with
    | zero => cases hy; exact ⟨hx, ho⟩
    | succ k => simp at hy
  exact counted_append one h

/-- What the count went through: a part of the samples, whole and in sequence. -/
def Went (c d : Tape) (xs : List StoredSample) : Prop :=
  ∃ ys : List StoredSample, ys.Sublist xs ∧ d.count = c.count + ys.length ∧ Counted c.count ys

theorem went_none {c d : Tape} (xs : List StoredSample) (h : d.count = c.count) : Went c d xs :=
  ⟨[], List.nil_sublist _, h, counted_nil _⟩

theorem countBlock_went (c : Tape) (xs : List StoredSample) : Went c (countBlock c xs) xs := by
  induction xs generalizing c with
  | nil => exact went_none _ rfl
  | cons x xs ih =>
    unfold countBlock
    split
    · exact went_none _ rfl
    split
    · exact went_none _ rfl
    split
    · exact went_none _ rfl
    · next sound offset _ =>
      obtain ⟨ys, part, count, counted⟩ :=
        ih { count := c.count + 1, spanOpen := spanAfter c.spanOpen x.marks, ended := false }
      refine ⟨x :: ys, part.cons_cons x, ?_, counted_cons ?_ (not_not.mp offset) counted⟩
      · rw [count, List.length_cons]
        exact Nat.add_right_comm _ _ _
      · simpa [StoredSample.sound] using sound

/-- Whole samples in sequence with no mark of a span. -/
def Clean (n : Nat) (xs : List StoredSample) : Prop :=
  ∀ (k : Nat) (x : StoredSample), xs[k]? = some x →
    x.check = sampleCheck x.offset x.marks x.pos ∧ x.offset = n + k ∧ x.marks.defer = false ∧ x.marks.resume = false

theorem Clean.tail {n : Nat} {x : StoredSample} {xs : List StoredSample} (h : Clean n (x :: xs)) : Clean (n + 1) xs := by
  intro k y hy
  obtain ⟨check, offset, marks⟩ := h (k + 1) y hy
  exact ⟨check, by omega, marks⟩

theorem Clean.left {n : Nat} {xs ys : List StoredSample} (h : Clean n (xs ++ ys)) : Clean n xs := fun k x hx =>
  h k x (by
    obtain ⟨hk, -⟩ := List.getElem?_eq_some_iff.mp hx
    rwa [List.getElem?_append_left hk])

theorem Clean.right {n : Nat} {xs ys : List StoredSample} (h : Clean n (xs ++ ys)) : Clean (n + xs.length) ys := by
  intro k x hx
  obtain ⟨check, offset, marks⟩ := h (xs.length + k) x (by rwa [List.getElem?_append_right (by omega), Nat.add_sub_cancel_left])
  exact ⟨check, by omega, marks⟩

/-- Nothing stops the count along clean samples. -/
theorem countBlock_clean {c : Tape} {xs : List StoredSample} (he : c.ended = false) (h : Clean c.count xs) :
    (countBlock c xs).count = c.count + xs.length ∧ (countBlock c xs).ended = false := by
  induction xs generalizing c with
  | nil => exact ⟨rfl, he⟩
  | cons x xs ih =>
    obtain ⟨check, offset, defer, resume⟩ := h 0 x rfl
    have sound : x.sound = true := decide_eq_true check
    have pairs : marksPair c.spanOpen x.marks = true := by simp [marksPair, defer, resume]
    have next : countBlock c (x :: xs) =
        countBlock { count := c.count + 1, spanOpen := spanAfter c.spanOpen x.marks, ended := false } xs := by
      rw [countBlock, sound, pairs]
      exact if_neg (not_not.mpr offset)
    obtain ⟨count, ended⟩ :=
      ih (c := { count := c.count + 1, spanOpen := spanAfter c.spanOpen x.marks, ended := false }) rfl h.tail
    rw [next, count, List.length_cons]
    exact ⟨Nat.add_right_comm _ _ _, ended⟩

/-! ### Along a list of blocks -/

section Blocks

variable (data : BlockNo → List StoredSample)

/-- The count along a block list, from how far it has come. -/
def countOn (c : Tape) (bs : List BlockNo) : Tape :=
  bs.foldl (fun c b => if c.ended then c else countBlock c (data b)) c

theorem countBlocks_eq (bs : List BlockNo) :
    countBlocks data bs = countOn data { count := 0, spanOpen := false, ended := false } bs := rfl

theorem countOn_went (c : Tape) (bs : List BlockNo) : Went c (countOn data c bs) (bs.flatMap data) := by
  induction bs generalizing c with
  | nil => exact went_none _ rfl
  | cons b bs ih =>
    have first : Went c (if c.ended then c else countBlock c (data b)) (data b) := by
      split
      · exact went_none _ rfl
      · exact countBlock_went c _
    obtain ⟨xs, part, count, counted⟩ := first
    obtain ⟨ys, parts, counts, rest⟩ := ih (if c.ended then c else countBlock c (data b))
    refine ⟨xs ++ ys, part.append parts, ?_, counted_append counted (count ▸ rest)⟩
    rw [List.length_append]
    exact counts.trans (by omega)

theorem countOn_clean {c : Tape} {bs : List BlockNo} (he : c.ended = false) (h : Clean c.count (bs.flatMap data)) :
    (countOn data c bs).count = c.count + (bs.flatMap data).length := by
  induction bs generalizing c with
  | nil => rfl
  | cons b bs ih =>
    rw [List.flatMap_cons] at h ⊢
    obtain ⟨count, ended⟩ := countBlock_clean he h.left
    have rest := ih (c := countBlock c (data b)) ended (by rw [count]; exact h.right)
    have next : countOn data c (b :: bs) = countOn data (countBlock c (data b)) bs := by
      rw [countOn, List.foldl_cons, he]
      rfl
    rw [next, rest, count, List.length_append]
    omega

theorem countOn_append (c : Tape) (as bs : List BlockNo) : countOn data c (as ++ bs) = countOn data (countOn data c as) bs :=
  List.foldl_append

theorem le_countOn (c : Tape) (bs : List BlockNo) : c.count ≤ (countOn data c bs).count := by
  obtain ⟨ys, -, count, -⟩ := countOn_went data c bs
  omega

theorem countBlocks_prefix_le {as bs : List BlockNo} (h : as <+: bs) :
    (countBlocks data as).count ≤ (countBlocks data bs).count := by
  obtain ⟨cs, rfl⟩ := h
  rw [countBlocks_eq data (as ++ cs), countOn_append]
  exact le_countOn data _ _

/-- With fewer blocks than are kept the number is not reached. -/
theorem countBlocks_lt_of_keepBlocks {n j : Nat} {bs : List BlockNo} (hj : j < (keepBlocks data n bs).length) :
    (countBlocks data (bs.take j)).count < n := by
  unfold keepBlocks at hj
  rw [List.length_take] at hj
  cases hf : (List.range bs.length).find? fun j => n ≤ (countBlocks data (bs.take j)).count with
  | none =>
    have beyond := List.find?_eq_none.mp hf j (List.mem_range.mpr (by omega))
    simpa using beyond
  | some m =>
    rw [hf, Option.getD_some] at hj
    have before := (List.find?_range_eq_some.mp hf).2.2 j (by omega)
    simpa using before

end Blocks

end Sys2Proof.Machine
end

section
/-! PROOFS. The power-up scan (O22, R100, R101): what it reads, and what it makes of a slot and of a block. -/

namespace Sys2Proof.Machine

open Sys2Proof

/-! ### One slot -/

section Slots

variable {data : BlockNo → List StoredSample} {own : List BlockNo} {r : SlotRecord} {h : Header}

theorem settleSlot_complete (hs : r.state = .complete) (hh : r.header = some h) : settleSlot data own r =
    if h.length ≤ (countBlocks data own).count then lockedSlot .complete h own else Slot.empty := by
  unfold settleSlot
  dsimp only
  rw [hs, hh]

theorem settleSlot_truncated (hs : r.state = .truncated) (hh : r.header = some h) : settleSlot data own r =
    if h.length ≤ (countBlocks data own).count then lockedSlot .truncated h (keepBlocks data h.length own)
    else Slot.empty := by
  unfold settleSlot
  dsimp only
  rw [hs, hh]

theorem settleSlot_recording (hs : r.state = .recording) (hh : r.header = some h) : settleSlot data own r =
    if (countBlocks data own).count = 0 then Slot.empty
    else lockedSlot .truncated
      { h with length := (countBlocks data own).count, interrupted := true, impliedResume := (countBlocks data own).spanOpen }
      (keepBlocks data (countBlocks data own).count own) := by
  unfold settleSlot
  dsimp only
  rw [hs, hh]

theorem settleSlot_empty (hs : r.state = .empty ∨ r.state = .uploading ∨ r.header = none) :
    settleSlot data own r = Slot.reset := by
  unfold settleSlot
  dsimp only
  rcases hs with hs | hs | hs
  · rw [hs]
    rfl
  · rw [hs]
    rfl
  · rw [hs]
    cases r.state <;> rfl

end Slots

/-! ### One block -/

section Blocks

variable {slots : Vector Slot 32} {b : BlockNo} {i : SlotNo} {place : Nat} {retire : Bool}

theorem settleBlock_used : settleBlock slots b (.used i place retire) =
    if b ∈ slots[i].blocks then .used i place retire else if retire then .bad else .dirty :=
  if_congr List.contains_iff_mem rfl rfl

end Blocks

/-! ### What the scan reads and leaves -/

section Scan

variable (lines : LineStates) (d : Damage) (s : State)

theorem readReserved_slot (i : SlotNo) : (readReserved d s).slots[i] =
    if d.slots.contains i then { state := .empty, header := none } else s.mem.stored.slots[i] := mapAll_get _ _ i

theorem readReserved_block (b : BlockNo) :
    (readReserved d s).blocks[b] = if d.blocks.contains b then .dirty else s.storedBlocks[b] := mapAll_get _ _ b

theorem storedBlocks_other {s : State} {b : BlockNo} (h : programBlock s.mem.op ≠ some b) :
    s.storedBlocks[b] = s.mem.stored.blocks[b] := by
  unfold State.storedBlocks
  split
  · next c hc =>
    split
    · rw [updAt_get, if_neg]
      rintro rfl
      exact h hc
    · rfl
  · rfl

theorem powerUp_mem : (powerUp lines d s).mem = scanMemory lines (readReserved d s) s.mem := rfl

theorem scanMemory_slot (st : Stored) (m : TakeMemory) (i : SlotNo) : (scanMemory lines st m).slots[i] =
    settleSlot (fun b => m.blocks[b].data) (ownedBlocks st.blocks i) st.slots[i] := by
  unfold scanMemory
  dsimp only
  rw [mapAll_get]

theorem scanMemory_block (st : Stored) (m : TakeMemory) (b : BlockNo) : (scanMemory lines st m).blocks[b] =
    { state := settleBlock (scanMemory lines st m).slots b st.blocks[b], data := m.blocks[b].data } := by
  unfold scanMemory
  dsimp only
  rw [mapAll_get]

theorem powerUp_slot (i : SlotNo) : (powerUp lines d s).mem.slots[i] =
    settleSlot (fun b => s.mem.blocks[b].data) (ownedBlocks (readReserved d s).blocks i) (readReserved d s).slots[i] := by
  rw [powerUp_mem, scanMemory_slot]

theorem powerUp_block (b : BlockNo) : (powerUp lines d s).mem.blocks[b] =
    { state := settleBlock (powerUp lines d s).mem.slots b (readReserved d s).blocks[b], data := s.mem.blocks[b].data } := by
  rw [powerUp_mem, scanMemory_block]

theorem powerUp_slotWhole {d : Damage} {i : SlotNo} (h : i ∉ d.slots) : (powerUp lines d s).mem.slots[i] =
    settleSlot (fun b => s.mem.blocks[b].data) (ownedBlocks (readReserved d s).blocks i) s.mem.stored.slots[i] := by
  rw [powerUp_slot, readReserved_slot, if_neg (mt List.contains_iff_mem.mp h)]

end Scan

/-- What the scan makes of every block (R100). -/
theorem powerUp_blocks (lines : LineStates) (d : Damage) (s : State) (b : BlockNo) :
    (powerUp lines d s).mem.blocks[b].data = s.mem.blocks[b].data ∧
      ((∃ x, (readReserved d s).blocks[b] = .erasing x) → (powerUp lines d s).mem.blocks[b].state = .dirty) ∧
      (∀ i place retire, (readReserved d s).blocks[b] = .used i place retire →
        (b ∈ (powerUp lines d s).mem.slots[i].blocks →
          (powerUp lines d s).mem.blocks[b].state = (readReserved d s).blocks[b]) ∧
        (b ∉ (powerUp lines d s).mem.slots[i].blocks →
          (powerUp lines d s).mem.blocks[b].state = if retire then .bad else .dirty)) ∧
      ((readReserved d s).blocks[b] = .free ∨ (readReserved d s).blocks[b] = .dirty ∨ (readReserved d s).blocks[b] = .bad →
        (powerUp lines d s).mem.blocks[b].state = (readReserved d s).blocks[b]) := by
  rw [powerUp_block]
  dsimp only
  refine ⟨rfl, ?_, fun i place retire used => ?_, ?_⟩
  · rintro ⟨x, erasing⟩
    rw [erasing]
    rfl
  · rw [used, settleBlock_used]
    exact ⟨fun kept => if_pos kept, fun gone => if_neg gone⟩
  · rintro (free | dirty | bad)
    · rw [free]; rfl
    · rw [dirty]; rfl
    · rw [bad]; rfl

/-- The laws of the count and of the blocks kept. -/
theorem countBlocks_laws (data : BlockNo → List StoredSample) (bs : List BlockNo) :
    (countBlocks data bs).count ≤ (bs.flatMap data).length ∧
      (∃ ys : List StoredSample, ys.Sublist (bs.flatMap data) ∧ ys.length = (countBlocks data bs).count ∧
        ∀ (k : Nat) (x : StoredSample), ys[k]? = some x →
          x.check = sampleCheck x.offset x.marks x.pos ∧ x.offset = k) ∧
      ((∀ (k : Nat) (x : StoredSample), (bs.flatMap data)[k]? = some x →
          x.check = sampleCheck x.offset x.marks x.pos ∧ x.offset = k ∧ x.marks.defer = false ∧ x.marks.resume = false) →
        (countBlocks data bs).count = (bs.flatMap data).length) ∧
      (countBlocks data (keepBlocks data (countBlocks data bs).count bs)).count = (countBlocks data bs).count ∧
      ∀ n, n ≤ (countBlocks data bs).count →
        keepBlocks data n bs <+: bs ∧ n ≤ (countBlocks data (keepBlocks data n bs)).count ∧
          ∀ j, j < (keepBlocks data n bs).length → (countBlocks data (bs.take j)).count < n := by
  obtain ⟨ys, part, length, counted⟩ := countOn_went data { count := 0, spanOpen := false, ended := false } bs
  rw [Nat.zero_add, ← countBlocks_eq] at length
  refine ⟨length ▸ part.length_le, ⟨ys, part, length.symm, fun k x h => ?_⟩, fun clean => ?_, ?_, fun n hn =>
    ⟨keepBlocks_prefix data n bs, keepBlocks_holds hn, fun j => countBlocks_lt_of_keepBlocks data⟩⟩
  · obtain ⟨check, offset⟩ := counted k x h
    exact ⟨check, offset.trans (Nat.zero_add k)⟩
  · rw [countBlocks_eq, countOn_clean data rfl fun k x h => ?_, Nat.zero_add]
    obtain ⟨check, offset, marks⟩ := clean k x h
    exact ⟨check, offset.trans (Nat.zero_add k).symm, marks⟩
  · exact Nat.le_antisymm (countBlocks_prefix_le data (keepBlocks_prefix _ _ _)) (keepBlocks_holds (Nat.le_refl _))

/-- Settles O22: the scan read by slots and by blocks, and the laws of the count. -/
theorem powerUpSettlesTheTakes : Obligations.PowerUpSettlesTheTakes := by
  refine ⟨fun lines d s => ⟨powerUp lines d s, rfl, fun b => ⟨fun damaged => ?_, fun whole other => ?_⟩,
    powerUp_blocks lines d s, fun i bad => ?_, fun i h whole hh => ⟨fun b => mem_ownedBlocks, ownedBlocks_nodup _ i,
      fun j k b c p q x y => ownedBlocks_ordered, fun finished short => ?_, fun complete long => ?_, fun truncated long => ?_,
      fun recording => ⟨fun zero => ?_, fun counted => ?_⟩⟩⟩, countBlocks_laws⟩
  · rw [readReserved_block, if_pos (List.contains_iff_mem.mpr damaged)]
  · rw [readReserved_block, if_neg (mt List.contains_iff_mem.mp whole), storedBlocks_other other]
  · rw [powerUp_slot, readReserved_slot]
    refine settleSlot_empty ?_
    split
    · exact .inl rfl
    · next whole =>
      rcases bad with damaged | stored
      · exact absurd (List.contains_iff_mem.mpr damaged) whole
      · exact stored
  · rw [powerUp_slotWhole lines s whole]
    rcases finished with complete | truncated
    · rw [settleSlot_complete complete hh]
      exact if_neg (Nat.not_le.mpr short)
    · rw [settleSlot_truncated truncated hh]
      exact if_neg (Nat.not_le.mpr short)
  · rw [powerUp_slotWhole lines s whole, settleSlot_complete complete hh]
    exact if_pos long
  · rw [powerUp_slotWhole lines s whole, settleSlot_truncated truncated hh]
    exact if_pos long
  · rw [powerUp_slotWhole lines s whole, settleSlot_recording recording hh]
    exact if_pos zero
  · rw [powerUp_slotWhole lines s whole, settleSlot_recording recording hh]
    exact if_neg (Nat.one_le_iff_ne_zero.mp counted)

end Sys2Proof.Machine
end

section
/-! PROOFS. What TakesWf looks at in a state, and the changes that keep it (O9, R75, R77, R79, R84, R97, R103). -/

namespace Sys2Proof.Machine

open Sys2Proof

/-! ### The part of a state that TakesWf looks at -/

/-- Block states, slot states and lists, the operation in progress, buffer states, the Recorder's slot and its activity. -/
structure Shelf where
  block : BlockNo → BlockState
  slot : SlotNo → SlotState
  bare : SlotNo → Bool
  list : SlotNo → List BlockNo
  op : Option ArrayOp
  buffer : Fin 2 → BufferState
  recState : RecState
  recSlot : Option SlotNo
  queued : Bool
  playing : Bool

def shelf (s : State) : Shelf where
  block b := s.mem.blocks[b].state
  slot i := s.mem.slots[i].state
  bare i := s.mem.slots[i].header.isNone
  list i := s.mem.slots[i].blocks
  op := s.mem.op
  buffer k := s.mem.buffers[k].state
  recState := s.recorder.state
  recSlot := s.recorder.slot
  queued := !s.recorder.queue.isEmpty
  playing := s.playActive

/-- The slot that is UPLOADING (R92). -/
def Shelf.upload (v : Shelf) : Option SlotNo := (List.finRange 32).find? fun i => v.slot i = .uploading

theorem shelf_upload (s : State) : (shelf s).upload = s.uploadSlot := rfl

/-- The block an operation erases. -/
def erases : Option ArrayOp → Option BlockNo
  | some (.erase b) => some b
  | some (.suspend b) => some b
  | some (.resume b _) => some b
  | _ => none

/-- The operation is an erase that goes on. -/
def progresses : Option ArrayOp → Bool
  | some (.erase _) => true
  | some (.resume _ again) => !again
  | _ => false

theorem erases_iff {op : Option ArrayOp} {b : BlockNo} : erases op = some b ↔
    op = some (.erase b) ∨ op = some (.suspend b) ∨ ∃ again, op = some (.resume b again) := by
  unfold erases
  split <;> simp_all

theorem progresses_iff {op : Option ArrayOp} : progresses op = true ↔
    ∃ b, op = some (.erase b) ∨ op = some (.resume b false) := by
  unfold progresses
  split <;> simp_all

/-- TakesWf, in terms of what it looks at. -/
structure Shelf.Wf (v : Shelf) : Prop where
  single : ∀ b c x y, v.block b = .erasing x → v.block c = .erasing y → b = c
  owned : ∀ b i, b ∈ v.list i ↔ ∃ place retire, v.block b = .used i place retire
  nodup : ∀ i, (v.list i).Nodup
  erase : ∀ b, v.block b = .erasing false ↔ erases v.op = some b
  quiet : progresses v.op = true → v.recState = .idle ∧ v.playing = false
  live : ∀ i b k n, v.op = some (.chunkPart i b k n true) → v.upload = some i ∧ b ∈ v.list i ∧ v.buffer k = .programming
  dead : ∀ i b k n, v.op = some (.chunkPart i b k n false) → v.block b = .dirty ∨ v.block b = .bad
  empty : ∀ i, v.slot i = .empty → v.bare i = true ∧ v.list i = []
  armed : ∀ i, v.recSlot = some i → v.recState = .armed → v.slot i = .empty
  running : ∀ i, v.recSlot = some i → v.recState = .recording ∨ v.recState = .draining → v.slot i = .recording
  queue : v.queued = true → v.recState = .recording ∨ v.recState = .draining

theorem mem_erasingBlocks {s : State} {b : BlockNo} : b ∈ s.erasingBlocks ↔ ∃ x, s.mem.blocks[b].state = .erasing x := by
  rw [State.erasingBlocks, List.mem_filter, decide_eq_true_iff]
  constructor
  · rintro ⟨-, h | h⟩
    · exact ⟨_, h⟩
    · exact ⟨_, h⟩
  · rintro ⟨x, h⟩
    refine ⟨List.mem_finRange b, ?_⟩
    cases x
    · exact .inr h
    · exact .inl h

theorem oneErasing_iff (s : State) : OneErasing s ↔
    ∀ b c x y, (shelf s).block b = .erasing x → (shelf s).block c = .erasing y → b = c := by
  have nodup : s.erasingBlocks.Nodup := (List.nodup_finRange 64).filter _
  rw [OneErasing, ← List.toFinset_card_of_nodup nodup, Finset.card_le_one]
  simp only [List.mem_toFinset, mem_erasingBlocks]
  exact ⟨fun h b c x y hb hc => h b ⟨x, hb⟩ c ⟨y, hc⟩, fun h b ⟨x, hb⟩ c ⟨y, hc⟩ => h b c x y hb hc⟩

theorem recActive_false (s : State) : s.recActive = false ↔ s.recorder.state = .idle := by simp [State.recActive]

theorem takesWf_iff (s : State) : TakesWf s ↔ (shelf s).Wf := by
  constructor
  · rintro ⟨one, ⟨owned, nodup⟩, ⟨erase, quiet, live, dead⟩, empty, slot, queue⟩
    exact {
      single := (oneErasing_iff s).mp one
      owned := owned
      nodup := nodup
      erase := fun b => (erase b).trans erases_iff.symm
      quiet := fun h => by
        obtain ⟨b, hb⟩ := progresses_iff.mp h
        obtain ⟨idle, still⟩ := quiet b hb
        exact ⟨(recActive_false s).mp idle, still⟩
      live := live
      dead := dead
      empty := fun i h => ⟨Option.isNone_iff_eq_none.mpr (empty i h).1, (empty i h).2⟩
      armed := fun i h => (slot i h).1
      running := fun i h => (slot i h).2
      queue := fun h => queue (by simpa [shelf] using h) }
  · intro h
    exact ⟨(oneErasing_iff s).mpr h.single, ⟨h.owned, h.nodup⟩, ⟨fun b => (h.erase b).trans erases_iff,
      fun b hb => by
        obtain ⟨idle, still⟩ := h.quiet (progresses_iff.mpr ⟨b, hb⟩)
        exact ⟨(recActive_false s).mpr idle, still⟩, h.live, h.dead⟩,
      fun i hi => ⟨Option.isNone_iff_eq_none.mp (h.empty i hi).1, (h.empty i hi).2⟩,
      fun i hi => ⟨h.armed i hi, h.running i hi⟩, fun hq => h.queue (by simpa [shelf] using hq)⟩

/-! ### Changes of the operation in progress -/

namespace Shelf

variable {v : Shelf}

/-- The operation neither erases a block nor programs a chunk. -/
def Apart (op : Option ArrayOp) : Prop := erases op = none ∧ ∀ i b k n l, op ≠ some (.chunkPart i b k n l)

theorem apart_none : Apart none := ⟨rfl, fun _ _ _ _ _ => nofun⟩

theorem Apart.quiet {op : Option ArrayOp} (h : Apart op) : progresses op = false := by
  rw [Bool.eq_false_iff]
  intro hp
  obtain ⟨b, hb⟩ := progresses_iff.mp hp
  have erasing : erases op = some b := erases_iff.mpr (hb.imp id fun h => .inr ⟨false, h⟩)
  rw [h.1] at erasing
  cases erasing

/-- An operation that erases nothing gives way to one that does nothing TakesWf looks at. -/
theorem Wf.turn {op : Option ArrayOp} (h : v.Wf) (hv : erases v.op = none) (ho : Apart op) : { v with op := op }.Wf :=
  { h with
    erase := fun b => by rw [h.erase, hv, ho.1]
    quiet := fun hp => absurd hp (by rw [ho.quiet]; exact Bool.false_ne_true)
    live := fun i b k n hc => absurd hc (ho.2 i b k n true)
    dead := fun i b k n hc => absurd hc (ho.2 i b k n false) }

/-- An operation that is changed, but not in what it erases or programs. -/
theorem Wf.sameOp {op : Option ArrayOp} (h : v.Wf) (he : erases op = erases v.op) (hp : progresses op = progresses v.op)
    (hc : ∀ i b k n l, op = some (.chunkPart i b k n l) → v.op = op) : { v with op := op }.Wf :=
  { h with
    erase := fun b => by rw [h.erase, he]
    quiet := fun hq => h.quiet (hp ▸ hq)
    live := fun i b k n ho => h.live i b k n ((hc i b k n true ho).trans ho)
    dead := fun i b k n ho => h.dead i b k n ((hc i b k n false ho).trans ho) }

/-- The part of a chunk begins: its block is the uploading take's, its buffer is PROGRAMMING. -/
theorem Wf.startPart {i : SlotNo} {b : BlockNo} {k : Fin 2} {n : Nat} (h : v.Wf) (hv : erases v.op = none)
    (hi : v.upload = some i) (hb : b ∈ v.list i) :
    { v with op := some (.chunkPart i b k n true), buffer := Function.update v.buffer k .programming }.Wf :=
  { h with
    erase := fun c => by rw [h.erase, hv]; rfl
    quiet := nofun
    live := fun i' b' k' n' hc => by
      cases hc
      exact ⟨hi, hb, Function.update_self ..⟩
    dead := nofun }

/-! ### Activity -/

/-- What a recording or playback that becomes active makes of the operation (R84). -/
def suspended : Option ArrayOp → Option ArrayOp
  | some (.erase b) => some (.suspend b)
  | some (.resume b _) => some (.resume b true)
  | op => op

theorem erases_suspended (op : Option ArrayOp) : erases (suspended op) = erases op := by
  unfold suspended
  split <;> rfl

theorem progresses_suspended (op : Option ArrayOp) : progresses (suspended op) = false := by
  unfold suspended
  split
  · rfl
  · rfl
  · next he hr =>
    rw [Bool.eq_false_iff]
    intro hp
    obtain ⟨b, hb | hb⟩ := progresses_iff.mp hp
    · exact he b hb
    · exact hr b false hb

theorem suspended_chunk {op : Option ArrayOp} {i : SlotNo} {b : BlockNo} {k : Fin 2} {n : Nat} {l : Bool}
    (h : suspended op = some (.chunkPart i b k n l)) : op = suspended op := by
  unfold suspended at h ⊢
  split at h
  · cases h
  · cases h
  · rfl

/-- A recording or a playback becomes active. -/
theorem Wf.activate {st : RecState} {i : Option SlotNo} {q p : Bool} (h : v.Wf)
    (armed : ∀ j, i = some j → st = .armed → v.slot j = .empty)
    (running : ∀ j, i = some j → st = .recording ∨ st = .draining → v.slot j = .recording)
    (queue : q = true → st = .recording ∨ st = .draining) :
    { v with op := suspended v.op, recState := st, recSlot := i, queued := q, playing := p }.Wf :=
  { h with
    erase := fun b => by rw [h.erase, erases_suspended]
    quiet := fun hq => absurd hq (by rw [progresses_suspended]; exact Bool.false_ne_true)
    live := fun i b k n ho => h.live i b k n ((suspended_chunk ho).trans ho)
    dead := fun i b k n ho => h.dead i b k n ((suspended_chunk ho).trans ho)
    armed := armed
    running := running
    queue := queue }

/-- The Recorder's state moves on while it is active. -/
theorem Wf.recorder {st : RecState} {i : Option SlotNo} {q : Bool} (h : v.Wf) (active : progresses v.op = false ∨ st = .idle)
    (armed : ∀ j, i = some j → st = .armed → v.slot j = .empty)
    (running : ∀ j, i = some j → st = .recording ∨ st = .draining → v.slot j = .recording)
    (queue : q = true → st = .recording ∨ st = .draining) :
    { v with recState := st, recSlot := i, queued := q }.Wf :=
  { h with
    quiet := fun hq => by
      rcases active with active | idle
      · rw [active] at hq
        cases hq
      · exact ⟨idle, (h.quiet hq).2⟩
    armed := armed
    running := running
    queue := queue }

theorem Wf.recordingStops (h : v.Wf) : { v with recState := .idle, recSlot := none, queued := false }.Wf :=
  h.recorder (.inr rfl) nofun nofun nofun

theorem Wf.playbackStops {p : Bool} (h : v.Wf) (hp : p = true → v.playing = true) : { v with playing := p }.Wf :=
  { h with
    quiet := fun hq => ⟨(h.quiet hq).1, by
      rw [Bool.eq_false_iff]
      intro active
      have still := hp active
      rw [(h.quiet hq).2] at still
      cases still⟩ }

theorem Wf.noProgress (h : v.Wf) (active : v.recState ≠ .idle) : progresses v.op = false := by
  rw [Bool.eq_false_iff]
  exact fun hp => active (h.quiet hp).1

/-! ### Slots -/

theorem upload_congr {v w : Shelf} (h : ∀ i, v.slot i = .uploading ↔ w.slot i = .uploading) : v.upload = w.upload :=
  congrArg (fun f => (List.finRange 32).find? f) (funext fun i => decide_eq_decide.mpr (h i))

theorem upload_some {i : SlotNo} (h : v.upload = some i) : v.slot i = .uploading := by
  simpa using List.find?_some h

theorem upload_update {w : Shelf} {i : SlotNo} {st : SlotState} (hw : w.slot = Function.update v.slot i st)
    (hv : v.slot i ≠ .uploading) (hs : st ≠ .uploading) : w.upload = v.upload := by
  refine upload_congr fun j => ?_
  rw [hw]
  by_cases hj : j = i
  · subst hj
    simp [hv, hs]
  · simp [Function.update_of_ne hj]

/-- A slot takes another state, with its blocks; it is neither the Recorder's nor that of a part in progress. -/
theorem Wf.relabel {i : SlotNo} {st : SlotState} {bare : SlotNo → Bool} (h : v.Wf) (hs : st ≠ .empty)
    (hb : ∀ j, j ≠ i → bare j = v.bare j) (hr : v.recSlot = some i → v.recState = .idle)
    (hl : (∀ i b k n, v.op ≠ some (.chunkPart i b k n true)) ∨ v.slot i ≠ .uploading ∧ st ≠ .uploading) :
    { v with slot := Function.update v.slot i st, bare := bare }.Wf := by
  have other : ∀ j, v.recSlot = some j → v.recState ≠ .idle → j ≠ i := by
    rintro j hj active rfl
    exact active (hr hj)
  exact { h with
    live := fun i' b k n ho => by
      dsimp only at ho ⊢
      obtain ⟨up, mem, buf⟩ := h.live i' b k n ho
      refine ⟨?_, mem, buf⟩
      rcases hl with none | ⟨hv, hs⟩
      · exact absurd ho (none i' b k n)
      · exact (upload_update rfl hv hs).trans up
    empty := fun j hj => by
      dsimp only at hj ⊢
      by_cases hji : j = i
      · subst hji
        rw [Function.update_self] at hj
        exact absurd hj hs
      · rw [Function.update_of_ne hji] at hj
        exact ⟨(hb j hji).trans (h.empty j hj).1, (h.empty j hj).2⟩
    armed := fun j hj ha => by
      dsimp only at hj ha ⊢
      rw [Function.update_of_ne (other j hj (by rw [ha]; exact nofun))]
      exact h.armed j hj ha
    running := fun j hj ha => by
      dsimp only at hj ha ⊢
      rw [Function.update_of_ne (other j hj (by rcases ha with ha | ha <;> rw [ha] <;> exact nofun))]
      exact h.running j hj ha }

/-- A slot becomes EMPTY and its blocks leave it. The part in progress, where it was that take's, loses it. -/
theorem Wf.emptied {i : SlotNo} {block : BlockNo → BlockState} {op : Option ArrayOp} {buffer : Fin 2 → BufferState} (h : v.Wf)
    (gone : ∀ b ∈ v.list i, block b = .dirty ∨ block b = .bad) (other : ∀ b, b ∉ v.list i → block b = v.block b)
    (hr : v.recSlot = some i → v.recState = .idle) (he : erases op = erases v.op) (hp : progresses op = progresses v.op)
    (live : ∀ i' b k n, op = some (.chunkPart i' b k n true) → v.op = op ∧ v.slot i ≠ .uploading ∧ buffer k = v.buffer k)
    (dead : ∀ i' b k n, op = some (.chunkPart i' b k n false) → v.op = op ∨ b ∈ v.list i) :
    { v with block := block, slot := Function.update v.slot i .empty, bare := Function.update v.bare i true,
             list := Function.update v.list i [], op := op, buffer := buffer }.Wf := by
  have same : ∀ b, (∀ p r, v.block b ≠ .used i p r) → block b = v.block b := fun b hb => other b fun mem => by
    obtain ⟨p, r, used⟩ := (h.owned b i).mp mem
    exact hb p r used
  have stays : ∀ b x, (∀ j p r, x ≠ .used j p r) → v.block b = x → block b = x := by
    rintro b x hx rfl
    exact same b fun p r => hx i p r
  have was : ∀ b x, block b = x → x ≠ .dirty → x ≠ .bad → v.block b = x ∧ b ∉ v.list i := by
    rintro b x rfl hd hb
    have notMem : b ∉ v.list i := fun mem => (gone b mem).elim hd hb
    exact ⟨(other b notMem).symm, notMem⟩
  exact {
    single := fun b c x y hb hc => h.single b c x y (was b _ hb nofun nofun).1 (was c _ hc nofun nofun).1
    owned := fun b j => by
      dsimp only
      by_cases hj : j = i
      · subst hj
        rw [Function.update_self]
        refine ⟨nofun, ?_⟩
        rintro ⟨p, r, used⟩
        obtain ⟨used, notMem⟩ := was b _ used nofun nofun
        exact absurd ((h.owned b j).mpr ⟨p, r, used⟩) notMem
      · rw [Function.update_of_ne hj, h.owned]
        constructor
        · rintro ⟨p, r, used⟩
          refine ⟨p, r, (same b ?_).trans used⟩
          rw [used]
          intro p r eq
          cases eq
          exact hj rfl
        · rintro ⟨p, r, used⟩
          exact ⟨p, r, (was b _ used nofun nofun).1⟩
    nodup := fun j => by
      dsimp only
      by_cases hj : j = i
      · subst hj
        rw [Function.update_self]
        exact List.nodup_nil
      · rw [Function.update_of_ne hj]
        exact h.nodup j
    erase := fun b => by
      dsimp only
      rw [he, ← h.erase]
      exact ⟨fun hb => (was b _ hb nofun nofun).1, stays b _ nofun⟩
    quiet := fun hq => h.quiet (hp ▸ hq)
    live := fun i' b k n ho => by
      dsimp only at ho ⊢
      obtain ⟨eq, hv, hk⟩ := live i' b k n ho
      obtain ⟨up, mem, buf⟩ := h.live i' b k n (eq.trans ho)
      have ne : i' ≠ i := by
        rintro rfl
        exact hv (upload_some up)
      refine ⟨?_, by rwa [Function.update_of_ne ne], hk.trans buf⟩
      exact (upload_update (st := .empty) rfl hv nofun).trans up
    dead := fun i' b k n ho => by
      dsimp only at ho ⊢
      rcases dead i' b k n ho with eq | mem
      · rcases h.dead i' b k n (eq.trans ho) with hd | hb
        · exact .inl (stays b _ nofun hd)
        · exact .inr (stays b _ nofun hb)
      · exact gone b mem
    empty := fun j hj => by
      dsimp only at hj ⊢
      by_cases hji : j = i
      · subst hji
        exact ⟨Function.update_self .., Function.update_self ..⟩
      · rw [Function.update_of_ne hji] at hj
        rw [Function.update_of_ne hji, Function.update_of_ne hji]
        exact h.empty j hj
    armed := fun j hj ha => by
      dsimp only at hj ha ⊢
      by_cases hji : j = i
      · subst hji
        exact Function.update_self ..
      · rw [Function.update_of_ne hji]
        exact h.armed j hj ha
    running := fun j hj ha => by
      dsimp only at hj ha ⊢
      have hji : j ≠ i := by
        rintro rfl
        rw [hr hj] at ha
        rcases ha with ha | ha <;> cases ha
      rw [Function.update_of_ne hji]
      exact h.running j hj ha
    queue := h.queue }

/-! ### Blocks -/

/-- A block joins the list of a take. -/
theorem Wf.allocated {i : SlotNo} {b : BlockNo} {p : Nat} (h : v.Wf) (hb : v.block b = .free) (hi : v.slot i ≠ .empty) :
    { v with block := Function.update v.block b (.used i p false),
             list := Function.update v.list i (v.list i ++ [b]) }.Wf := by
  have fresh : ∀ j, b ∉ v.list j := fun j mem => by
    obtain ⟨_, _, used⟩ := (h.owned b j).mp mem
    rw [hb] at used
    cases used
  have block : ∀ c x, (∀ j p r, x ≠ .used j p r) → Function.update v.block b (.used i p false) c = x → v.block c = x := by
    intro c x hx hc
    by_cases hcb : c = b
    · subst hcb
      rw [Function.update_self] at hc
      exact absurd hc.symm (hx i p false)
    · rwa [Function.update_of_ne hcb] at hc
  have keeps : ∀ c x, x ≠ .free → v.block c = x → Function.update v.block b (.used i p false) c = x := by
    rintro c x hx rfl
    refine Function.update_of_ne ?_ _ _
    rintro rfl
    exact hx hb
  exact { h with
    single := fun c d x y hc hd => h.single c d x y (block c _ nofun hc) (block d _ nofun hd)
    owned := fun c j => by
      dsimp only
      by_cases hcb : c = b
      · subst hcb
        rw [Function.update_self]
        by_cases hj : j = i
        · subst hj
          rw [Function.update_self]
          exact ⟨fun _ => ⟨p, false, rfl⟩, fun _ => List.mem_append_right _ List.mem_cons_self⟩
        · rw [Function.update_of_ne hj]
          refine ⟨fun mem => absurd mem (fresh j), ?_⟩
          rintro ⟨_, _, eq⟩
          cases eq
          exact absurd rfl hj
      · rw [Function.update_of_ne hcb, ← h.owned]
        by_cases hj : j = i
        · subst hj
          rw [Function.update_self, List.mem_append, List.mem_singleton]
          exact or_iff_left hcb
        · rw [Function.update_of_ne hj]
    nodup := fun j => by
      dsimp only
      by_cases hj : j = i
      · subst hj
        rw [Function.update_self]
        exact List.Nodup.append (h.nodup j) (List.nodup_singleton b) fun c hc hcb => by
          rw [List.mem_singleton] at hcb
          subst hcb
          exact fresh j hc
      · rw [Function.update_of_ne hj]
        exact h.nodup j
    erase := fun c => by
      dsimp only
      rw [← h.erase]
      exact ⟨block c _ nofun, keeps c _ nofun⟩
    live := fun i' c k n ho => by
      dsimp only at ho ⊢
      obtain ⟨up, mem, buf⟩ := h.live i' c k n ho
      refine ⟨up, ?_, buf⟩
      by_cases hj : i' = i
      · subst hj
        rw [Function.update_self]
        exact List.mem_append_left _ mem
      · rwa [Function.update_of_ne hj]
    dead := fun i' c k n ho => (h.dead i' c k n ho).imp (keeps c _ nofun) (keeps c _ nofun)
    empty := fun j hj => by
      dsimp only at hj ⊢
      have hji : j ≠ i := by
        rintro rfl
        exact hi hj
      rw [Function.update_of_ne hji]
      exact h.empty j hj }

/-- A block that no take holds changes, with the operation that erases it, or erased it. -/
theorem Wf.turnBlock {b : BlockNo} {x : BlockState} {op : Option ArrayOp} (h : v.Wf) (hb : ∀ i p r, v.block b ≠ .used i p r)
    (hx : ∀ i p r, x ≠ .used i p r) (hc : ∀ i b k n l, op ≠ some (.chunkPart i b k n l))
    (he : ∀ c, erases op = some c ↔ c = b ∧ x = .erasing false) (only : ∀ c, c ≠ b → v.block c ≠ .erasing false)
    (single : ∀ y, x = .erasing y → ∀ c z, c ≠ b → v.block c ≠ .erasing z)
    (hq : progresses op = true → v.recState = .idle ∧ v.playing = false) :
    { v with block := Function.update v.block b x, op := op }.Wf := by
  exact { h with
    single := fun c d y z hc hd => by
      dsimp only at hc hd ⊢
      by_cases hcb : c = b
      · by_cases hdb : d = b
        · exact hcb.trans hdb.symm
        · subst hcb
          rw [Function.update_self] at hc
          rw [Function.update_of_ne hdb] at hd
          exact absurd hd (single y hc d z hdb)
      · rw [Function.update_of_ne hcb] at hc
        by_cases hdb : d = b
        · subst hdb
          rw [Function.update_self] at hd
          exact absurd hc (single z hd c y hcb)
        · rw [Function.update_of_ne hdb] at hd
          exact h.single c d y z hc hd
    owned := fun c i => by
      dsimp only
      rw [h.owned]
      by_cases hcb : c = b
      · subst hcb
        rw [Function.update_self]
        exact ⟨fun ⟨p, r, used⟩ => absurd used (hb i p r), fun ⟨p, r, used⟩ => absurd used (hx i p r)⟩
      · rw [Function.update_of_ne hcb]
    erase := fun c => by
      dsimp only
      rw [he]
      by_cases hcb : c = b
      · subst hcb
        rw [Function.update_self]
        exact ⟨fun eq => ⟨rfl, eq⟩, fun both => both.2⟩
      · rw [Function.update_of_ne hcb]
        exact ⟨fun eq => absurd eq (only c hcb), fun both => absurd both.1 hcb⟩
    quiet := hq
    live := fun i b k n ho => absurd ho (hc i b k n true)
    dead := fun i b k n ho => absurd ho (hc i b k n false) }

/-- A retire mark is set. -/
theorem Wf.retired {b : BlockNo} (h : v.Wf) : { v with block := Function.update v.block b (v.block b).retire }.Wf := by
  have same : ∀ c x, (∀ i p r, x ≠ .used i p r) → (Function.update v.block b (v.block b).retire c = x ↔ v.block c = x) := by
    intro c x hx
    by_cases hcb : c = b
    · subst hcb
      rw [Function.update_self]
      cases hb : v.block c with
      | used i p r => exact ⟨fun eq => absurd eq.symm (hx i p true), fun eq => absurd eq.symm (hx i p r)⟩
      | free => rfl
      | dirty => rfl
      | bad => rfl
      | erasing y => rfl
    · rw [Function.update_of_ne hcb]
  exact { h with
    single := fun c d x y hc hd => h.single c d x y ((same c (.erasing x) nofun).mp hc) ((same d (.erasing y) nofun).mp hd)
    owned := fun c i => by
      dsimp only
      rw [h.owned]
      by_cases hcb : c = b
      · subst hcb
        rw [Function.update_self]
        constructor
        · rintro ⟨p, r, used⟩
          exact ⟨p, true, by rw [used]; rfl⟩
        · rintro ⟨p, r, used⟩
          cases hb : v.block c with
          | used j q s =>
            rw [hb] at used
            cases used
            exact ⟨p, s, rfl⟩
          | free => rw [hb] at used; cases used
          | dirty => rw [hb] at used; cases used
          | bad => rw [hb] at used; cases used
          | erasing y => rw [hb] at used; cases used
      · rw [Function.update_of_ne hcb]
    erase := fun c => (same c (.erasing false) nofun).trans (h.erase c)
    dead := fun i c k n ho => (h.dead i c k n ho).imp (same c .dirty nofun).mpr (same c .bad nofun).mpr }

/-- Buffers change, but none that a part is programmed from. -/
theorem Wf.buffers {w : Fin 2 → BufferState} (h : v.Wf)
    (hw : (∀ i b k n, v.op ≠ some (.chunkPart i b k n true)) ∨ ∀ k, v.buffer k = .programming → w k = .programming) :
    { v with buffer := w }.Wf :=
  { h with
    live := fun i b k n ho => by
      dsimp only at ho ⊢
      obtain ⟨up, mem, buf⟩ := h.live i b k n ho
      rcases hw with none | keeps
      · exact absurd ho (none i b k n)
      · exact ⟨up, mem, keeps k buf⟩ }

end Shelf

end Sys2Proof.Machine
end

section
/-! PROOFS. The operations of the take memory and of the Recorder keep TakesWf (O9). -/

namespace Sys2Proof.Machine

open Sys2Proof

/-- TakesWf, by what it looks at. -/
def ShelfWf (s : State) : Prop := (shelf s).Wf

/-! ### What the operations change of the shelf -/

theorem updAt_update {α β : Type} {n : Nat} (g : α → β) (v : Vector α n) (i : Fin n) (f : α → α) :
    (fun j : Fin n => g (updAt v i f)[j]) = Function.update (fun j : Fin n => g v[j]) i (g (f v[i])) := by
  funext j
  rw [updAt_get]
  by_cases h : i = j
  · subst h
    rw [if_pos rfl, Function.update_self]
  · rw [if_neg h, Function.update_of_ne (Ne.symm h)]

theorem shelf_setBlock (b : BlockNo) (f : Block → Block) (s : State) : shelf (s.setBlock b f) =
    { shelf s with block := Function.update (shelf s).block b (f s.mem.blocks[b]).state } :=
  congrArg (fun w => { shelf s with block := w }) (updAt_update Block.state s.mem.blocks b f)

theorem shelf_setBuffer (k : Fin 2) (f : StageBuffer → StageBuffer) (s : State) : shelf (s.setBuffer k f) =
    { shelf s with buffer := Function.update (shelf s).buffer k (f s.mem.buffers[k]).state } :=
  congrArg (fun w => { shelf s with buffer := w }) (updAt_update StageBuffer.state s.mem.buffers k f)

/-- One slot is changed, and with it, maybe, the blocks, the operation and the buffers. -/
theorem shelf_setMem {m : TakeMemory} {s : State} {i : SlotNo} {f : Slot → Slot} (h : m.slots = updAt s.mem.slots i f) :
    shelf (s.setMem m) = { shelf s with
      block := fun b => m.blocks[b].state
      slot := Function.update (shelf s).slot i (f s.mem.slots[i]).state
      bare := Function.update (shelf s).bare i (f s.mem.slots[i]).header.isNone
      list := Function.update (shelf s).list i (f s.mem.slots[i]).blocks
      op := m.op
      buffer := fun k => m.buffers[k].state } := by
  have slots := fun {β : Type} (g : Slot → β) => updAt_update g s.mem.slots i f
  rw [← h] at slots
  rw [shelf, shelf, ← slots Slot.state, ← slots fun x => x.header.isNone, ← slots Slot.blocks]
  rfl

theorem shelf_setSlot (i : SlotNo) (f : Slot → Slot) (s : State) : shelf (s.setSlot i f) = { shelf s with
    slot := Function.update (shelf s).slot i (f s.mem.slots[i]).state
    bare := Function.update (shelf s).bare i (f s.mem.slots[i]).header.isNone
    list := Function.update (shelf s).list i (f s.mem.slots[i]).blocks } :=
  shelf_setMem (m := { s.mem with slots := updAt s.mem.slots i f }) rfl

/-- A change of a slot that leaves its state, its having a header and its blocks. -/
theorem shelf_setSlot_same {i : SlotNo} {f : Slot → Slot} {s : State} (hs : (f s.mem.slots[i]).state = s.mem.slots[i].state)
    (hh : (f s.mem.slots[i]).header.isNone = s.mem.slots[i].header.isNone)
    (hb : (f s.mem.slots[i]).blocks = s.mem.slots[i].blocks) : shelf (s.setSlot i f) = shelf s := by
  rw [shelf_setSlot, hs, hh, hb]
  have slot : Function.update (shelf s).slot i s.mem.slots[i].state = (shelf s).slot := Function.update_eq_self i _
  have bare : Function.update (shelf s).bare i s.mem.slots[i].header.isNone = (shelf s).bare := Function.update_eq_self i _
  have list : Function.update (shelf s).list i s.mem.slots[i].blocks = (shelf s).list := Function.update_eq_self i _
  rw [slot, bare, list]

theorem shelf_setBlock_same {b : BlockNo} {f : Block → Block} {s : State}
    (h : (f s.mem.blocks[b]).state = s.mem.blocks[b].state) : shelf (s.setBlock b f) = shelf s := by
  rw [shelf_setBlock, h]
  exact congrArg (fun w => { shelf s with block := w }) (Function.update_eq_self b (shelf s).block)

theorem shelf_queueReserved (r : Reserved) (s : State) : shelf (queueReserved r s) = shelf s := by
  rw [queueReserved_eq]
  rfl

theorem shelf_storeBlock (b : BlockNo) (s : State) : shelf (storeBlock b s) = shelf s := rfl

theorem shelf_setOp (op : ArrayOp) (s : State) : shelf (setOp op s) = { shelf s with op := some op } := rfl

theorem shelf_freeArray (s : State) : shelf (freeArray s) = { shelf s with op := none } := rfl

theorem shelf_suspendErase (s : State) : shelf (suspendErase s) = { shelf s with op := Shelf.suspended s.mem.op } := by
  unfold suspendErase
  split
  · next b hb =>
    rw [hb]
    rfl
  · next b again hb =>
    rw [hb]
    rfl
  · next he hr =>
    have same : Shelf.suspended s.mem.op = s.mem.op := by
      unfold Shelf.suspended
      split
      · next b hb => exact absurd hb (he b)
      · next b again hb => exact absurd hb (hr b again)
      · rfl
    rw [same]
    rfl

theorem shelf_raiseFor (aud : Port → Bool) (body : EventBody) (s : State) : shelf (raiseFor aud body s) = shelf s := rfl

/-! ### Slots that are emptied or finished -/

/-- A slot is emptied, while the Recorder may return to IDLE. -/
theorem emptySlot_wf {s : State} {i : SlotNo} {st : RecState} {rs : Option SlotNo} {q : Bool}
    (h : { shelf s with recState := st, recSlot := rs, queued := q }.Wf) (hr : rs = some i → st = .idle)
    (hl : (shelf s).slot i ≠ .uploading) :
    { shelf (emptySlot i s) with recState := st, recSlot := rs, queued := q }.Wf := by
  obtain ⟨v, released, he⟩ := emptySlot_eq i s
  rw [he, shelf_setMem rfl]
  exact h.emptied (block := fun b => v[b].state) released.gone (fun b hb => congrArg Block.state (released.other b hb)) hr rfl
    rfl (fun _ _ _ _ _ => ⟨rfl, hl, rfl⟩) fun _ _ _ _ _ => .inl rfl

/-- A slot is finished, while the Recorder may return to IDLE. -/
theorem completeSlot_wf {s : State} {i : SlotNo} {f : Header → Header} {st : RecState} {rs : Option SlotNo} {q : Bool}
    (h : { shelf s with recState := st, recSlot := rs, queued := q }.Wf) (hr : rs = some i → st = .idle)
    (hl : (∀ i b k n, s.mem.op ≠ some (.chunkPart i b k n true)) ∨ (shelf s).slot i ≠ .uploading) :
    { shelf (completeSlot i f s) with recState := st, recSlot := rs, queued := q }.Wf := by
  have list : Function.update (shelf s).list i s.mem.slots[i].blocks = (shelf s).list := Function.update_eq_self i _
  rw [completeSlot_eq, shelf_setMem rfl]
  dsimp only [Slot.completed]
  rw [list]
  exact h.relabel (i := i) (st := .complete) nofun (fun j hj => Function.update_of_ne hj _ _) hr
    (hl.imp id fun hl => ⟨hl, nofun⟩)

theorem discardUpload_wf {s : State} (h : ShelfWf s) : ShelfWf (discardUpload s) := by
  cases hu : s.uploadSlot with
  | none =>
    rw [discardUpload_none hu]
    exact h
  | some i =>
    have uploading : (shelf s).slot i = .uploading := Shelf.upload_some hu
    obtain ⟨v, released, he⟩ := discardUpload_eq hu
    have ends : erases (orphanChunk s.mem.op) = erases s.mem.op ∧ progresses (orphanChunk s.mem.op) = progresses s.mem.op := by
      rcases orphanChunk_cases s.mem.op with ho | ⟨_, _, _, _, _, hs, ho⟩
      · rw [ho]
        exact ⟨rfl, rfl⟩
      · rw [ho, hs]
        exact ⟨rfl, rfl⟩
    rw [ShelfWf, he, shelf_setMem rfl]
    refine h.emptied (block := fun b => v[b].state) released.gone (fun b hb => congrArg Block.state (released.other b hb))
      (fun hr => ?_) ends.1 ends.2 (fun j b k n ho => ?_) fun j b k n ho => ?_
    · cases hst : (shelf s).recState with
      | idle => rfl
      | armed => exact absurd (h.armed i hr hst) (by rw [uploading]; exact nofun)
      | recording => exact absurd (h.running i hr (.inl hst)) (by rw [uploading]; exact nofun)
      | draining => exact absurd (h.running i hr (.inr hst)) (by rw [uploading]; exact nofun)
    · change orphanChunk s.mem.op = _ at ho
      rcases orphanChunk_cases s.mem.op with hs | ⟨_, _, _, _, _, hs, hc⟩
      · rw [hs] at ho
        rw [ho] at hs
        cases hs
      · rw [hc] at ho
        cases ho
    · change orphanChunk s.mem.op = _ at ho
      rcases orphanChunk_cases s.mem.op with hs | ⟨j', b', k', n', l, hs, hc⟩
      · exact .inl hs.symm
      · rw [hc] at ho
        cases ho
        cases l with
        | false => exact .inl (hs.trans hc.symm)
        | true =>
          obtain ⟨up, mem, -⟩ := h.live j b k n hs
          rw [shelf_upload, hu] at up
          cases up
          exact .inr mem

/-! ### The Recorder -/

theorem recIdle_shelf (o : RecOutcome) (n : Nat) (a b : Bool) (s : State) : shelf (recIdle o n a b s) =
    { shelf s with recState := .idle, recSlot := none, queued := false } := rfl

theorem drainFinish_wf {s : State} (h : ShelfWf s) : ShelfWf (drainFinish s) := by
  unfold drainFinish
  split
  · next hd =>
    split
    · exact h
    · next i hi =>
      have draining : s.recorder.state = .draining := (by simpa using hd : _ ∧ _).1
      have recording := h.running i hi (.inr draining)
      have other : (shelf s).slot i ≠ .uploading := by rw [recording]; exact nofun
      have stopped := h.recordingStops
      dsimp only
      split
      · exact emptySlot_wf stopped nofun other
      · exact completeSlot_wf stopped nofun (.inr other)
  · exact h

/-- The Recorder goes on, its slot and its activity as they are or towards the end. -/
theorem setRecorder_wf {s : State} {r : Recorder} (h : ShelfWf s) (hs : r.slot = s.recorder.slot)
    (ha : r.state = s.recorder.state ∨ r.state = .draining ∧ s.recorder.state = .recording)
    (hq : r.queue ≠ [] → s.recorder.state = .recording ∨ s.recorder.state = .draining) : ShelfWf (s.setRecorder r) := by
  have runs : r.state = .recording ∨ r.state = .draining → s.recorder.state = .recording ∨ s.recorder.state = .draining := by
    rintro (hr | hr)
    · rcases ha with ha | ⟨hd, -⟩
      · exact .inl (ha.symm.trans hr)
      · rw [hr] at hd
        cases hd
    · rcases ha with ha | ⟨-, hw⟩
      · exact .inr (ha.symm.trans hr)
      · exact .inl hw
  have back : s.recorder.state = .recording ∨ s.recorder.state = .draining → r.state = .recording ∨ r.state = .draining := by
    intro was
    rcases ha with ha | ⟨hd, -⟩
    · rw [ha]
      exact was
    · exact .inr hd
  refine h.recorder (st := r.state) (i := r.slot) (q := !r.queue.isEmpty) ?_ (fun j hj hr => ?_) (fun j hj hr => ?_) fun q => ?_
  · by_cases idle : s.recorder.state = .idle
    · rcases ha with ha | ⟨-, hw⟩
      · exact .inr (ha.trans idle)
      · rw [idle] at hw
        cases hw
    · exact .inl (h.noProgress idle)
  · rcases ha with ha | ⟨hd, -⟩
    · exact h.armed j (hs.symm.trans hj) (ha.symm.trans hr)
    · rw [hr] at hd
      cases hd
  · exact h.running j (hs.symm.trans hj) (runs hr)
  · exact back (hq (by simpa using q))

theorem recordEnds_wf {s : State} (o : RecOutcome) (h : ShelfWf s) : ShelfWf (recordEnds o s) := by
  have queue : s.recorder.queue ≠ [] → s.recorder.state = .recording ∨ s.recorder.state = .draining := fun hq =>
    h.queue (by simpa [shelf] using hq)
  unfold recordEnds
  split
  · exact h
  · exact h.recordingStops
  · next hr => exact drainFinish_wf (setRecorder_wf h rfl (.inr ⟨rfl, hr⟩) queue)
  · exact setRecorder_wf h rfl (.inl rfl) queue

theorem recordNoRoom_wf {s : State} (i : SlotNo) (h : ShelfWf s) : ShelfWf (recordNoRoom i s) :=
  drainFinish_wf (recordEnds_wf _ (setRecorder_wf h rfl (.inl rfl) fun hq => absurd rfl hq))

theorem composeSample_wf {s : State} (h : ShelfWf s) : ShelfWf (composeSample s) := by
  unfold composeSample
  dsimp only
  split
  · exact h
  · next hr =>
    have recording : s.recorder.state = .recording := not_not.mp hr
    split
    · have queued := fun r : Recorder => fun hs : r.slot = s.recorder.slot => fun ht : r.state = s.recorder.state =>
        setRecorder_wf h hs (.inl ht) fun _ => .inl recording
      split
      · exact recordEnds_wf _ (queued _ rfl rfl)
      · exact queued _ rfl rfl
    · exact recordEnds_wf _ h

theorem recordStart_wf {s : State} {i : SlotNo} (hi : s.recorder.slot = some i) (ha : s.recorder.state = .armed) (h : ShelfWf s) :
    ShelfWf (recordStart i s) := by
  unfold recordStart
  split
  · exact recordEnds_wf _ h
  · have empty : (shelf s).slot i = .empty := h.armed i hi ha
    have noUpload : (shelf s).slot i ≠ .uploading := by rw [empty]; exact nofun
    have quiet := h.noProgress (show (shelf s).recState ≠ .idle by rw [shelf, ha]; exact nofun)
    have list : Function.update (shelf s).list i [] = (shelf s).list := by
      rw [← (h.empty i empty).2]
      exact Function.update_eq_self i _
    have begun := (h.recordingStops.relabel (i := i) (st := .recording) (bare := Function.update (shelf s).bare i false) nofun
      (fun j hj => Function.update_of_ne hj _ _) nofun (.inr ⟨noUpload, nofun⟩)).recorder (st := .recording)
        (i := some i) (q := !s.recorder.queue.isEmpty) (.inl quiet) nofun (fun j hj _ => by cases hj; exact Function.update_self ..)
        fun _ => .inl rfl
    rw [ShelfWf, raiseMotion, shelf_raiseFor, queueDir, shelf_queueReserved, shelf_setSlot]
    change Shelf.Wf { shelf s with
      slot := Function.update (shelf s).slot i .recording
      bare := Function.update (shelf s).bare i false
      list := Function.update (shelf s).list i []
      recState := .recording
      recSlot := s.recorder.slot
      queued := !s.recorder.queue.isEmpty }
    rw [list, hi]
    exact begun

theorem recorderFrame_wf {s : State} (h : ShelfWf s) : ShelfWf (recorderFrame s) := by
  unfold recorderFrame
  split
  · next ha =>
    split
    · next f i _ hi =>
      split
      · exact recordStart_wf hi ha h
      · exact h
    · exact h
  · next hr =>
    split
    · exact drainFinish_wf (setRecorder_wf h rfl (.inr ⟨rfl, hr⟩) fun _ => .inl hr)
    · exact h
  · exact h

end Sys2Proof.Machine
end

section
/-! PROOFS. The array's choices and completions and the requests about takes keep TakesWf (O9). -/

namespace Sys2Proof.Machine

open Sys2Proof

/-! ### The array's choice -/

theorem mem_of_lastRoom {s : State} {i : SlotNo} {b : BlockNo} {n : Nat} (h : s.lastRoom i = some (b, n)) :
    b ∈ s.mem.slots[i].blocks := by
  unfold State.lastRoom at h
  split at h
  · next c x hc hx =>
    dsimp only at h
    split at h
    · cases h
    · cases h
      exact List.mem_of_getLast? hc
  · cases h

theorem shelf_allocate (i : SlotNo) (b : BlockNo) (s : State) : shelf (allocate i b s) = { shelf s with
    block := Function.update (shelf s).block b (.used i s.mem.slots[i].blocks.length false)
    list := Function.update (shelf s).list i (s.mem.slots[i].blocks ++ [b]) } := by
  have slot : Function.update (shelf s).slot i s.mem.slots[i].state = (shelf s).slot := Function.update_eq_self i _
  have bare : Function.update (shelf s).bare i s.mem.slots[i].header.isNone = (shelf s).bare := Function.update_eq_self i _
  rw [allocate, shelf_setSlot, shelf_setBlock]
  change { shelf s with
    block := Function.update (shelf s).block b (.used i s.mem.slots[i].blocks.length false)
    slot := Function.update (shelf s).slot i s.mem.slots[i].state
    bare := Function.update (shelf s).bare i s.mem.slots[i].header.isNone
    list := Function.update (shelf s).list i (s.mem.slots[i].blocks ++ [b]) } = _
  rw [slot, bare]

/-- A take that is not EMPTY has a block found for it. -/
theorem placeNext_wf {s u : State} {i : SlotNo} {b : BlockNo} {n : Nat} (h : ShelfWf s) (hi : (shelf s).slot i ≠ .empty)
    (hp : s.placeNext i = some (u, b, n)) :
    ShelfWf u ∧ u.mem.op = s.mem.op ∧ (shelf u).slot = (shelf s).slot ∧ b ∈ (shelf u).list i := by
  rcases placeNext_cases hp with ⟨rfl, last, -⟩ | ⟨free, rfl, -⟩
  · exact ⟨h, rfl, rfl, mem_of_lastRoom last⟩
  · have isFree : s.mem.blocks[b].state = .free := by simpa using List.find?_some free
    refine ⟨?_, rfl, ?_, ?_⟩
    · rw [ShelfWf, shelf_allocate]
      exact h.allocated isFree hi
    · rw [shelf_allocate]
    · rw [shelf_allocate]
      dsimp only
      rw [Function.update_self]
      exact List.mem_append_right _ List.mem_cons_self

/-- With no operation in progress no block is ERASING but a suspended one. -/
theorem ShelfWf.stands {s : State} (h : ShelfWf s) (he : erases s.mem.op = none) (b : BlockNo) :
    (shelf s).block b ≠ .erasing false := fun hb => by
  have erasing := (h.erase b).mp hb
  change erases s.mem.op = some b at erasing
  rw [he] at erasing
  cases erasing

theorem startErase_wf {s : State} (hr : s.recActive = false) (hp : s.playActive = false) (ho : s.mem.op = none)
    (h : ShelfWf s) : ShelfWf (startErase s) := by
  have idle : (shelf s).recState = .idle ∧ (shelf s).playing = false := ⟨(recActive_false s).mp hr, hp⟩
  have stands := h.stands (by rw [ho]; rfl)
  unfold startErase
  split
  · next b hb =>
    have held : s.mem.blocks[b].state = .erasing true := by simpa using List.find?_some hb
    rw [ShelfWf, shelf_setOp, shelf_setBlock]
    exact h.turnBlock (x := .erasing false) (op := some (.resume b false)) (by rw [show (shelf s).block b = _ from held]; exact nofun) nofun nofun
      (fun c => by simp [erases, eq_comm]) (fun c _ => stands c)
      (fun y _ c z hc hz => hc (h.single c b z true hz held)) fun _ => idle
  · next hn =>
    split
    · next b hb =>
      have dirty : s.mem.blocks[b].state = .dirty := by simpa using List.find?_some hb
      rw [ShelfWf, shelf_setOp, shelf_storeBlock, shelf_setBlock]
      refine h.turnBlock (x := .erasing false) (op := some (.erase b)) (by rw [show (shelf s).block b = _ from dirty]; exact nofun) nofun nofun
        (fun c => by simp [erases, eq_comm]) (fun c _ => stands c) (fun y _ c z _ hz => ?_) fun _ => idle
      cases z with
      | false => exact stands c hz
      | true =>
        have none := List.find?_eq_none.mp hn c (List.mem_finRange c)
        exact none (decide_eq_true hz)
    · exact h

/-- An operation begins that does nothing TakesWf looks at. -/
theorem ShelfWf.starts {s t : State} {op : ArrayOp} (h : ShelfWf s) (he : erases s.mem.op = none)
    (ho : Shelf.Apart (some op)) (ht : shelf t = shelf s) : ShelfWf (setOp op t) := by
  rw [ShelfWf, shelf_setOp, ht]
  exact h.turn he ho

theorem startReserved_wf {s : State} (he : erases s.mem.op = none) (h : ShelfWf s) : ShelfWf (startReserved s) := by
  have apart : ∀ w, Shelf.Apart (some (.reserved w)) := fun w => ⟨rfl, nofun⟩
  unfold startReserved
  split
  · exact h
  · dsimp only
    split
    · exact h.starts he (apart _) (shelf_setSlot_same rfl rfl rfl)
    · exact h.starts he (apart _) rfl
    · exact h.starts he (apart _) rfl

theorem uploadNoRoom_wf {s : State} (i : SlotNo) (k : Fin 2) (ho : s.mem.op = none) (h : ShelfWf s) :
    ShelfWf (uploadNoRoom i k s) := by
  have dropped : ∀ k t, t.mem.op = none → ShelfWf t → ShelfWf (chunkNoRoom k t) := by
    intro k t ht hw
    rw [ShelfWf, chunkNoRoom, raiseMotion, shelf_raiseFor, shelf_setBuffer]
    exact hw.buffers (.inl fun i b k n hc => by
      change t.mem.op = _ at hc
      rw [ht] at hc
      cases hc)
  have first := dropped k s ho h
  unfold uploadNoRoom
  dsimp only
  split
  · exact dropped (otherBuffer k) (chunkNoRoom k s) ho first
  · exact first

/-- What the scheduler starts keeps TakesWf; it starts from a free array. -/
theorem schedules_wf : Schedules (fun s => ShelfWf s ∧ s.mem.op = none) ShelfWf where
  nothing _ h := h.1
  read i n d s _ h := h.1.starts (by rw [h.2]; rfl) ⟨rfl, nofun⟩ rfl
  sample i s t hi hq ht := by
    rintro ⟨h, ho⟩
    have recording : (shelf s).slot i = .recording := h.running i hi (h.queue (by simpa [shelf] using hq))
    obtain ⟨⟨u, b, n⟩, hp, rfl⟩ := Option.map_eq_some_iff.mp ht
    obtain ⟨placed, same, -⟩ := placeNext_wf h (by rw [recording]; exact nofun) hp
    exact placed.starts (by rw [same, ho]; rfl) ⟨rfl, nofun⟩ rfl
  recordNoRoom i s _ _ _ h := ⟨recordNoRoom_wf i h.1, (recordNoRoom_recEnd i s).op.trans h.2⟩
  reserved s h := startReserved_wf (by rw [h.2]; rfl) h.1
  chunk i k s t _ hi ht := by
    rintro ⟨h, ho⟩
    have uploading : (shelf s).slot i = .uploading := Shelf.upload_some hi
    obtain ⟨⟨u, b, n⟩, hp, rfl⟩ := Option.map_eq_some_iff.mp ht
    obtain ⟨placed, same, slots, mem⟩ := placeNext_wf h (by rw [uploading]; exact nofun) hp
    have upload : (shelf u).upload = some i := (Shelf.upload_congr (w := shelf s) fun j => by rw [slots]).trans hi
    rw [ShelfWf, shelf_setOp, shelf_setBuffer]
    exact placed.startPart (by rw [shelf, same, ho]; rfl) upload mem
  uploadNoRoom i k s _ _ _ h := ⟨uploadNoRoom_wf i k h.2 h.1, by
    unfold uploadNoRoom
    dsimp only
    split
    · exact h.2
    · exact h.2⟩
  erase s hr hp h := startErase_wf hr hp h.2 h.1

theorem schedule_wf {s : State} (h : ShelfWf s) : ShelfWf (schedule s) := by
  unfold schedule
  split
  · exact h
  · split
    · exact h
    · next ho => exact schedules_wf.scheduleRounds 3 ⟨h, by simpa using ho⟩

/-! ### Completions -/

theorem ShelfWf.frees {s : State} (h : ShelfWf s) (he : erases s.mem.op = none) : ShelfWf (freeArray s) :=
  h.turn he Shelf.apart_none

theorem programFailed_wf {s : State} (b : BlockNo) (h : ShelfWf s) : ShelfWf (programFailed b s) := by
  have same : shelf (programFailed b s) = shelf (s.setBlock b fun x => { x with state := x.state.retire }) := rfl
  rw [ShelfWf, same, shelf_setBlock]
  exact h.retired

theorem header_map_isNone (f : Header → Header) (x : Slot) : (x.header.map f).isNone = x.header.isNone :=
  Option.isNone_map

theorem sampleProgrammed_wf {s : State} (ok : Bool) (h : ShelfWf s) : ShelfWf (sampleProgrammed ok s) := by
  unfold sampleProgrammed
  split
  · next i b hop =>
    have freed := h.frees (by rw [hop]; rfl)
    dsimp only
    split
    · split
      · exact freed
      · next x rest hq =>
        refine drainFinish_wf (setRecorder_wf ?_ rfl (.inl rfl) fun _ => ?_)
        · rw [ShelfWf, shelf_storeBlock, shelf_setSlot_same rfl (header_map_isNone _ _) rfl, shelf_setBlock_same rfl]
          exact freed
        · exact h.queue (by simp [shelf, hq])
    · exact programFailed_wf b freed
  · exact h

theorem chunkProgrammed_wf {s : State} (i : SlotNo) (b : BlockNo) (k : Fin 2) (n : Nat) (ho : s.mem.op = none)
    (h : ShelfWf s) : ShelfWf (chunkProgrammed i b k n s) := by
  have buffered : ∀ (t : State) f, shelf t = shelf s → ShelfWf (t.setBuffer k f) := by
    intro t f ht
    rw [ShelfWf, shelf_setBuffer, ht]
    exact h.buffers (.inl fun i b k n hc => by
      change s.mem.op = _ at hc
      rw [ho] at hc
      cases hc)
  unfold chunkProgrammed
  dsimp only
  split
  · refine buffered _ _ ?_
    rw [shelf_storeBlock, shelf_setSlot_same rfl (header_map_isNone _ _) rfl, shelf_setBlock_same rfl]
  · refine buffered _ _ ?_
    rw [shelf_storeBlock, shelf_setSlot_same rfl (header_map_isNone _ _) rfl, shelf_setBlock_same rfl]

theorem orphanFailed_wf {s : State} {b : BlockNo} (h : ShelfWf s) (ho : s.mem.op = none)
    (hb : (shelf s).block b = .dirty ∨ (shelf s).block b = .bad) : ShelfWf (orphanFailed b s) := by
  have same : shelf (orphanFailed b s) = { shelf (s.setBlock b fun x => { x with state := .bad }) with op := none } := by
    rw [← ho]
    rfl
  rw [ShelfWf, same, shelf_setBlock]
  exact h.turnBlock (x := .bad) (op := none) (by rcases hb with hb | hb <;> rw [hb] <;> exact nofun) nofun nofun
    (fun c => by simp [erases]) (fun c _ => h.stands (by rw [ho]; rfl) c) nofun nofun

theorem partDone_wf {s : State} (ok : Bool) (h : ShelfWf s) : ShelfWf (partDone ok s) := by
  unfold partDone
  split
  · next i b k n live hop =>
    have freed := h.frees (by rw [hop]; rfl)
    dsimp only
    split
    · exact chunkProgrammed_wf i b k n rfl freed
    · refine programFailed_wf b ?_
      rw [ShelfWf, shelf_setBuffer]
      exact freed.buffers (.inl nofun)
    · exact freed
    · exact orphanFailed_wf freed rfl (h.dead i b k n hop)
  · exact h

theorem eraseEnd_wf {s : State} {b : BlockNo} (verified : Bool) (h : ShelfWf s) (he : erases s.mem.op = some b) :
    ShelfWf (eraseEnd b verified s) := by
  have erasing : (shelf s).block b = .erasing false := (h.erase b).mpr he
  have turned : ∀ x : BlockState, (∀ i p r, x ≠ .used i p r) → (∀ y, x ≠ .erasing y) →
      Shelf.Wf { shelf s with block := Function.update (shelf s).block b x, op := none } := fun x hx hy =>
    h.turnBlock (by rw [erasing]; exact nofun) hx nofun (fun c => by simp [erases, hy])
      (fun c hc hz => hc (h.single c b false false hz erasing)) (fun y hxy => absurd hxy (hy y)) nofun
  unfold eraseEnd
  dsimp only
  split
  · rw [ShelfWf, shelf_storeBlock, shelf_setBlock]
    exact turned .free nofun nofun
  · have same : ∀ t : State, shelf (raiseMotion (.blockBad b) (storeBlock b (t.setMem { t.mem with eraseFail := true }))) =
        shelf t := fun _ => rfl
    rw [ShelfWf, same, shelf_setBlock]
    exact turned .bad nofun nofun

theorem eraseCompletes_wf {s : State} (verified : Bool) (h : ShelfWf s) : ShelfWf (eraseCompletes verified s) := by
  unfold eraseCompletes
  split
  · next b hop => exact eraseEnd_wf verified h (by rw [hop]; rfl)
  · exact h

theorem suspendCompletes_wf {s : State} (r : SuspendEnd) (h : ShelfWf s) : ShelfWf (suspendCompletes r s) := by
  unfold suspendCompletes
  split
  · next b hop =>
    have erasing : (shelf s).block b = .erasing false := (h.erase b).mpr (by rw [shelf, hop]; rfl)
    split
    · rw [ShelfWf, shelf_freeArray, shelf_setBlock]
      exact h.turnBlock (x := .erasing true) (op := none) (by rw [erasing]; exact nofun) nofun nofun
        (fun c => by simp [erases]) (fun c hc hz => hc (h.single c b false false hz erasing))
        (fun y _ c z hc hz => hc (h.single c b z false hz erasing)) nofun
    · exact eraseEnd_wf _ h (by rw [hop]; rfl)
  · exact h

theorem resumeCompletes_wf {s : State} (h : ShelfWf s) : ShelfWf (resumeCompletes s) := by
  unfold resumeCompletes
  split
  · next b again hop =>
    have op : (shelf s).op = some (.resume b again) := hop
    rw [ShelfWf, shelf_setOp]
    cases again with
    | false => exact h.sameOp (op := some (.erase b)) (by rw [op]; rfl) (by rw [op]; rfl) nofun
    | true => exact h.sameOp (op := some (.suspend b)) (by rw [op]; rfl) (by rw [op]; rfl) nofun
  · exact h

theorem writeEnds_shelf (w : ReservedWrite) (ok : Bool) (s : State) : shelf (writeEnds w ok s) = shelf s := by
  unfold writeEnds
  split
  · rfl
  · rfl
  · dsimp only
    split
    · rfl
    · rfl

theorem reservedDone_wf {s : State} (ok : Bool) (h : ShelfWf s) : ShelfWf (reservedDone ok s) := by
  unfold reservedDone
  split
  · next w hop =>
    have freed := h.frees (by rw [hop]; rfl)
    rw [ShelfWf, writeEnds_shelf]
    split
    · exact freed
    · exact freed
  · exact h

end Sys2Proof.Machine
end

section
/-! PROOFS. Every step keeps the queue bounds and TakesWf (O9): the requests about takes, a power-up, and the step. -/

namespace Sys2Proof.Machine

open Sys2Proof

/-! ### Requests -/

section Requests

variable {s : State}

/-- A slot that is neither EMPTY nor RECORDING is not the Recorder's while it is active. -/
theorem ShelfWf.free {i : SlotNo} (h : ShelfWf s) (he : s.mem.slots[i].state ≠ .empty)
    (hr : s.mem.slots[i].state ≠ .recording) (hi : s.recorder.slot = some i) : s.recorder.state = .idle := by
  cases hst : s.recorder.state with
  | idle => rfl
  | armed => exact absurd (h.armed i hi hst) he
  | recording => exact absurd (h.running i hi (.inl hst)) hr
  | draining => exact absurd (h.running i hi (.inr hst)) hr

theorem ShelfWf.emptySlot {i : SlotNo} (h : ShelfWf s) (hr : s.recorder.slot = some i → s.recorder.state = .idle)
    (hl : s.mem.slots[i].state ≠ .uploading) : ShelfWf (emptySlot i s) := by
  have recorder : (Machine.emptySlot i s).recorder = s.recorder := by
    obtain ⟨v, -, he⟩ := emptySlot_eq i s
    rw [he]
    rfl
  have emptied := emptySlot_wf (i := i) (st := s.recorder.state) (rs := s.recorder.slot) (q := !s.recorder.queue.isEmpty) h hr hl
  rw [← recorder] at emptied
  exact emptied

theorem ShelfWf.completeSlot {i : SlotNo} {f : Header → Header} (h : ShelfWf s)
    (hr : s.recorder.slot = some i → s.recorder.state = .idle)
    (hl : ∀ i b k n, s.mem.op ≠ some (.chunkPart i b k n true)) : ShelfWf (completeSlot i f s) := by
  have recorder : (Machine.completeSlot i f s).recorder = s.recorder := by
    rw [completeSlot_eq]
    rfl
  have completed := completeSlot_wf (i := i) (f := f) (st := s.recorder.state) (rs := s.recorder.slot)
    (q := !s.recorder.queue.isEmpty) h hr (.inl hl)
  rw [← recorder] at completed
  exact completed

theorem judgeRecord_wf (a : RecordArgs) : KeptBy ShelfWf (judgeRecord a) := by
  intro s h
  unfold judgeRecord
  split
  · exact h
  split
  · exact h
  split
  · exact h
  split
  · exact h
  split
  · exact h
  next i _ _ _ _ he =>
  split
  · exact h
  split
  · exact h
  · have armed := fun r : Recorder => fun (hs : r.slot = some i) (ht : r.state = .armed) (hq : r.queue = []) =>
      h.activate (st := r.state) (i := r.slot) (q := !r.queue.isEmpty) (p := s.playActive)
        (fun j hj _ => by
          rw [hs] at hj
          cases hj
          exact not_not.mp he)
        (fun j _ hr => by rcases hr with hr | hr <;> rw [ht] at hr <;> cases hr) (by rw [hq]; exact nofun)
    rw [accept, armRecorder, ShelfWf, shelf_suspendErase]
    exact armed _ rfl rfl rfl

theorem judgeMark_wf (m : MarkKind) : KeptBy ShelfWf (judgeMark m) := by
  intro s h
  unfold judgeMark
  dsimp only
  split
  · exact h
  split
  · exact h
  · exact h

theorem judgeRecordEnd_wf (u : Unit) : KeptBy ShelfWf (judgeRecordEnd u) := by
  intro s h
  unfold judgeRecordEnd
  split
  · exact h
  · exact h
  · exact recordEnds_wf _ h
  · split
    · exact h
    · exact h

theorem judgeTakeProtect_wf (a : ProtectArgs) : KeptBy ShelfWf (judgeTakeProtect a) := by
  have kept : ∀ (i : SlotNo) (f : Slot → Slot) (s : State), (∀ x, (f x).state = x.state ∧ (f x).header = x.header ∧
      (f x).blocks = x.blocks) → ShelfWf s → ShelfWf (s.setSlot i f) := by
    intro i f s hf h
    obtain ⟨state, header, blocks⟩ := hf s.mem.slots[i]
    rw [ShelfWf, shelf_setSlot_same state (by rw [header]) blocks]
    exact h
  intro s h
  unfold judgeTakeProtect
  split
  · exact h
  · dsimp only
    split
    · exact h
    · split
      · exact kept _ _ _ (fun _ => ⟨rfl, rfl, rfl⟩) h
      · split
        · exact h
        · exact kept _ _ _ (fun _ => ⟨rfl, rfl, rfl⟩) h
      · exact kept _ _ _ (fun _ => ⟨rfl, rfl, rfl⟩) h

theorem judgeTakeErase_wf (slot : Nat) : KeptBy ShelfWf (judgeTakeErase slot) := by
  intro s h
  unfold judgeTakeErase
  split
  · exact h
  · next i _ =>
    dsimp only
    split
    · exact h
    · next hf =>
      have finished : s.mem.slots[i].state = .complete ∨ s.mem.slots[i].state = .truncated := by
        rw [Bool.or_eq_true, Bool.or_eq_true, not_or, not_or, Bool.not_eq_true', Bool.not_eq_false] at hf
        simpa only [Slot.finished, Bool.or_eq_true, decide_eq_true_eq] using hf.1.1
      split
      · exact h
      · refine h.emptySlot (fun hr => h.free ?_ ?_ hr) ?_
        all_goals rcases finished with hs | hs <;> rw [hs] <;> exact nofun

theorem judgeTakeOpen_wf (a : OpenArgs) : KeptBy ShelfWf (judgeTakeOpen a) := by
  intro s h
  unfold judgeTakeOpen
  split
  · exact h
  split
  · exact h
  split
  · exact h
  next i _ _ hf =>
  split
  · exact h
  next hu =>
  split
  · exact h
  · obtain ⟨empty, armed⟩ := slotFree_iff.mp (by simpa using hf)
    have noPart : ∀ i b k n, s.mem.op ≠ some (.chunkPart i b k n true) := fun i b k n hc => by
      rw [← shelf_upload, (h.live i b k n hc).1] at hu
      exact hu rfl
    have list : Function.update (shelf s).list i [] = (shelf s).list := by
      rw [← (h.empty i empty).2]
      exact Function.update_eq_self i _
    have notRecorders : s.recorder.slot = some i → s.recorder.state = .idle := fun hi => by
      cases hst : s.recorder.state with
      | idle => rfl
      | armed => exact armed.elim (absurd hst) (absurd hi)
      | recording => exact absurd (h.running i hi (.inl hst)) (by rw [show (shelf s).slot i = _ from empty]; exact nofun)
      | draining => exact absurd (h.running i hi (.inr hst)) (by rw [show (shelf s).slot i = _ from empty]; exact nofun)
    have opened := (h.relabel (i := i) (st := .uploading) (bare := Function.update (shelf s).bare i false) nofun
      (fun j hj => Function.update_of_ne hj _ _) notRecorders (.inl noPart)).buffers
        (w := fun k => ((Vector.replicate 2 StageBuffer.reset)[k]).state) (.inl noPart)
    rw [done, openSlot, ShelfWf, queueDir, shelf_queueReserved]
    have same : ∀ t : State, shelf ((emptyBuffers t).setMem { (emptyBuffers t).mem with upload :=
        { nextOffset := 0, spanOpen := false } }) =
          { shelf t with buffer := fun k => ((Vector.replicate 2 StageBuffer.reset)[k]).state } := fun _ => rfl
    rw [same, shelf_setSlot]
    dsimp only
    rw [list]
    exact opened

/-- A STAGE goes to a FILLING or an EMPTY buffer. -/
theorem stageTarget_state {k : Fin 2} (hk : s.stageTarget = some k) : s.mem.buffers[k].state ≠ .programming := by
  have other : ∀ {x : BufferState}, s.mem.buffers[k].state = x → x ≠ .programming → s.mem.buffers[k].state ≠ .programming :=
    fun hx ne hp => ne (hx.symm.trans hp)
  unfold State.stageTarget at hk
  split at hk
  · next hf => cases hk; exact other hf nofun
  split at hk
  · next hf => cases hk; exact other hf nofun
  split at hk
  · next he => cases hk; exact other he nofun
  split at hk
  · next he => cases hk; exact other he nofun
  · cases hk

theorem judgeStage_wf (xs : List StagedSample) : KeptBy ShelfWf (judgeStage xs) := by
  intro s h
  unfold judgeStage
  split
  · exact h
  split
  · exact h
  split
  · exact h
  next k hk =>
  split
  · exact h
  · have target := stageTarget_state hk
    rw [done, ShelfWf, shelf_setBuffer]
    refine h.buffers (.inr fun j hj => ?_)
    have ne : j ≠ k := by
      rintro rfl
      exact target hj
    rw [Function.update_of_ne ne]
    exact hj

theorem judgeStageCommit_wf (u : Unit) : KeptBy ShelfWf (judgeStageCommit u) := by
  intro s h
  unfold judgeStageCommit
  split
  · next k i hk _ =>
    have filling := fillingBuffer_state hk
    have kept : ∀ f, ShelfWf (s.setBuffer k f) := by
      intro f
      rw [ShelfWf, shelf_setBuffer]
      refine h.buffers (.inr fun j hj => ?_)
      have ne : j ≠ k := by
        rintro rfl
        change s.mem.buffers[j].state = _ at hj
        rw [filling] at hj
        cases hj
      rw [Function.update_of_ne ne]
      exact hj
    split
    · exact kept _
    · exact kept _
  · exact h

theorem judgeTakeClose_wf (u : Unit) : KeptBy ShelfWf (judgeTakeClose u) := by
  intro s h
  unfold judgeTakeClose
  split
  · exact h
  · next i hu =>
    split
    · exact h
    split
    · exact h
    · next hb =>
      obtain ⟨first, second⟩ := not_or.mp hb
      have uploading : s.mem.slots[i].state = .uploading := by
        have slot : (shelf s).slot i = .uploading := Shelf.upload_some hu
        exact slot
      refine h.completeSlot (h.free ?_ ?_) fun j b k n hc => ?_
      · rw [uploading]; exact nofun
      · rw [uploading]; exact nofun
      · have programming : s.mem.buffers[k].state = .programming := (h.live j b k n hc).2.2
        have empty : s.mem.buffers[k].state = .empty := by
          match k with
          | 0 => exact not_not.mp first
          | 1 => exact not_not.mp second
        rw [empty] at programming
        cases programming

theorem judgeTakeDiscard_wf (u : Unit) : KeptBy ShelfWf (judgeTakeDiscard u) := by
  intro s h
  unfold judgeTakeDiscard
  split
  · exact h
  · exact discardUpload_wf h

theorem judgeTakeFetch_wf (rx : Rx) (a : FetchArgs) : KeptBy ShelfWf (judgeTakeFetch rx a) := by
  intro s h
  unfold judgeTakeFetch
  split
  · exact h
  split
  · exact h
  split
  · exact h
  split
  · exact h
  split
  · exact h
  · exact h

theorem judgeCue_wf (a : CueArgs) : KeptBy ShelfWf (judgeCue a) := by
  intro s h
  have grants : KeepsGrants fun t => shelf t = { shelf s with playing := true } :=
    keepsGrants_of ⟨fun _ _ _ ht => ht⟩ (fun _ _ ht => ht) fun _ _ ht => ht
  refine judgeCue_keeps (fun i hd part scale endMode _ _ => ?_) h
  have held := forEach_keeps (f := fun l s => gainLane l .playback playbackLevel s) (fun l t ht => grants.gain l _ _ t ht)
    (LaneSet.members part) (show shelf (s.setPlay { Playback.reset with
      state := .cueing, slot := some i, length := some hd.length, participation := part, endMode := some endMode,
      cueScale := some scale, k := some 0 }) = { shelf s with playing := true } from rfl)
  unfold beginCue
  dsimp only
  rw [ShelfWf, shelf_suspendErase]
  have op := congrArg Shelf.op held
  change _ = (shelf s).op at op
  rw [show ∀ t : State, t.mem.op = (shelf t).op from fun _ => rfl, op, held]
  exact h.activate (st := s.recorder.state) (i := s.recorder.slot) (q := !s.recorder.queue.isEmpty) h.armed h.running h.queue

theorem shelf_setSlots {v : Vector Slot 32} (c : Bool) (h : ∀ i : SlotNo, v[i].state = s.mem.slots[i].state ∧
    v[i].header = s.mem.slots[i].header ∧ v[i].blocks = s.mem.slots[i].blocks) :
    shelf (s.setMem { s.mem with protectClosed := c, slots := v }) = shelf s := by
  have slot : (fun i : SlotNo => v[i].state) = (shelf s).slot := funext fun i => (h i).1
  have bare : (fun i : SlotNo => v[i].header.isNone) = (shelf s).bare := funext fun i => congrArg Option.isNone (h i).2.1
  have list : (fun i : SlotNo => v[i].blocks) = (shelf s).list := funext fun i => (h i).2.2
  change { shelf s with
    slot := fun i : SlotNo => v[i].state
    bare := fun i : SlotNo => v[i].header.isNone
    list := fun i : SlotNo => v[i].blocks } = shelf s
  rw [slot, bare, list]

theorem protectSlot_keeps (closed : Bool) (x : Slot) : (protectSlot closed x).state = x.state ∧
    (protectSlot closed x).header = x.header ∧ (protectSlot closed x).blocks = x.blocks := by
  unfold protectSlot
  split
  · split
    · exact ⟨rfl, rfl, rfl⟩
    · exact ⟨rfl, rfl, rfl⟩
  · exact ⟨rfl, rfl, rfl⟩

theorem protectLine_wf (closed : Bool) (h : ShelfWf s) : ShelfWf (if s.mem.protectClosed = closed then s
    else s.setMem { s.mem with protectClosed := closed, slots := mapAll s.mem.slots fun _ x => protectSlot closed x }) := by
  split
  · exact h
  · rw [ShelfWf, shelf_setSlots closed fun i => ?_]
    · exact h
    · rw [mapAll_get]
      exact protectSlot_keeps closed _

end Requests

end Sys2Proof.Machine
end

section
/-! PROOFS. Every step keeps the queue bounds and TakesWf (O9): a power-up, and the step. -/

namespace Sys2Proof.Machine

open Sys2Proof

/-! ### A power-up -/

theorem settleSlot_emptyState {data : BlockNo → List StoredSample} {own : List BlockNo} {r : SlotRecord}
    (h : (settleSlot data own r).state = .empty) : (settleSlot data own r).header = none ∧ (settleSlot data own r).blocks = [] := by
  unfold settleSlot at h ⊢
  dsimp only at h ⊢
  split at h
  · split at h
    · cases h
    · next hn => rw [if_neg hn]; exact ⟨rfl, rfl⟩
  · split at h
    · cases h
    · next hn => rw [if_neg hn]; exact ⟨rfl, rfl⟩
  · split at h
    · next hz => rw [if_pos hz]; exact ⟨rfl, rfl⟩
    · cases h
  · exact ⟨rfl, rfl⟩

theorem bare_of_eq {data : BlockNo → List StoredSample} {own : List BlockNo} {r : SlotRecord} {x : Slot}
    (hx : x = settleSlot data own r) (h : x.state = .empty) : x.header = none ∧ x.blocks = [] := by
  subst hx
  exact settleSlot_emptyState h

theorem settleBlock_erasing {slots : Vector Slot 32} {b : BlockNo} {x : BlockState} {y : Bool} :
    settleBlock slots b x ≠ .erasing y := by
  cases x with
  | used o place retire =>
    rw [settleBlock_used]
    split
    · exact nofun
    · split <;> exact nofun
  | free => exact nofun
  | dirty => exact nofun
  | bad => exact nofun
  | erasing z => exact nofun

theorem settleBlock_stays {slots : Vector Slot 32} {b : BlockNo} {x : BlockState} {i : SlotNo} {p : Nat} {r : Bool}
    (h : settleBlock slots b x = .used i p r) : x = .used i p r ∧ b ∈ slots[i].blocks := by
  cases x with
  | used o place retire =>
    rw [settleBlock_used] at h
    split at h
    · next mem =>
      cases h
      exact ⟨rfl, mem⟩
    · split at h <;> cases h
  | free => cases h
  | dirty => cases h
  | bad => cases h
  | erasing y => cases h

/-- With the array free and the Recorder IDLE, blocks and slots alone have to agree. -/
theorem Shelf.wf_free {v : Shelf} (op : v.op = none) (idle : v.recState = .idle) (queued : v.queued = false)
    (still : ∀ b y, v.block b ≠ .erasing y) (owned : ∀ b i, b ∈ v.list i ↔ ∃ place retire, v.block b = .used i place retire)
    (nodup : ∀ i, (v.list i).Nodup) (empty : ∀ i, v.slot i = .empty → v.bare i = true ∧ v.list i = []) : v.Wf where
  single b _ x _ hb := absurd hb (still b x)
  owned := owned
  nodup := nodup
  erase b := by
    rw [op]
    exact ⟨fun hb => absurd hb (still b false), nofun⟩
  quiet := by
    rw [op]
    exact nofun
  live := by
    rw [op]
    exact nofun
  dead := by
    rw [op]
    exact nofun
  empty := empty
  armed := by
    rw [idle]
    exact nofun
  running := by
    rw [idle]
    rintro _ _ (h | h) <;> cases h
  queue := by
    rw [queued]
    exact nofun

/-- What the scan settles agrees. -/
theorem shelfWf_of_scan {t : State} {v : Vector BlockState 64} (op : t.mem.op = none) (recorder : t.recorder = Recorder.reset)
    (block : ∀ b : BlockNo, t.mem.blocks[b].state = settleBlock t.mem.slots b v[b])
    (slot : ∀ i : SlotNo, ∃ data r, t.mem.slots[i] = settleSlot data (ownedBlocks v i) r) : ShelfWf t := by
  have kept : ∀ i : SlotNo, t.mem.slots[i].blocks <+: ownedBlocks v i := fun i => by
    obtain ⟨data, r, settled⟩ := slot i
    rw [settled]
    exact settleSlot_blocks_prefix _ _ _
  refine Shelf.wf_free op (congrArg Recorder.state recorder) ?_ (fun b y hb => ?_) (fun b i => ?_)
    (fun i => (kept i).sublist.nodup (ownedBlocks_nodup v i)) fun i hi => ?_
  · rw [shelf, recorder]
    rfl
  · exact settleBlock_erasing ((block b).symm.trans hb)
  · change b ∈ t.mem.slots[i].blocks ↔ ∃ place retire, t.mem.blocks[b].state = .used i place retire
    rw [block]
    constructor
    · intro mem
      obtain ⟨p, r, used⟩ := mem_ownedBlocks.mp ((kept i).subset mem)
      exact ⟨p, r, by rw [used, settleBlock_used]; exact if_pos mem⟩
    · rintro ⟨p, r, used⟩
      exact (settleBlock_stays used).2
  · obtain ⟨data, r, settled⟩ := slot i
    obtain ⟨header, blocks⟩ := bare_of_eq settled hi
    exact ⟨Option.isNone_iff_eq_none.mpr header, blocks⟩

theorem powerUp_wf (lines : LineStates) (d : Damage) (s : State) : ShelfWf (powerUp lines d s) :=
  shelfWf_of_scan rfl rfl (fun b => by rw [powerUp_block]) fun i => ⟨_, _, powerUp_slot lines d s i⟩

/-! ### Every command -/

/-- A READ that loses its reader is still one. -/
theorem dropRead_wf {s : State} (p : ReadDest → Bool) (h : ShelfWf s) :
    Shelf.Wf { shelf s with op := dropRead p s.mem.op } := by
  rcases dropRead_cases p s.mem.op with same | ⟨i, n, d, was, now⟩
  · rw [same]
    exact h
  · rw [now]
    exact h.turn (by rw [show (shelf s).op = _ from was]; rfl) ⟨rfl, nofun⟩

theorem keepsPlain_wf : KeepsPlain ShelfWf where
  raise _ _ _ h := h
  queueReserved r s h := by
    rw [ShelfWf, shelf_queueReserved]
    exact h
  recordEnds o _ := recordEnds_wf o
  composeSample _ := composeSample_wf
  recorderFrame _ := recorderFrame_wf
  discardUpload _ := discardUpload_wf
  dropPlay _ := dropRead_wf isPlayRead
  dropFetch p _ := dropRead_wf (isFetchRead p)
  freeRead i n d s hop h := h.frees (by rw [hop]; rfl)
  fetches _ _ h := h
  schedule _ := schedule_wf
  protectLine closed _ := protectLine_wf closed
  sampleProgrammed ok _ := sampleProgrammed_wf ok
  partDone ok _ := partDone_wf ok
  eraseCompletes verified _ := eraseCompletes_wf verified
  suspendCompletes r _ := suspendCompletes_wf r
  resumeCompletes _ := resumeCompletes_wf
  fetch := judgeTakeFetch_wf
  record := judgeRecord_wf
  mark := judgeMark_wf
  recordEnd := judgeRecordEnd_wf
  takeProtect := judgeTakeProtect_wf
  takeErase := judgeTakeErase_wf
  takeOpen := judgeTakeOpen_wf
  stage := judgeStage_wf
  stageCommit := judgeStageCommit_wf
  takeClose := judgeTakeClose_wf
  takeDiscard := judgeTakeDiscard_wf
  statusClear _ _ h := h
  pump _ h := h
  reservedDone ok _ := reservedDone_wf ok
  play x s hx h := h.playbackStops (p := decide (x.state ≠ .idle)) fun active =>
    decide_eq_true (hx.resolve_left (of_decide_eq_true active))
  cue := judgeCue_wf
  lanes _ _ h := h
  grants _ _ h := h
  nextArrival _ _ h := h
  lens _ _ h := h
  safety _ _ h := h
  drives _ _ h := h
  rig _ _ h := h

theorem shelf_pushReply (p : Port) (r : Reply) (s : State) : shelf (pushReply p r s) = shelf s := by
  unfold pushReply
  split
  · rfl
  · rfl

theorem judgeLeave_shelf (rx : Rx) (u : Unit) (s : State) : shelf (judgeLeave rx u s).1 = shelf s := shelf_pushReply _ _ _

theorem keepsLinks_wf : KeepsLinks ShelfWf where
  raise := keepsPlain_wf.raise
  same _ _ _ _ h := h
  move _ _ _ _ _ h := h
  enter _ _ _ h := h
  leave _ _ h := h
  answer p r s h := by
    rw [ShelfWf, shelf_pushReply]
    exact h
  leaving rx u s h := by
    rw [ShelfWf, judgeLeave_shelf]
    exact h

theorem endStarting_shelf (s : State) : shelf (endStarting s) = shelf s := by
  have stored : ∀ (x : Stored) (b : Bool), shelf ((s.setMem { s.mem with stored := x }).setStarting b) = shelf s :=
    fun _ _ => rfl
  unfold endStarting storeScan
  split
  · exact stored _ _
  · rfl

theorem keepsCommands_wf : KeepsCommands ShelfWf :=
  keepsPlain_wf.allCommands keepsLinks_wf
    (fun _ => keepsPlain_wf.judges keepsLinks_wf.judgeQuery (judgeTimebaseSet_keeps fun _ _ h => h))
    (fun p _ => dropRead_wf (isFetchRead p)) (fun _ _ h => h) (fun lines d s _ => powerUp_wf lines d s) fun s h => by
      rw [ShelfWf, endStarting_shelf]
      exact h

/-- Settles O9: the bounds by the room that each operation tests, TakesWf by the part of a state that it looks at. -/
theorem everyStepKeepsTheQueuesBounded : Obligations.EveryStepKeepsTheQueuesBounded := by
  intro s t ht
  refine ⟨fun events replies queue => ?_, fun h => ?_⟩
  · obtain ⟨events, replies, queue⟩ := step_bounded ht ⟨events, replies, queue⟩
    exact ⟨events, replies, queue⟩
  · exact (takesWf_iff t).mpr (keepsCommands_wf.step ht (fun _ h => h) ((takesWf_iff s).mp h))

end Sys2Proof.Machine
end

section
/-! PROOFS. The transmitter (O19, R180): what a free one takes, and what a sent frame leaves. -/

namespace Sys2Proof.Machine

open Sys2Proof

/-! ### What a free transmitter takes (R180) -/

theorem pumpPort_busy {q : StationPort} (h : q.sending.isSome = true) : pumpPort q = q := by
  unfold pumpPort
  rw [if_pos h, ite_self]

section Free

variable {q : StationPort} (ha : q.link = .active) (hs : q.sending = none)

include ha hs

theorem pumpPort_telemetry {x : Telemetry} (ht : q.telemetry = some x) : pumpPort q = { q with
    telemetry := none, sending := some (.telemetry { x with eventsLost := x.eventsLost || q.eventsLost }) } := by
  unfold pumpPort
  rw [if_neg (not_not.mpr ha), if_neg (by rw [hs]; decide), ht]

theorem pumpPort_reply (ht : q.telemetry = none) (hr : q.replies ≠ []) : pumpPort q = { q with sending := some .reply } := by
  unfold pumpPort
  rw [if_neg (not_not.mpr ha), if_neg (by rw [hs]; decide), ht]
  exact if_pos (by simpa using hr)

theorem pumpPort_event (ht : q.telemetry = none) (hr : q.replies = []) (he : q.events ≠ []) :
    pumpPort q = { q with sending := some .event } := by
  unfold pumpPort
  rw [if_neg (not_not.mpr ha), if_neg (by rw [hs]; decide), ht]
  dsimp only
  rw [if_neg (by rw [hr]; decide), if_pos (by simpa using he)]

theorem pumpPort_idle (ht : q.telemetry = none) (hr : q.replies = []) (he : q.events = []) : pumpPort q = q := by
  unfold pumpPort
  rw [if_neg (not_not.mpr ha), if_neg (by rw [hs]; decide), ht]
  dsimp only
  rw [if_neg (by rw [hr]; decide), if_neg (by rw [he]; decide)]

end Free

/-! ### What a sent frame leaves (R177, R180, R181) -/

section Sent

variable {p : Port} {s : State}

theorem frameSent_none (h : s.ports[p].sending = none) : frameSent p s = s := by
  unfold frameSent
  rw [h]

theorem frameSent_telemetry {x : Telemetry} (h : s.ports[p].sending = some (.telemetry x)) : frameSent p s =
    s.setPort p fun q => { q with sending := none, eventsLost := q.eventsLost && !x.eventsLost } := by
  unfold frameSent
  rw [h]

theorem frameSent_event (h : s.ports[p].sending = some .event) : frameSent p s =
    s.setPort p fun q => { q with sending := none, events := q.events.tail } := by
  unfold frameSent
  rw [h]

theorem frameSent_reply (h : s.ports[p].sending = some .reply) : frameSent p s = replyFrameSent p s := by
  unfold frameSent
  rw [h]

section Reply

variable {r : Reply} {rest : List Reply} (h : s.ports[p].sending = some .reply) (hr : s.ports[p].replies = r :: rest)

include h hr

theorem frameSent_part (hl : r.onLastFrame = false) : frameSent p s = s.setPort p fun q =>
    { q with sending := none, replies := { r with framesSent := r.framesSent + 1 } :: rest } := by
  rw [frameSent_reply h, replyFrameSent, hr]
  dsimp only
  rw [if_neg (by rw [hl]; decide)]

theorem frameSent_ordinary (hk : r.kind = .ordinary) (hl : r.onLastFrame = true) :
    frameSent p s = s.setPort p fun q => { q with sending := none, replies := rest } := by
  rw [frameSent_reply h, replyFrameSent, hr]
  dsimp only
  rw [if_pos hl, hk]

theorem frameSent_fetch (hk : r.kind = .fetch) (hl : r.onLastFrame = true) :
    frameSent p s = dropFetch p (s.setPort p fun q => { q with sending := none, replies := rest }) := by
  rw [frameSent_reply h, replyFrameSent, hr]
  dsimp only
  rw [if_pos hl, hk]

theorem frameSent_leave (hk : r.kind = .leave) (hl : r.onLastFrame = true) :
    frameSent p s = leaveActive p .leave (s.setPort p fun q => { q with sending := none, replies := rest }) := by
  rw [frameSent_reply h, replyFrameSent, hr]
  dsimp only
  rw [if_pos hl, hk]

theorem sendingLeave_of (hk : r.kind = .leave) (hl : r.onLastFrame = true) : s.sendingLeave p = true := by
  unfold State.sendingLeave
  rw [h, hr]
  dsimp only
  rw [hk, hl]
  rfl

end Reply

/-- The READ in progress loses the reader of a port's fetch. -/
theorem dropRead_fetch (p : Port) (op : Option ArrayOp) : dropRead (isFetchRead p) op =
    match op with
    | some (.read i n (.fetch q)) => some (.read i n (if q = p then .dropped else .fetch q))
    | o => o := by
  cases op with
  | none => rfl
  | some o =>
    cases o with
    | read i n d =>
      cases d with
      | fetch q => by_cases hq : q = p <;> simp [dropRead, isFetchRead, hq]
      | play => rfl
      | dropped => rfl
    | _ => rfl

/-- A link that goes down does so whatever it was sending, and whatever waited to be sent. -/
theorem dropPort_sent (rest : List Reply) :
    dropPort p (s.setPort p fun q => { q with sending := none, replies := rest }) = dropPort p s := by
  unfold dropPort
  rw [setPort_setPort]

theorem leaveActive_sent (rest : List Reply) (why : DownReason) :
    leaveActive p why (s.setPort p fun q => { q with sending := none, replies := rest }) = leaveActive p why s := by
  have own := setPort_own p (fun q => { q with sending := none, replies := rest }) s
  have motion : (s.setPort p fun q => { q with sending := none, replies := rest }).isMotion p = s.isMotion p := by
    unfold State.isMotion State.isActive
    rw [own]
  have role : (s.setPort p fun q => { q with sending := none, replies := rest }).ports[p].role = s.ports[p].role := by
    rw [own]
  unfold leaveActive
  dsimp only
  rw [dropPort_sent, motion, role]
  rfl

end Sent

end Sys2Proof.Machine
end

section
/-! PROOFS. What the work of a frame start and of its tick leaves of what TELEMETRY reports (O19, R182): the profiles, the rig
record, the sticky flags, the lines, and of a port all but its events. -/

namespace Sys2Proof.Machine

open Sys2Proof

/-! ### The sticky flags (R93, R165) -/

/-- The flags that stay until TAKE STATUS CLEAR. -/
def TakeMemory.flags (m : TakeMemory) : Bool × Bool × Bool := (m.programFail, m.eraseFail, m.chunkReject)

theorem emptySlot_flags (i : SlotNo) (s : State) : (emptySlot i s).mem.flags = s.mem.flags := by
  obtain ⟨v, -, he⟩ := emptySlot_eq i s
  rw [he]
  rfl

theorem completeSlot_flags (i : SlotNo) (f : Header → Header) (s : State) :
    (completeSlot i f s).mem.flags = s.mem.flags := by
  rw [completeSlot_eq]
  rfl

theorem drainFinish_flags (s : State) : (drainFinish s).mem.flags = s.mem.flags := by
  unfold drainFinish
  split
  · split
    · rfl
    · dsimp only
      split
      · exact emptySlot_flags _ s
      · exact completeSlot_flags _ _ s
  · rfl

theorem recordEnds_flags (o : RecOutcome) (s : State) : (recordEnds o s).mem.flags = s.mem.flags := by
  unfold recordEnds
  split
  · rfl
  · rfl
  · exact drainFinish_flags _
  · rfl

theorem recordStart_flags (i : SlotNo) (s : State) : (recordStart i s).mem.flags = s.mem.flags := by
  unfold recordStart
  split
  · exact recordEnds_flags _ s
  · dsimp only
    rw [(raiseMotion_frame _ _).mem, queueDir_eq]
    rfl

theorem recorderFrame_flags (s : State) : (recorderFrame s).mem.flags = s.mem.flags := by
  unfold recorderFrame
  split
  · split
    · split
      · exact recordStart_flags _ s
      · rfl
    · rfl
  · split
    · exact drainFinish_flags _
    · rfl
  · rfl

theorem composeSample_flags (s : State) : (composeSample s).mem.flags = s.mem.flags := by
  by_cases hs : s.recorder.state = .recording
  · rw [composeSample_mem hs]
  · unfold composeSample
    dsimp only
    rw [if_pos hs]

/-! ### What stays -/

/-- What a frame and its tick leave alone, the lines apart. -/
structure Unreported (s t : State) : Prop where
  lens : t.lens = s.lens
  rig : t.rig = s.rig
  parked : t.drives.parked = s.drives.parked
  flags : t.mem.flags = s.mem.flags
  port : ∀ p : Port, Told s.ports[p] t.ports[p]
  lost : ∀ p : Port, s.ports[p].eventsLost = true → t.ports[p].eventsLost = true

namespace Unreported

theorem refl (s : State) : Unreported s s := ⟨rfl, rfl, rfl, rfl, fun _ => .refl _, fun _ h => h⟩

theorem trans {s t u : State} (a : Unreported s t) (b : Unreported t u) : Unreported s u :=
  ⟨b.lens.trans a.lens, b.rig.trans a.rig, b.parked.trans a.parked, b.flags.trans a.flags,
    fun p => (a.port p).trans (b.port p), fun p h => b.lost p (a.lost p h)⟩

end Unreported

theorem raiseFor_unreported (aud : Port → Bool) (body : EventBody) (s : State) : Unreported s (raiseFor aud body s) := by
  refine ⟨rfl, rfl, rfl, rfl, told_raiseFor aud body s, fun p h => ?_⟩
  rw [raiseFor_port]
  split
  · unfold pushEvent
    split
    · exact h
    · rfl
  · exact h

theorem Unreported.raise {s t : State} (h : Unreported s t) (aud : Port → Bool) (body : EventBody) :
    Unreported s (raiseFor aud body t) := h.trans (raiseFor_unreported aud body t)

/-- What raises events and changes the take memory and the Recorder, where the flags stay. -/
theorem unreported_of {f : State → State} (keeps : ∀ {P : State → Prop}, KeepsTakes P → ∀ s, P s → P (f s))
    (flags : ∀ s, (f s).mem.flags = s.mem.flags) {s t : State} (h : Unreported s t) : Unreported s (f t) := by
  have frame := keeps (keepsTakes_stopFrame t) t (.refl t)
  have lost : KeepsTakes fun u => ∀ p : Port, s.ports[p].eventsLost = true → u.ports[p].eventsLost = true :=
    { raise := fun aud body u hu p hp => (raiseFor_unreported aud body u).lost p (hu p hp)
      mem := fun _ _ _ hu => hu
      recorder := fun _ _ _ hu => hu }
  exact ⟨frame.lens.trans h.lens, frame.rig.trans h.rig, frame.parked.trans h.parked, (flags t).trans h.flags,
    fun p => (h.port p).trans (frame.port p), keeps lost t h.lost⟩

theorem Unreported.setLanes {s t : State} (h : Unreported s t) (x : Vector LaneRec 12) : Unreported s (t.setLanes x) :=
  { h with }

theorem Unreported.setGrants {s t : State} (h : Unreported s t) (x : Vector Grant 12) : Unreported s (t.setGrants x) :=
  { h with }

theorem Unreported.setDrives {s t : State} (h : Unreported s t) {x : DrivePort} (hx : x.parked = t.drives.parked) :
    Unreported s (t.setDrives x) := { h with parked := hx.trans h.parked }

section Kept

variable (s : State)

theorem recordEnds_unreported (o : RecOutcome) {t : State} (h : Unreported s t) : Unreported s (recordEnds o t) :=
  unreported_of (fun k _ => k.recordEnds o) (recordEnds_flags o) h

theorem keepsPlay_unreported : KeepsPlay (Unreported s) where
  raise _ _ _ h := h.raise _ _
  play _ _ _ h := { h with }
  leave l why t h := by
    unfold leaveLane
    split
    · exact h
    · dsimp only
      have left : Unreported s (t.setGrant l fun _ => chooseNext t.lens l t.lanes[l].p t.grants[l]) := { h with }
      split
      · exact (left.raise _ _).raise _ _
      · exact (left.raise _ _).raise _ _
      · exact left.raise _ _
  contexts _ h := { h with }
  dropPlay _ h := { h with flags := h.flags }

theorem keepsStops_unreported : KeepsStops (Unreported s) where
  raise _ _ _ h := h.raise _ _
  recordEnds o _ := recordEnds_unreported s o
  endPlayback o _ := (keepsPlay_unreported s).endPlayback o
  safety _ _ _ h := { h with }
  power on t h := by
    unfold setPower
    split
    · exact h
    · have off : Unreported s (refreshOutputs (t.setSafety { t.safety with drivePower := on })) := { h with }
      exact off.raise _ _

theorem keepsStep_unreported : KeepsStep (Unreported s) where
  raise _ _ _ h := h.raise _ _
  playBefore _ := (keepsPlay_unreported s).playBefore
  playAfter _ := (keepsPlay_unreported s).playAfter
  commitRun _ _ h := (h.setLanes _).setLanes _
  commitStop _ _ h := (h.setLanes _).setLanes _
  commitRest _ h := (h.setLanes _).setLanes _
  writeBack _ _ h := h.setGrants _
  causes cs _ := (keepsStops_unreported s).causeEvents cs
  stoppedTest _ := (keepsStops_unreported s).stoppedTest

theorem keepsDrives_unreported : KeepsDrives (Unreported s) where
  channels _ _ _ h := h.setDrives rfl
  driveCause := driveCause_keeps (fun _ _ _ h => (h.setLanes _).setDrives rfl) fun cs _ => (keepsStops_unreported s).causeEvents cs
  settled _ _ _ _ h := h.setLanes _

end Kept

/-! ### The lines (R139, R182) -/

/-- What the lines tell the Safety Monitor. -/
def Safety.lines (x : Safety) : Bool × Vector PresenceEntry 4 := (x.stopLine, x.presence)

theorem causeEvents_lines (ks : List CauseKind) (s : State) : (causeEvents ks s).safety.lines = s.safety.lines := by
  by_cases h : ks = []
  · rw [h, causeEvents_nil]
  · rw [causeEvents_safety h]
    rfl

theorem keepsStep_lines (v : Bool × Vector PresenceEntry 4) : KeepsStep (fun t => t.safety.lines = v) where
  raise _ _ _ h := h
  playBefore t h := by rw [(playBefore_frame t).safety, h]
  playAfter t h := by rw [(playAfter_frame t).safety, h]
  commitRun _ _ h := h
  commitStop _ _ h := h
  commitRest _ h := h
  writeBack _ _ h := h
  causes ks t h := by rw [causeEvents_lines, h]
  stoppedTest t h := by
    rcases stoppedTest_safety t with hs | ⟨-, hs⟩ <;> rw [hs] <;> exact h

theorem keepsDrives_lines (v : Bool × Vector PresenceEntry 4) : KeepsDrives (fun t => t.safety.lines = v) where
  channels _ _ _ h := h
  driveCause := driveCause_keeps (fun _ _ _ h => h) (fun ks t h => by rw [causeEvents_lines, h])
  settled _ _ _ _ h := h

end Sys2Proof.Machine
end

section
/-! PROOFS. The telemetry of a frame start (O19, R37, R169, R182), and O19. -/

namespace Sys2Proof.Machine

open Sys2Proof

/-! ### The state that TELEMETRY reports -/

/-- The state in which the tick of a frame start forms the TELEMETRY frames: its exchanges are out, its zones not judged. -/
def reportState (w : State) : State := exchangeTick (beforeExchange w)

theorem openWork_unreported (time : Nat) (s : State) : Unreported s (openWork time s) := by
  have opened : ∀ b, Unreported s (s.setTb b) := fun b => { Unreported.refl s with }
  have frame : ∀ t, Unreported s t → Unreported s (playbackFrame (recorderFrame t)) := fun t h =>
    (keepsPlay_unreported s).playbackFrame (unreported_of (fun k _ => k.recorderFrame) recorderFrame_flags h)
  unfold openWork
  dsimp only
  split
  · exact frame _ ((keepsPlay_unreported s).endPlayback _ (recordEnds_unreported s _ (opened _)))
  · exact frame _ (opened _)

theorem openWork_t (time : Nat) (s : State) : (openWork time s).tb.t = 0 := by
  rw [(openWork_tickStart time s).frame.tb]
  rfl

theorem reportState_unreported (w : State) : Unreported w (reportState w) := by
  have step : Unreported w (tickStep w) := (keepsStep_unreported w).step (.refl w)
  refine (keepsDrives_unreported w).exchangeTick ?_
  unfold beforeExchange
  split
  · exact unreported_of (fun k _ => k.composeSample) composeSample_flags step
  · exact step

theorem reportState_lines (w : State) : (reportState w).safety.lines = w.safety.lines := by
  have step : (tickStep w).safety.lines = w.safety.lines := (keepsStep_lines _).step rfl
  exact (keepsDrives_lines _).exchangeTick (by rw [(beforeExchange_frame w).2.2.2.1, step])

/-- What is reported of the clock, the lanes, the profiles and the drives' replies still stands once the zones are judged. -/
structure Reported (u t : State) : Prop where
  tb : t.tb = u.tb
  lanes : t.lanes = u.lanes
  lens : t.lens = u.lens
  status : ∀ l : Lane, t.drives.channels[l].status = u.drives.channels[l].status

theorem tickWork_reported (w : State) : Reported (reportState w) (tickWork w) where
  tb := by rw [tickWork_tb, ← exchanged_tb w, (exchanged_frame w).tb, reportState]
  lanes := by rw [tickWork_eq, evaluateZones_lanes, (exchanged_frame w).lanes, reportState]
  lens := by
    rw [tickWork_eq, ((keepsStops_unreported _).evaluateZones (.refl _)).lens, (exchanged_frame w).lens, reportState]
  status l := by rw [(channel_of_core (tickWork_core w l)).2.2.2, (exchanged_frame w).drives, reportState]

/-! ### The ports (R180, R182) -/

/-- The port once its frame is formed, where it forms one. -/
def StationPort.reporting (active : Bool) (x : Telemetry) (q : StationPort) : StationPort :=
  if active then { q with telemetry := some x } else q

theorem reporting_keeps (active : Bool) (x : Telemetry) (q : StationPort) :
    (q.reporting active x).sending = q.sending ∧ (q.reporting active x).events = q.events ∧
      (q.reporting active x).eventsLost = q.eventsLost := by
  cases active <;> exact ⟨rfl, rfl, rfl⟩

/-- The port of a tick once its frame is formed. -/
def withReport (w : State) (p : Port) : StationPort := (reportState w).ports[p].reporting (decide (w.ports[p].link = .active))
  ((reportState w).telemetryFor (playBefore w).holders (reportState w).ports[p])

/-- The frame is formed in its waiting place; the rest of the port stays. -/
theorem withReport_keeps (w : State) (p : Port) : (withReport w p).sending = (reportState w).ports[p].sending ∧
    (withReport w p).events = (reportState w).ports[p].events ∧
    (withReport w p).eventsLost = (reportState w).ports[p].eventsLost := by
  rw [withReport]
  exact reporting_keeps _ _ _

theorem withReport_active {w : State} {p : Port} (h : w.ports[p].link = .active) : (withReport w p).telemetry =
    some ((reportState w).telemetryFor (playBefore w).holders (reportState w).ports[p]) := by
  rw [withReport, decide_eq_true h, StationPort.reporting, if_pos rfl]

theorem withReport_inactive {w : State} {p : Port} (h : w.ports[p].link ≠ .active) :
    withReport w p = (reportState w).ports[p] := by
  rw [withReport, decide_eq_false h, StationPort.reporting, if_neg (by decide)]

theorem exchanged_port {w : State} (hw : w.tb.t = 0) (p : Port) : (exchanged w).ports[p] = withReport w p := by
  have active : (reportState w).isActive p = decide (w.ports[p].link = .active) := by
    rw [State.isActive, ((reportState_unreported w).port p).link]
  unfold exchanged
  rw [if_pos hw]
  change (formTelemetry _ (reportState w)).ports[p] = _
  rw [formTelemetry, State.setPorts_ports, mapAll_get, active, withReport, StationPort.reporting]

theorem tickWork_port {w : State} (hw : w.tb.t = 0) (p : Port) : Told (withReport w p) (tickWork w).ports[p] := by
  rw [tickWork_eq, ← exchanged_port hw]
  exact ((keepsStops_unreported _).evaluateZones (.refl _)).port p

/-! ### With no zone in the table -/

theorem clearExit_none {z : ZoneNo} {s : State} (h : s.safety.zones[z].record = none) : clearExit z s = s := by
  unfold clearExit ZoneEntry.armedKeepOut
  dsimp only
  rw [h, if_neg]
  simp

/-- With no zone in the table the zones' evaluation raises no event. -/
theorem evaluateZones_ports {s : State} (h : ∀ z : ZoneNo, s.safety.zones[z].record = none) :
    (evaluateZones s).ports = s.ports := by
  have judged : ∀ z : ZoneNo, (zonesJudged s).safety.zones[z].record = none := fun z => by
    rw [zonesJudged_zone, (evalZone_keeps _ _).1, h z]
  have same : zonesEvaluated s = zonesJudged s :=
    forEach_keeps (P := fun t => t = zonesJudged s) (fun z t ht => by rw [ht]; exact clearExit_none (judged z)) _ rfl
  rw [evaluateZones_eq, breaches_none h, causeEvents_nil, same, zonesJudged, State.setSafety_ports]

/-- What is reported of the other units stands too, where the table has no zone. -/
structure ReportedAll (u t : State) : Prop where
  safety : t.safety = { u.safety with zones := t.safety.zones }
  drives : t.drives = u.drives
  play : t.play = u.play
  recorder : t.recorder = u.recorder

theorem reportedAll_of {u e t : State} {v : Vector ZoneEntry 16} (formed : SameButQueues u e)
    (judged : SameButQueues (e.setSafety { e.safety with zones := v }) t) : ReportedAll u t where
  safety := by
    rw [judged.safety, State.setSafety_safety, formed.safety]
  drives := judged.drives.trans formed.drives
  play := judged.play.trans formed.play
  recorder := judged.recorder.trans formed.recorder

section NoZone

variable {w : State} (h : ∀ z : ZoneNo, w.safety.zones[z].record = none)

include h

theorem exchanged_noZone (z : ZoneNo) : (exchanged w).safety.zones[z].record = none := by
  rw [exchanged_zones]
  exact h z

theorem tickWork_reportedAll : ReportedAll (reportState w) (tickWork w) := by
  rw [tickWork_eq]
  exact reportedAll_of (exchanged_frame w) (evaluateZones_none (exchanged_noZone h))

theorem tickWork_port_noZone (hw : w.tb.t = 0) (p : Port) : (tickWork w).ports[p] = withReport w p := by
  rw [tickWork_eq, evaluateZones_ports (exchanged_noZone h), exchanged_port hw]

end NoZone

end Sys2Proof.Machine
end

section
/-! PROOFS. What the TELEMETRY frame of a frame start carries (R182), and O19. -/

namespace Sys2Proof.Machine

open Sys2Proof

/-! ### One frame -/

theorem lensValue_absent {s : State} {l : Lane} (h : s.lanes[l].present = false) : s.lensValue l = none := by
  unfold State.lensValue State.lanePresent
  rw [if_neg (by rw [h]; decide)]

theorem Reported.lensValue {u t : State} (h : Reported u t) (l : Lane) : t.lensValue l = u.lensValue l := by
  unfold State.lensValue State.lanePresent
  rw [h.lanes, h.lens]

theorem telemetryFor_lane (u : State) (hs : Vector (Option Holder) 12) (q : StationPort) (l : Lane) :
    (u.telemetryFor hs q).lanes[l] = u.laneView hs l := by
  unfold State.telemetryFor
  rw [Fin.getElem_fin, Vector.getElem_ofFn]

theorem holders_get (s : State) (l : Lane) : s.holders[l] = s.grants[l].holder.map fun h => h.who := mapAll_get _ _ l

theorem Told.telemetry {q r : StationPort} (h : Told q r) : r.telemetry = q.telemetry := by rw [h]
theorem Told.sending {q r : StationPort} (h : Told q r) : r.sending = q.sending := by rw [h]
theorem Told.role {q r : StationPort} (h : Told q r) : r.role = q.role := by rw [h]

theorem carriedLoss_iff (q : StationPort) : q.carriedLoss = true ↔ ∃ y, q.telemetry = some y ∧ y.eventsLost = true := by
  unfold StationPort.carriedLoss
  split
  · next x hx =>
    rw [hx]
    simp
  · next hx =>
    rw [hx]
    simp

/-- The k that is reported while rolling, and in a segment. -/
theorem reportedK_rolling {x : Playback} (h : x.state = .rolling) : x.reportedK = x.k := by
  unfold Playback.reportedK
  rw [h]

theorem reportedK_deferred {x : Playback} (h : x.state = .deferred) : x.reportedK = x.deferIndex := by
  unfold Playback.reportedK
  rw [h]

/-! ### O19 -/

/-- What TELEMETRY says of the clock, the role, the lines and the flags. -/
theorem report_part {s u t : State} (left : Unreported s u) (lines : u.safety.lines = s.safety.lines) (same : Reported u t)
    (hs : Vector (Option Holder) 12) (p : Port) :
    let x := u.telemetryFor hs u.ports[p]
    (s.ports[p].eventsLost = true ∨ (∃ y, s.ports[p].telemetry = some y ∧ y.eventsLost = true) → x.eventsLost = true) ∧
      (x.eventsLost = true → u.ports[p].eventsLost = true ∨ ∃ y, s.ports[p].telemetry = some y ∧ y.eventsLost = true) ∧
      x.f = t.tb.f ∧ x.mode = t.tb.mode ∧ x.lock = t.tb.lock ∧ x.n = t.tb.n ∧ x.workingPeriod = t.tb.workingPeriod ∧
      x.flywheelCount = t.tb.flywheelCount ∧ x.role = s.ports[p].role ∧ x.stopLine = s.safety.stopLine ∧
      (∀ i : Fin 4, x.presence[i] = s.safety.presence[i].asserted) ∧ x.parked = s.drives.parked ∧
      x.frozen = s.rig.record.frozen ∧ x.freezePending = s.rig.freezePending ∧ x.programFail = s.mem.programFail ∧
      x.eraseFail = s.mem.eraseFail ∧ x.chunkReject = s.mem.chunkReject := by
  have told := left.port p
  have loss : u.ports[p].carriedLoss = s.ports[p].carriedLoss := by
    rw [StationPort.carriedLoss, StationPort.carriedLoss, told.telemetry]
  have carried : (u.telemetryFor hs u.ports[p]).eventsLost = (u.ports[p].eventsLost || s.ports[p].carriedLoss) := by
    rw [← loss]
    rfl
  obtain ⟨stopLine, presence⟩ := Prod.mk.inj lines
  obtain ⟨programFail, sticky⟩ := Prod.mk.inj left.flags
  obtain ⟨eraseFail, chunkReject⟩ := Prod.mk.inj sticky
  dsimp only
  rw [carried, Bool.or_eq_true, carriedLoss_iff, same.tb, ← left.rig, ← left.parked, ← stopLine, ← presence, ← programFail,
    ← eraseFail, ← chunkReject]
  exact ⟨Or.imp_left (left.lost p), id, rfl, rfl, rfl, rfl, rfl, rfl, told.role, rfl, fun i => mapAll_get _ _ i, rfl, rfl,
    rfl, rfl, rfl, rfl⟩

/-- What TELEMETRY says of the lanes, where that still stands. -/
theorem report_lane {u t : State} (same : Reported u t) (hs : Vector (Option Holder) 12) (q : StationPort) (l : Lane) :
    let v := (u.telemetryFor hs q).lanes[l]
    v.present = t.lanes[l].present ∧ v.p = t.lanes[l].p ∧ v.v = t.lanes[l].v ∧ v.sEff = t.lanes[l].sEff ∧
      v.condition = t.lanes[l].condition ∧ v.limitClip = t.lanes[l].limitClip ∧ v.capped = t.lanes[l].capped ∧
      v.holder = hs[l] ∧ v.status = t.drives.channels[l].status ∧
      v.lensValue = t.lensValue l ∧ (t.lanes[l].present = false → v.lensValue = none) := by
  dsimp only
  rw [telemetryFor_lane, same.status, same.lensValue, same.lanes]
  exact ⟨rfl, rfl, rfl, rfl, rfl, rfl, rfl, rfl, rfl, rfl, lensValue_absent⟩

/-- The rest of what TELEMETRY says, where that still stands. -/
theorem report_units {u t : State} (same : ReportedAll u t) (hs : Vector (Option Holder) 12) (q : StationPort) :
    let x := u.telemetryFor hs q
    x.stop = t.safety.stop ∧ x.causes = t.safety.causes ∧ x.drivePower = t.safety.drivePower ∧
      x.asker = t.safety.release.map (fun r => r.asker) ∧ x.eventDepth = q.events.length ∧
      (∀ l : Lane, x.lanes[l].outputs = (t.drives.channels[l].enable && t.drives.channels[l].brake)) ∧
      x.playState = t.play.state ∧ x.playSlot = t.play.slot ∧ x.spoiled = t.play.spoiled ∧
      x.stallCount = t.play.stallCount ∧ x.readAhead = t.play.buffer.length ∧
      (t.play.state = .rolling → x.k = t.play.k) ∧ (t.play.state = .deferred → x.k = t.play.deferIndex ∧
        x.r = t.play.resumeIndex) ∧ (t.play.state ≠ .deferred → x.r = none) ∧
      x.recState = t.recorder.state ∧ x.recSlot = t.recorder.slot ∧ x.composed = t.recorder.composed ∧
      x.queueDepth = t.recorder.queue.length ∧ x.spanOpen = t.recorder.spanOpen ∧
      x.endPending = t.recorder.endPending := by
  dsimp only
  rw [same.safety, same.drives, same.play, same.recorder]
  exact ⟨rfl, rfl, rfl, rfl, rfl, fun l => by rw [telemetryFor_lane]; rfl, rfl, rfl, rfl, rfl, rfl, reportedK_rolling, fun hd =>
    ⟨reportedK_deferred hd, if_pos hd⟩, fun hd => if_neg hd, rfl, rfl, rfl, rfl, rfl, rfl⟩

/-- Settles O19. -/
theorem transmitterTakesAndSends : Obligations.TransmitterTakesAndSends := by
  refine ⟨fun q ha => ⟨pumpPort_busy, fun hs => ⟨fun x => pumpPort_telemetry ha hs, pumpPort_reply ha hs, pumpPort_event ha hs,
    pumpPort_idle ha hs⟩⟩, fun time s p => ?_, fun p s => ⟨fun h => ?_, fun x h => ?_, fun h => ?_, fun r rest h hr => ⟨fun hl =>
      ⟨fun hk => ?_, fun hk => ?_, fun hk => ?_⟩, fun hl => ?_⟩⟩⟩
  · have opened := openWork_unreported time s
    have start := openWork_tickStart time s
    have hw := openWork_t time s
    have begun : beginFrame time s = tickWork (openWork time s) := rfl
    rw [begun]
    generalize openWork time s = w at opened start hw
    have reported := opened.trans (reportState_unreported w)
    have told := reported.port p
    have formed := tickWork_port hw p
    have link : w.ports[p].link = s.ports[p].link := (opened.port p).link
    have same := tickWork_reported w
    have lines : (reportState w).safety.lines = s.safety.lines := by rw [reportState_lines, start.safety]
    obtain ⟨lost, loses, part⟩ := report_part reported lines same (playBefore w).holders p
    have lanes := report_lane same (playBefore w).holders (reportState w).ports[p]
    obtain ⟨sending, events, eventsLost⟩ := withReport_keeps w p
    refine ⟨fun hn => ?_, fun ha => ?_⟩
    · rw [formed.telemetry, withReport_inactive (by rw [link]; exact hn), told.telemetry]
    · have waits := formed.telemetry.trans (withReport_active (link.trans ha))
      refine ⟨_, waits, formed.sending.trans (sending.trans told.sending), lost, ?_⟩
      obtain ⟨f, mode, lock, n, period, count, role, stopLine, presence, parked, frozen, freezing, programFail, eraseFail,
        chunkReject⟩ := part
      refine ⟨f, mode, lock, n, period, count, role, stopLine, presence, parked, frozen, freezing, programFail, eraseFail,
        chunkReject, fun l => ?_, fun hz => ?_⟩
      · rw [← holders_get]
        exact lanes l
      · have none : ∀ z : ZoneNo, w.safety.zones[z].record = none := fun z => by rw [start.safety, hz z]
        have port := tickWork_port_noZone none hw p
        obtain ⟨stop, causes, power, asker, depth, units⟩ := report_units (tickWork_reportedAll none) (playBefore w).holders
          (reportState w).ports[p]
        refine ⟨stop, causes, power, asker, ?_, fun hl => ?_, units⟩
        · rw [port, events]
          exact depth
        · rw [port, eventsLost]
          exact loses hl
  · exact congrArg (fun u => Host.Outcome.next (settle u)) (frameSent_event h)
  · exact congrArg (fun u => Host.Outcome.next (settle u)) (frameSent_telemetry h)
  · exact congrArg (fun u => Host.Outcome.next (settle u)) (frameSent_none h)
  · exact congrArg (fun u => Host.Outcome.next (settle u)) (frameSent_ordinary h hr hk (decide_eq_true hl))
  · refine congrArg (fun u => Host.Outcome.next (settle u)) ((frameSent_fetch h hr hk (decide_eq_true hl)).trans ?_)
    rw [dropFetch, dropRead_fetch]
    rfl
  · have sent := frameSent_leave h hr hk (decide_eq_true hl)
    rw [leaveActive_sent] at sent
    refine (congrArg (fun u => Host.Outcome.next (settle u)) sent).trans (congrArg Host.Outcome.next ?_)
    exact (if_pos (sendingLeave_of h hr hk (decide_eq_true hl))).symm
  · exact congrArg (fun u => Host.Outcome.next (settle u)) (frameSent_part h hr (decide_eq_false (by omega)))

end Sys2Proof.Machine
end
